-- ==== Sys2Proof/Word.lean ====
section
/-! DEFINITION. The sizes of things (spec 00, section 6) and the two numbers that size the part. -/

namespace Sys2Proof

/-- A byte: 8 bits. -/
abbrev Byte := BitVec 8

/-- A 16-bit quantity: the counts, the cycle number and the cycle offset. -/
abbrev Half := BitVec 16

/-- A word of host memory or of the register window: 32 bits. -/
abbrev Word := BitVec 32

/-- A host byte address: 32 bits; sums of addresses wrap (R21). -/
abbrev Addr := BitVec 32

/-- A channel number, 0 to 63. -/
abbrev Channel := Fin 64

/-- The number of a context-cache entry, 0 to 15 (R85). -/
abbrev EntryIx := Fin 16

/-- The number of a guard window, 0 to 3 (R137). -/
abbrev WindowIx := Fin 4

end Sys2Proof
end

