-- ==== Sys2Proof/Syntax.lean ====
section
/-! DEFINITION. The commands: one constructor per row of spec/opcode_table.json, in the table's order, with the
operands the rule of the row gives it. -/

namespace Sys2Proof

/-- The registers CONFIG_WRITE writes (R159): NODE_ADDRESS, TABLE_BASE, the eight guard bounds and GUARD_RIGHTS. -/
inductive ConfigReg where
  | nodeAddress
  | tableBase
  | guardBase (w : WindowIx)
  | guardLimit (w : WindowIx)
  | guardRights
deriving DecidableEq, Repr

/-- How the host bus ends a write burst (R122). -/
inductive WriteEnd where
  | completion
  | busError
deriving DecidableEq, Repr

/-- How the host bus ends a read burst (R122). A completion carries the bytes that the host itself wrote to host
memory before the burst read it (R13; log 7): the read returns memory with those writes in it. -/
inductive ReadEnd where
  | completion (hostWrites : List (Addr × Byte))
  | busError
deriving DecidableEq, Repr

/-- The commands of the WB-6416, one per row of spec/opcode_table.json. -/
inductive Instr where
  /-- RESET_ASSERT (R171) -/
  | resetAssert
  /-- RESET_RELEASE (R171) -/
  | resetRelease
  /-- SOFT_RESET (R172): a write of `value` to SOFT_RESET -/
  | softReset (value : Word)
  /-- START (R167): a write of code 1 to COMMAND -/
  | start (operand : Byte)
  /-- STOP (R168): code 2 -/
  | stop (operand : Byte)
  /-- HOLD (R110): code 3 -/
  | hold (operand : Byte)
  /-- RELEASE (R116): code 4 -/
  | release (operand : Byte)
  /-- RETURN (R117): code 5 -/
  | returnBuffer (operand : Byte)
  /-- PIN (R100): code 6 -/
  | pin (operand : Byte)
  /-- UNPIN (R101): code 7 -/
  | unpin (operand : Byte)
  /-- FLUSH (R102): code 8 -/
  | flush (operand : Byte)
  /-- PURGE (R103): code 9 -/
  | purge (operand : Byte)
  /-- RESUME_EVENTS (R154): code 10 -/
  | resumeEvents (operand : Byte)
  /-- BAD_COMMAND (R165): a code outside 1 to 10 -/
  | badCommand (code operand : Byte)
  /-- INT_PENDING_WRITE (R155) -/
  | intPendingWrite (value : Word)
  /-- INT_MASK_WRITE (R155) -/
  | intMaskWrite (value : Word)
  /-- STICKY_STATUS_WRITE (R160) -/
  | stickyStatusWrite (value : Word)
  /-- CONFIG_WRITE (R159) -/
  | configWrite (reg : ConfigReg) (value : Word)
  /-- EQ_BASE_WRITE (R148) -/
  | eqBaseWrite (value : Word)
  /-- EQ_SIZE_WRITE (R148) -/
  | eqSizeWrite (value : Word)
  /-- GLOBAL_ENABLES_WRITE (R159) -/
  | globalEnablesWrite (value : Word)
  /-- EQ_CONSUMER_WRITE (R148) -/
  | eqConsumerWrite (value : Word)
  /-- LINK_ERRORS_WRITE (R51) -/
  | linkErrorsWrite (value : Word)
  /-- CHANNEL_SELECT_WRITE (R119) -/
  | channelSelectWrite (value : Word)
  /-- REGISTER_WRITE (R158): a write access at `offset`, with the byte enables and the word on the bus -/
  | registerWrite (offset : Byte) (enables : BitVec 4) (value : Word)
  /-- OPENING_FLAG (R47) -/
  | openingFlag
  /-- DATA_SYMBOL (R47) -/
  | dataSymbol (byte : Byte)
  /-- CLOSING_FLAG (R49) -/
  | closingFlag
  /-- ABORT_SYMBOL (R47) -/
  | abortSymbol
  /-- BAD_SYMBOL (R40): a control symbol with an undefined payload -/
  | badSymbol (payload : Byte)
  /-- SYMBOL_SILENCE_LIMIT (R40) -/
  | symbolSilenceLimit
  /-- REPLY_READY (R69) -/
  | replyReady
  /-- EARLIEST_START (R52) -/
  | earliestStart
  /-- REPLY_START (R52) -/
  | replyStart
  /-- COMMIT_EXPIRY (R70) -/
  | commitExpiry
  /-- TRANSMIT_BYTE_DUE (R53) -/
  | transmitByteDue
  /-- REPLY_END (R54) -/
  | replyEnd
  /-- RECOVERY_END (R54) -/
  | recoveryEnd
  /-- BROADCAST_COMMIT (R80) -/
  | broadcastCommit
  /-- CYCLE_OFFSET_TICK (R58) -/
  | cycleOffsetTick
  /-- FILL_TAKES_ENTRY (R90) -/
  | fillTakesEntry
  /-- BURST_GRANT (R125) -/
  | burstGrant
  /-- LINEFILL_END (R92) -/
  | linefillEnd (result : ReadEnd)
  /-- EVICTION_CASTOUT_END (R91) -/
  | evictionCastoutEnd (result : WriteEnd)
  /-- INVALIDATION_CASTOUT_END (R104) -/
  | invalidationCastoutEnd (result : WriteEnd)
  /-- WRITE_END (R95) -/
  | writeEnd (result : WriteEnd)
  /-- STORE_BURST_END (R130) -/
  | storeBurstEnd (result : WriteEnd)
  /-- FETCH_BURST_END (R134) -/
  | fetchBurstEnd (result : ReadEnd)
  /-- RETIRE_RECORD_STEP (R143) -/
  | retireRecordStep
  /-- RECORD_WORD_END (R143) -/
  | recordWordEnd (result : WriteEnd)
  /-- EVENT_ENTRY_WRITE (R149) -/
  | eventEntryWrite
  /-- EVENT_ENTRY_WRITE_END (R150) -/
  | eventEntryWriteEnd (result : WriteEnd)
  /-- HOLD_END (R112) -/
  | holdEnd
  /-- FLUSH_MEMBER (R102) -/
  | flushMember
  /-- PURGE_MEMBER (R103) -/
  | purgeMember
  /-- STOP_DRAIN_COMPLETIONS (R156) -/
  | stopDrainCompletions
  /-- STOP_CACHE_STEP (R105) -/
  | stopCacheStep
  /-- STOP_EVENT_STEP (R156) -/
  | stopEventStep
  /-- STOP_END (R169) -/
  | stopEnd
deriving DecidableEq, Repr

end Sys2Proof
end

