-- ==== Sys2Proof/Machine/Bits.lean ====
section
/-! DEFINITION. Bit fields, byte order, rounding, the saturating counts and the link's CRC. -/

namespace Sys2Proof.Machine

/-- The field of `n` bits from bit `lo` up (R175). -/
def getField (w : Word) (lo n : Nat) : BitVec n := w.extractLsb' lo n

/-- `w` with the field of `n` bits from bit `lo` up set to `v`, every other bit kept. -/
def putField (w : Word) (lo n : Nat) (v : BitVec n) : Word :=
  (w &&& ~~~((BitVec.allOnes n).setWidth 32 <<< lo)) ||| (v.setWidth 32 <<< lo)

/-- Bit `i` of a word. -/
def getBit (w : Word) (i : Nat) : Bool := w.getLsbD i

/-- `w` with bit `i` set to `b`. -/
def putBit (w : Word) (i : Nat) (b : Bool) : Word := putField w i 1 (BitVec.ofBool b)

/-- "L rounded up to 4" (spec 00, section 6). -/
def round4 (n : Nat) : Nat := (n + 3) / 4 * 4

/-- The bytes of a word, the byte at the lowest address first (R123). -/
def bytesOfWord (w : Word) : List Byte :=
  [w.extractLsb' 0 8, w.extractLsb' 8 8, w.extractLsb' 16 8, w.extractLsb' 24 8]

/-- The word whose bytes are `b0` (lowest address) to `b3` (R123). -/
def wordOfBytes (b0 b1 b2 b3 : Byte) : Word := b3 ++ b2 ++ b1 ++ b0

/-- A saturating count after `n` more (spec 00, section 6). -/
def saturate (x : Half) (n : Nat) : Half := BitVec.ofNat 16 (min 65535 (x.toNat + n))

/-- One bit entering the check register (R42). -/
def crcBit (c : BitVec 16) (b : Bool) : BitVec 16 :=
  let shifted := c >>> 1
  if (c.getLsbD 0 ^^ b) then shifted ^^^ 0xA001#16 else shifted

/-- One byte entering the check register, least significant bit first (R42). -/
def crcByte (c : BitVec 16) (b : Byte) : BitVec 16 :=
  [0, 1, 2, 3, 4, 5, 6, 7].foldl (fun c i => crcBit c (b.getLsbD i)) c

/-- The check over bytes in line order from 0xFFFF (R42). -/
def crcOf (bytes : List Byte) : BitVec 16 := bytes.foldl crcByte 0xFFFF#16

/-- The CRC bytes of a check value, low byte first (R42). -/
def crcBytesOf (c : BitVec 16) : List Byte := [c.extractLsb' 0 8, c.extractLsb' 8 8]

/-- Element `i` of `v` replaced by its image. -/
def modifyAt {α : Type} {k : Nat} (v : Vector α k) (i : Fin k) (f : α → α) : Vector α k :=
  v.set i.val (f (v[i.val]'i.isLt)) i.isLt

end Sys2Proof.Machine
end

