-- ==== Sys2Proof/Config.lean ====
section
/-! DEFINITION. What the part fixes, and the free values: the results the spec leaves to the host bus or to
timing the model does not keep. A free value is an opaque constant applied to a counter of State, so nothing can
be proved of it and every statement holds whatever it is (log 6, log 12). -/

namespace Sys2Proof.Config

/-- The value IDENT reads (Table 11-9). -/
def ident : Word := 0x6416A301#32

/-- Bytes the receive staging buffer holds (R127). -/
def receiveCapacity : Nat := 256

/-- Bytes the transmit staging buffer holds (R134). -/
def transmitCapacity : Nat := 64

/-- Entries of the completion queue (R141). -/
def completionCapacity : Nat := 4

/-- Events the pending event queue holds (R147). -/
def eventCapacity : Nat := 8

/-- Channels that may be pinned at a time (R99). -/
def pinLimit : Nat := 8

/-- Bytes of a message that must be staged before a GET reply may start, unless it is shorter (Table 4-5). -/
def readyThreshold : Nat := 32

/-- FREE VALUE (log 6): which words of a write burst that failed (R122) or was abandoned by a reset (R140) reached
host memory; bit k stands for word k of the burst. "Which of its words reached memory before the error depends on
the host bus." -/
opaque landedWords : Nat → BitVec 8

/-- FREE VALUE (log 12): how many CRC bytes had gone out when a reply whose context was lost is ended "in place of
the next CRC byte or the closing flag" (R83). -/
opaque crcBytesOut : Nat → Fin 3

end Sys2Proof.Config
end

