-- ==== Sys2Proof/Machine/State.lean ====
section
/-! DEFINITION. Everything the spec gives the block, as plain data, block by block (Table 0-1), and its state right
after reset (Table 9-6). -/

namespace Sys2Proof.Machine

/-! ### Host memory -/

/-- Host memory: the bytes that differ from what an unlisted address reads as, addresses strictly rising (log 4). -/
abbrev Memory := List Host.Cell

/-- What an address that memory does not list reads as. DESIGN CHOICE, unsafe (log 4): the spec gives host memory
no reset contents. -/
def unlistedByte : Byte := 0#8

/-! ### The channel table's descriptor and the channel status record -/

/-- The eight words of a descriptor (R1, Table 11-4). -/
structure Descriptor where
  w0 : Word
  w1 : Word
  w2 : Word
  w3 : Word
  w4 : Word
  w5 : Word
  w6 : Word
  w7 : Word
deriving DecidableEq, Repr

/-- A descriptor of zeros: what the cache holds before any linefill (log 3). -/
def Descriptor.zero : Descriptor := ⟨0, 0, 0, 0, 0, 0, 0, 0⟩

/-- Hold states (Table 6-2). -/
inductive HoldState where
  | free
  | holdWait
  | held
  | faulted
deriving DecidableEq, Repr

/-- Fault reasons (R115). -/
inductive FaultReason where
  | none
  | linefillFault
  | castoutFault
  | badDescriptor
deriving DecidableEq, Repr

/-- A channel status record (Table 6-1). -/
structure ChannelRecord where
  hold : HoldState
  reason : FaultReason
  subCode : BitVec 4
  pinned : Bool
  returned : Bool
  seqValid : Bool
deriving DecidableEq, Repr

/-- A record after reset (R108). -/
def ChannelRecord.reset : ChannelRecord := ⟨.free, .none, 0, false, false, false⟩

/-! ### Host interface and command unit -/

/-- The host interface's registers (R155, R159 to R161, R119). -/
structure HostIf where
  intPending : BitVec 4
  intMask : BitVec 4
  sticky : BitVec 2
  nodeAddress : BitVec 6
  linkErrorEnable : Bool
  linkResetEnable : Bool
  serviceRequest : Bool
  tableBase : Addr
  channelSelect : Channel
deriving DecidableEq, Repr

/-- Node states (Table 9-2). -/
inductive NodeState where
  | halted
  | running
  | stopping
deriving DecidableEq, Repr

/-- Command results (Table 11-8). -/
inductive CmdResult where
  | none
  | done
  | doneWithFaults
  | refusedBadCommand
  | refusedBadState
  | refusedBadChannel
  | refusedAlready
  | refusedNotHeld
  | refusedPinLimit
  | refusedBadConfig
  | fault
deriving DecidableEq, Repr

/-- Where FLUSH or PURGE stands with the member at the head of its list: still to be dealt with, its castout in
flight, or its castout ended (R102, R103). -/
inductive CastPhase where
  | waiting
  | casting
  | cast
deriving DecidableEq, Repr

/-- A set of entries FLUSH or PURGE took, each with the tag it then had: its members, those still to be dealt with in
ascending entry order, and where the head of these stands (R102, R103). An entry of PURGE's second set is a member until
a fill takes it (log 15). -/
structure CastJob where
  members : List (EntryIx × Channel)
  todo : List (EntryIx × Channel)
  phase : CastPhase
deriving DecidableEq, Repr

/-- The steps of STOP (R168), and the wait of R169 after them. -/
inductive StopStep where
  | request
  | completions
  | cache
  | events
  | halting
deriving DecidableEq, Repr

/-- The command in progress (R164): a HOLD that waits, a FLUSH or PURGE with its sets and whether a member's write
has faulted, a STOP with its step and whether a fault report was taken. -/
inductive Work where
  | none
  | hold (n : Channel)
  | flush (job : CastJob) (faulted : Bool)
  | purge (first second : CastJob) (faulted : Bool)
  | stop (at_ : StopStep) (faulted : Bool)
deriving DecidableEq, Repr

/-- The command unit (R163 to R166). COMMAND and the code and operand of COMMAND_RESULT are the same values. -/
structure CommandUnit where
  node : NodeState
  code : Byte
  operand : Byte
  busy : Bool
  result : CmdResult
  work : Work
deriving DecidableEq, Repr

/-! ### Link interface -/

/-- A symbol on the line (R39): a data symbol carries a byte, a control symbol its payload. -/
inductive LineSymbol where
  | data (byte : Byte)
  | control (payload : Byte)
deriving DecidableEq, Repr

/-- Frame classes (Table 3-5). -/
inductive FrameClass where
  | addressed
  | broadcast
  | foreign
deriving DecidableEq, Repr

/-- The open frame (R41, R45 to R49): the header bytes taken, the count of data symbols, its class once the NODE
byte is taken, the check register, the SYNC body, the CRC bytes held, and, once its header has been handed to the
exchange engine, the message it carries. -/
structure Frame where
  header : List Byte
  count : Nat
  cls : Option FrameClass
  crc : BitVec 16
  syncBody : List Byte
  crcBytes : List Byte
  msg : Option Nat
deriving DecidableEq, Repr

/-- A frame just opened (R47); the check register starts at 0xFFFF (R42). -/
def Frame.opened : Frame := ⟨[], 0, none, 0xFFFF#16, [], [], none⟩

/-- Who forms the reply that REPLY_WAIT owes (R52, R55, R59, R60). -/
inductive ReplySource where
  | engine
  | status
  | nodeReset
  | stoppingBusy
deriving DecidableEq, Repr

/-- A reply owed: who forms it, and the SEQ bit and CHANNEL byte it echoes (R44, R56). -/
structure OwedReply where
  source : ReplySource
  seq : Bool
  channel : Byte
deriving DecidableEq, Repr

/-- The last point of Table 3-8 the reply timer has passed (log 10). -/
inductive ReplyTimer where
  | closed
  | earliest
deriving DecidableEq, Repr

/-- The transmitter while REPLYING (R53): whether the body is message data, the data bytes still to go out, those
that have gone out, and whether the abort symbol has ended the reply. -/
structure Transmission where
  data : Bool
  left : Nat
  sent : Nat
  aborted : Bool
deriving DecidableEq, Repr

/-- Receiver states (Table 3-7) with what each carries. -/
inductive Receiver where
  | idle
  | receiving (frame : Frame)
  | replyWait (owed : OwedReply) (timer : ReplyTimer)
  | replying (tx : Transmission)
  | recovery
deriving DecidableEq, Repr

/-- The link interface (chapter 3). -/
structure Link where
  rx : Receiver
  lineOut : List LineSymbol
  cycle : Half
  offset : Half
  crcErrors : Half
  frameErrors : Half
deriving DecidableEq, Repr

/-! ### Exchange engine -/

/-- The kinds of request the engine serves (Table 4-1). -/
inductive MsgKind where
  | put
  | get
deriving DecidableEq, Repr

/-- Refusal reasons (Table 3-3). -/
inductive RefuseReason where
  | noChannel
  | direction
  | length
  | exhausted
  | guard
  | fault
deriving DecidableEq, Repr

/-- The fault mark (Table 4-1). -/
inductive FaultMark where
  | none
  | storeFault
  | fetchFault
deriving DecidableEq, Repr

/-- The outcome of a request (Table 4-1). BUSY and REFUSE(FAULT) keep their cause and a drop keeps whether it is
counted, since Table 4-6 counts and reports by cause. -/
inductive Verdict where
  | undecided
  | acceptNew
  | acceptDuplicate
  | busyHold
  | busyOverflow
  | refuse (reason : RefuseReason)
  | refuseFault (mark : FaultMark)
  | dropped (counted : Bool)
  | ignored
deriving DecidableEq, Repr

/-- The phases of the engine other than IDLE (Table 4-2). -/
inductive Phase where
  | lookup
  | admitted
  | awaitReady
  | replying
deriving DecidableEq, Repr

/-- The ranges fixed at admission (R68): the start and length of the data range and the record address. -/
structure Ranges where
  data : Addr
  len : Nat
  record : Addr
deriving DecidableEq, Repr

/-- The request in progress (Table 4-1). `closed` is the good close, `ready` says that the reply has been declared
ready (R69), `lost` that the context was lost during the reply (R83), `byHold` that its header came in the
HOLD_WAIT that stands, which decided it (R65, R111), `msg` names the message (log 5). -/
structure Request where
  kind : MsgKind
  broadcast : Bool
  channel : Channel
  seq : Bool
  length : Byte
  phase : Phase
  verdict : Verdict
  entry : Option EntryIx
  ranges : Option Ranges
  closed : Bool
  overflow : Bool
  fault : FaultMark
  ready : Bool
  lost : Bool
  byHold : Bool
  msg : Nat
deriving DecidableEq, Repr

/-! ### Context cache -/

/-- Entry states (Table 5-1). -/
inductive EntryState where
  | invalid
  | filling
  | clean
  | dirty
  | writing
  | writingDirty
  | evicting
deriving DecidableEq, Repr

/-- A cache entry (R85). `next` is the channel of the fill that chose an entry in EVICTING; none there is an
invalidation castout. -/
structure Entry where
  tag : Channel
  state : EntryState
  age : Nat
  inUse : Bool
  context : Descriptor
  snapshot : Descriptor
  next : Option Channel
deriving DecidableEq, Repr

/-- The bursts the context cache asks for (Table 5-4), each for one entry. -/
inductive CacheBurst where
  | linefill (e : EntryIx)
  | eviction (e : EntryIx)
  | invalidation (e : EntryIx)
  | flushCastout (e : EntryIx)
deriving DecidableEq, Repr

/-- The context cache: its entries, the pending fills in order (R89), and the bursts that became due and wait to be
presented, in order (R96). -/
structure Cache where
  entries : Vector Entry 16
  fills : List Channel
  due : List CacheBurst
deriving DecidableEq, Repr

/-! ### Data mover -/

/-- States of a receive staging segment (Table 7-3). -/
inductive SegmentState where
  | waiting
  | storing
  | discarding
deriving DecidableEq, Repr

/-- A receive staging segment (Table 7-3), with whether its frame has ended (R127). -/
structure Segment where
  msg : Nat
  state : SegmentState
  next : Addr
  held : List Byte
  due : Nat
  fault : Bool
  frameEnded : Bool
deriving DecidableEq, Repr

/-- The transmit staging buffer while it serves a message (R134). -/
structure Staging where
  msg : Nat
  next : Addr
  left : Nat
  held : List Byte
deriving DecidableEq, Repr

/-- A guard window (R137). -/
structure GuardWindow where
  base : Addr
  limit : Addr
  enable : Bool
  store : Bool
  fetch : Bool
deriving DecidableEq, Repr

/-- A window after reset: all zero (R137). -/
def GuardWindow.reset : GuardWindow := ⟨0, 0, false, false, false⟩

/-- The data mover (chapter 7): the segments oldest first, the transmit staging buffer, the guard windows. -/
structure Mover where
  segments : List Segment
  staging : Option Staging
  guards : Vector GuardWindow 4
deriving DecidableEq, Repr

/-! ### Master port -/

/-- What a burst is for (Table 7-1). A fetch and a store name their message and how many of its bytes they carry. -/
inductive BurstKind where
  | fetch (msg bytes : Nat)
  | cache (burst : CacheBurst)
  | store (msg bytes : Nat)
  | recordWord
  | writeThrough (e : EntryIx)
  | event
deriving DecidableEq, Repr

/-- A word of a write burst with its byte enables (R122). -/
structure WriteWord where
  value : Word
  enables : BitVec 4
deriving DecidableEq, Repr

/-- A burst (R122): its first address, its count of words, and for a write its words. -/
structure Burst where
  kind : BurstKind
  addr : Addr
  words : Nat
  data : List WriteWord
deriving DecidableEq, Repr

/-- The master port (R124): one waiting request for each client of Table 7-2, and the burst in flight. The store
client's words are fixed at the grant (R130), so its request names its message only. -/
structure Port where
  fetch : Option Burst
  cache : Option Burst
  store : Option Nat
  retire : Option Burst
  writer : Option Burst
  inFlight : Option Burst
deriving DecidableEq, Repr

/-! ### Retire unit and event writer -/

/-- Event kinds (Table 8-4). -/
inductive EventKind where
  | message
  | milestone
  | messageError
  | refusal
  | channelFault
  | linkError
  | linkReset
  | gap
deriving DecidableEq, Repr

/-- An event: every field of R146 but SERIAL. -/
structure Event where
  kind : EventKind
  channel : Byte
  detail : Byte
  cycle : Half
  offset : Half
  aux16 : Half
  aux32 : Word
deriving DecidableEq, Repr

/-- The fields of a record that are fixed at the commit (Table 2-2). -/
structure RecordFields where
  bcast : Bool
  seq : Bool
  gen : Bool
  length : Byte
  dataOffset : BitVec 20
  cycle : Half
  offset : Half
deriving DecidableEq, Repr

/-- A completion entry (Table 8-1). `recordFault` says that RECORD_FAULT has been added (R143). -/
structure Completion where
  msg : Nat
  channel : Channel
  record : Addr
  fields : RecordFields
  storeFault : Bool
  storesPending : Bool
  descriptorWrite : Bool
  errorEnable : Bool
  recordFault : Bool
  events : List Event
  filled : Bool
deriving DecidableEq, Repr

/-- Where the head entry stands (Table 8-2): before its record step, with word 1 or word 0 of its record presented,
waiting in the descriptor step for a write in flight, or with its own write-through presented. -/
inductive RetireStep where
  | stores
  | word1
  | word0
  | descriptorWait
  | descriptorWrite
deriving DecidableEq, Repr

/-- The retire unit (chapter 8). -/
structure Retire where
  queue : List Completion
  step : RetireStep
deriving DecidableEq, Repr

/-- The entry write the event writer has presented (R149): the event at the head, or a GAP with its count. -/
inductive EntryWrite where
  | event
  | gap (count : Half)
deriving DecidableEq, Repr

/-- The event writer (chapter 8). -/
structure Writer where
  active : Bool
  queue : List Event
  eqBase : Addr
  eqSize : BitVec 4
  producer : BitVec 12
  consumer : BitVec 12
  dropped : Half
  serial : Half
  writing : Option EntryWrite
  fullPeriod : Bool
deriving DecidableEq, Repr

/-! ### The whole state -/

/-- The state of the block, host memory included, with the queue of commands that wait. The fields `nextMsg` (log 5),
`free` (log 6) and `pending` (log 1) are the model's own. -/
structure State where
  resetAsserted : Bool
  host : HostIf
  cmd : CommandUnit
  link : Link
  engine : Option Request
  cache : Cache
  status : Vector ChannelRecord 64
  mover : Mover
  port : Port
  retire : Retire
  writer : Writer
  mem : Memory
  nextMsg : Nat
  free : Nat
  pending : List Instr
deriving DecidableEq, Repr

/-- Why the machine would stop with a fault: never (log 8). What the spec calls a fault is a state of the part (a
FAULTED channel, a halted writer), so no constructor exists; that is safe. -/
inductive Fault where
deriving DecidableEq, Repr

/-- Why a command would be refused. -/
inductive Refusal where
  /-- Raised by exec's arm of a command that has no meaning yet; no arm raises it now. Safe: the machine stops. -/
  | notModelled (mnemonic : String)
deriving DecidableEq, Repr

/-! ### Reset -/

/-- Registers of the host interface after reset (Table 9-6). -/
def HostIf.reset : HostIf := ⟨0, 0, 0, 0, false, false, false, 0, 0⟩

/-- The command unit after reset (R162, R164). -/
def CommandUnit.reset : CommandUnit := ⟨.halted, 0, 0, false, .none, .none⟩

/-- The link interface after reset (R61). -/
def Link.reset : Link := ⟨.idle, [], 0, 0, 0, 0⟩

/-- An entry after reset: INVALID, not in use; tag, context and snapshot are kept by a reset (R85). -/
def Entry.reset (age : Nat) (x : Entry) : Entry :=
  { x with state := .invalid, age := age, inUse := false, next := none }

/-- An entry's contents before any fill (log 3). -/
def Entry.blank : Entry := ⟨0, .invalid, 0, false, .zero, .zero, none⟩

/-- The cache after a reset taken with the entries `x` (R85): entry n has age 15 − n. -/
def Cache.resetOf (x : Vector Entry 16) : Cache :=
  { entries := x.mapFinIdx fun i y _ => y.reset (15 - i), fills := [], due := [] }

/-- The data mover after reset (R140). -/
def Mover.reset : Mover := ⟨[], none, Vector.replicate 4 .reset⟩

/-- The master port after reset (R140). -/
def Port.reset : Port := ⟨none, none, none, none, none, none⟩

/-- The retire unit after reset (R157). -/
def Retire.reset : Retire := ⟨[], .stores⟩

/-- The event writer after reset: ACTIVE (R157). -/
def Writer.reset : Writer := ⟨true, [], 0, 0, 0, 0, 0, 0, none, false⟩

/-- The machine right after reset (Table 9-6), with nothing waiting and nothing listed in memory. -/
def State.reset : State where
  resetAsserted := false
  host := .reset
  cmd := .reset
  link := .reset
  engine := none
  cache := .resetOf (Vector.replicate 16 .blank)
  status := Vector.replicate 64 .reset
  mover := .reset
  port := .reset
  retire := .reset
  writer := .reset
  mem := []
  nextMsg := 0
  free := 0
  pending := []

end Sys2Proof.Machine
end

