-- ==== Sys2Proof/Machine/Memory.lean ====
section
/-! DEFINITION. Host memory: its one canonical form, and the reads and writes of bursts (R122, R123). -/

namespace Sys2Proof.Machine

/-- The byte at address `a`. -/
def Memory.readByte (m : Memory) (a : Addr) : Byte :=
  match m.lookup a.toNat with
  | some b => b
  | none => unlistedByte

/-- Write one byte, keeping the canonical form: writing what an unlisted address reads as removes the entry. -/
def Memory.putCell : Memory → Nat → Byte → Memory
  | [], a, v => if v = unlistedByte then [] else [(a, v)]
  | (b, w) :: m, a, v =>
    if a < b then (if v = unlistedByte then (b, w) :: m else (a, v) :: (b, w) :: m)
    else if a = b then (if v = unlistedByte then m else (a, v) :: m)
    else (b, w) :: Memory.putCell m a v

/-- Write the byte at address `a`. -/
def Memory.writeByte (m : Memory) (a : Addr) (v : Byte) : Memory := Memory.putCell m a.toNat v

/-- Every listed address is at least `lo`, rising strictly, inside the address space, and lists no byte that an
unlisted address reads as. -/
def Memory.wfFrom (lo : Nat) : Memory → Bool
  | [] => true
  | (a, v) :: m => decide (lo ≤ a) && decide (a < 2 ^ 32) && decide (v ≠ unlistedByte) && Memory.wfFrom (a + 1) m

/-- The canonical form of host memory. -/
def Memory.wf (m : Memory) : Bool := Memory.wfFrom 0 m

/-- The little-endian word at address `a` (R123). -/
def Memory.readWord (m : Memory) (a : Addr) : Word :=
  wordOfBytes (Memory.readByte m a) (Memory.readByte m (a + 1)) (Memory.readByte m (a + 2)) (Memory.readByte m (a + 3))

/-- The bytes of a read of `n` bytes from `a`, in address order. -/
def Memory.readBytes (m : Memory) : Addr → Nat → List Byte
  | _, 0 => []
  | a, n + 1 => Memory.readByte m a :: Memory.readBytes m (a + 1) n

/-- Write a byte if its enable is set (R122). -/
def Memory.writeEnabled (m : Memory) (a : Addr) (enabled : Bool) (v : Byte) : Memory :=
  if enabled then Memory.writeByte m a v else m

/-- Write the enabled bytes of a word; the others stay as they were (R122). -/
def Memory.writeWord (m : Memory) (a : Addr) (x : WriteWord) : Memory :=
  let m := Memory.writeEnabled m a (x.enables.getLsbD 0) (x.value.extractLsb' 0 8)
  let m := Memory.writeEnabled m (a + 1) (x.enables.getLsbD 1) (x.value.extractLsb' 8 8)
  let m := Memory.writeEnabled m (a + 2) (x.enables.getLsbD 2) (x.value.extractLsb' 16 8)
  Memory.writeEnabled m (a + 3) (x.enables.getLsbD 3) (x.value.extractLsb' 24 8)

/-- Write the words of a burst at rising addresses (R122). -/
def Memory.writeWords : Memory → Addr → List WriteWord → Memory
  | m, _, [] => m
  | m, a, x :: xs => Memory.writeWords (Memory.writeWord m a x) (a + 4) xs

/-- Write those words of a burst whose bit of `mask` is set, from word `k` on: what a failed or abandoned write leaves
(R122, R140). -/
def Memory.writeLanded (mask : BitVec 8) : Nat → Memory → Addr → List WriteWord → Memory
  | _, m, _, [] => m
  | k, m, a, x :: xs =>
    Memory.writeLanded mask (k + 1) (if mask.getLsbD k then Memory.writeWord m a x else m) (a + 4) xs

/-- Apply the host's own writes in order (log 7). -/
def Memory.hostWrites : Memory → List (Addr × Byte) → Memory
  | m, [] => m
  | m, (a, v) :: ws => Memory.hostWrites (Memory.writeByte m a v) ws

/-- A whole word, all bytes enabled. -/
def WriteWord.full (w : Word) : WriteWord := ⟨w, 0xF#4⟩

/-- The words of a store burst: the bytes in address order from an address aligned to 4, the last word with only its
own bytes enabled (R122, R130). -/
def storeWords : List Byte → List WriteWord
  | [] => []
  | [a] => [⟨wordOfBytes a 0 0 0, 0x1#4⟩]
  | [a, b] => [⟨wordOfBytes a b 0 0, 0x3#4⟩]
  | [a, b, c] => [⟨wordOfBytes a b c 0, 0x7#4⟩]
  | a :: b :: c :: d :: rest => ⟨wordOfBytes a b c d, 0xF#4⟩ :: storeWords rest

/-- Bytes from `a` up to the end of its 32-byte block (R122). -/
def blockRoom (a : Addr) : Nat := 32 - a.toNat % 32

end Sys2Proof.Machine
end

