-- ==== Sys2Proof/Machine/Operands.lean ====
section
/-! DEFINITION. The fields of descriptors, frames, records, events and registers at their bit positions
(chapter 11), the validity of a descriptor (Table 1-5), the ranges of a message (Table 2-3) and the advance of the
schemes (chapter 2). -/

namespace Sys2Proof.Machine

/-! ### Descriptor fields (Table 11-4) -/

/-- Buffering schemes (R3). -/
inductive Mode where
  | off
  | counted
  | alternate
  | ring
deriving DecidableEq, Repr

/-- Write policies (R4); code 3 makes a descriptor invalid. -/
inductive Policy where
  | back
  | through
  | throughOnEvent
  | invalid
deriving DecidableEq, Repr

def Descriptor.mode (d : Descriptor) : Mode :=
  match getBit d.w0 1, getBit d.w0 0 with
  | false, false => .off
  | false, true => .counted
  | true, false => .alternate
  | true, true => .ring

def Descriptor.dir (d : Descriptor) : MsgKind := if getBit d.w0 2 then .get else .put

def Descriptor.policy (d : Descriptor) : Policy :=
  match getBit d.w0 4, getBit d.w0 3 with
  | false, false => .back
  | false, true => .through
  | true, false => .throughOnEvent
  | true, true => .invalid

def Descriptor.bcast (d : Descriptor) : Bool := getBit d.w0 5
def Descriptor.evMsg (d : Descriptor) : Bool := getBit d.w0 8
def Descriptor.evMilestone (d : Descriptor) : Bool := getBit d.w0 9
def Descriptor.evError (d : Descriptor) : Bool := getBit d.w0 10
def Descriptor.evRefusal (d : Descriptor) : Bool := getBit d.w0 11
def Descriptor.maxLen (d : Descriptor) : Byte := getField d.w0 16 8
def Descriptor.addrA (d : Descriptor) : Addr := d.w1
def Descriptor.addrB (d : Descriptor) : Addr := d.w2
def Descriptor.cursor (d : Descriptor) : Addr := d.w3
def Descriptor.recBase (d : Descriptor) : Addr := d.w4
def Descriptor.prev (d : Descriptor) : Addr := d.w4
def Descriptor.quota (d : Descriptor) : Half := getField d.w5 0 16
def Descriptor.recIdx (d : Descriptor) : Byte := getField d.w5 0 8
def Descriptor.gen (d : Descriptor) : Bool := getBit d.w5 8
def Descriptor.recCountLess1 (d : Descriptor) : Byte := getField d.w5 16 8
def Descriptor.lastSeq (d : Descriptor) : Bool := getBit d.w6 0
def Descriptor.active (d : Descriptor) : Bool := getBit d.w6 1
def Descriptor.prevLen (d : Descriptor) : Byte := getField d.w6 8 8
def Descriptor.msgCount (d : Descriptor) : Half := getField d.w6 16 16
def Descriptor.errCount (d : Descriptor) : Half := getField d.w7 0 16
def Descriptor.dupCount (d : Descriptor) : Half := getField d.w7 16 16

def Descriptor.setCursor (d : Descriptor) (a : Addr) : Descriptor := { d with w3 := a }
def Descriptor.setPrev (d : Descriptor) (a : Addr) : Descriptor := { d with w4 := a }
def Descriptor.setQuota (d : Descriptor) (q : Half) : Descriptor := { d with w5 := putField d.w5 0 16 q }
def Descriptor.setRecIdx (d : Descriptor) (i : Byte) : Descriptor := { d with w5 := putField d.w5 0 8 i }
def Descriptor.setGen (d : Descriptor) (g : Bool) : Descriptor := { d with w5 := putBit d.w5 8 g }
def Descriptor.setLastSeq (d : Descriptor) (b : Bool) : Descriptor := { d with w6 := putBit d.w6 0 b }
def Descriptor.setActive (d : Descriptor) (b : Bool) : Descriptor := { d with w6 := putBit d.w6 1 b }
def Descriptor.setPrevLen (d : Descriptor) (n : Byte) : Descriptor := { d with w6 := putField d.w6 8 8 n }
def Descriptor.setMsgCount (d : Descriptor) (n : Half) : Descriptor := { d with w6 := putField d.w6 16 16 n }
def Descriptor.setErrCount (d : Descriptor) (n : Half) : Descriptor := { d with w7 := putField d.w7 0 16 n }
def Descriptor.setDupCount (d : Descriptor) (n : Half) : Descriptor := { d with w7 := putField d.w7 16 16 n }

/-- ERR_COUNT after one more message error; the count wraps (R10). -/
def Descriptor.countError (d : Descriptor) : Descriptor := d.setErrCount (d.errCount + 1)

/-- DUP_COUNT after one more duplicate; the count wraps (R10). -/
def Descriptor.countDuplicate (d : Descriptor) : Descriptor := d.setDupCount (d.dupCount + 1)

/-- The eight words, W0 first (R1). -/
def Descriptor.toWords (d : Descriptor) : List Word := [d.w0, d.w1, d.w2, d.w3, d.w4, d.w5, d.w6, d.w7]

/-- The descriptor whose eight words lie in memory from `a` up (R1). -/
def Descriptor.readFrom (m : Memory) (a : Addr) : Descriptor where
  w0 := Memory.readWord m a
  w1 := Memory.readWord m (a + 4)
  w2 := Memory.readWord m (a + 8)
  w3 := Memory.readWord m (a + 12)
  w4 := Memory.readWord m (a + 16)
  w5 := Memory.readWord m (a + 20)
  w6 := Memory.readWord m (a + 24)
  w7 := Memory.readWord m (a + 28)

/-- The address of channel `n`'s descriptor (R1). -/
def descriptorAddr (tableBase : Addr) (n : Channel) : Addr := tableBase + BitVec.ofNat 32 (32 * n.val)

/-- Is the address a multiple of `n`? -/
def alignedTo (a : Addr) (n : Nat) : Bool := a.toNat % n = 0

/-- The conditions of Table 1-5, in its order, as the sub-code of the first that holds; 0 is a valid descriptor
(R15). OFF is always valid (R16). -/
def Descriptor.subCode (d : Descriptor) : BitVec 4 :=
  if d.mode = .off then 0
  else if getField d.w0 6 2 ≠ 0 ∨ getField d.w0 12 4 ≠ 0 ∨ getField d.w0 24 8 ≠ 0 ∨ getField d.w5 24 8 ≠ 0
      ∨ getField d.w6 2 6 ≠ 0 then 1
  else if d.policy = .invalid then 2
  else if d.maxLen.toNat = 0 ∨ 128 < d.maxLen.toNat then 3
  else if d.mode = .ring ∧ d.dir = .get then 4
  else if alignedTo d.addrA 4 = false ∨ alignedTo d.addrB 4 = false ∨ alignedTo d.cursor 4 = false
      ∨ (d.mode = .ring ∧ alignedTo d.recBase 8 = false) then 5
  else if d.mode = .ring ∧ (d.addrB.toNat ≤ d.addrA.toNat
      ∨ d.addrB.toNat - d.addrA.toNat < round4 d.maxLen.toNat) then 6
  else if d.mode = .ring ∧ (d.cursor.toNat < d.addrA.toNat ∨ d.addrB.toNat ≤ d.cursor.toNat) then 7
  else if d.mode = .ring ∧ d.recCountLess1.toNat < d.recIdx.toNat then 8
  else 0

/-! ### Ranges of a message (R21, Table 2-3) and the guard windows (R138) -/

/-- The buffer that ACTIVE names (R28). -/
def Descriptor.activeBuffer (d : Descriptor) : Addr := if d.active then d.addrB else d.addrA

/-- The data address D of a RING message of length `len` (R33); the sum is an address sum (R21). -/
def Descriptor.ringData (d : Descriptor) (len : Nat) : Addr :=
  if (d.cursor + BitVec.ofNat 32 (round4 len)).toNat ≤ d.addrB.toNat then d.cursor else d.addrA

/-- The start of the record range of a new message (Table 2-3), a plain number (R138). -/
def Descriptor.recordStart (d : Descriptor) : Nat :=
  match d.mode with
  | .ring => d.recBase.toNat + 8 * d.recIdx.toNat
  | .alternate => d.activeBuffer.toNat
  | _ => d.cursor.toNat

/-- The start of the data range of a new message (Table 2-3), a plain number (R138). -/
def Descriptor.dataStart (d : Descriptor) (len : Nat) : Nat :=
  match d.mode with
  | .ring => (d.ringData len).toNat
  | .alternate => d.activeBuffer.toNat + 8
  | _ => d.cursor.toNat + 8

/-- The start of the data range of a duplicate GET (R78), a plain number (R138): PREV + 8, or the data area of the active
buffer. -/
def Descriptor.duplicateStart (d : Descriptor) : Nat :=
  match d.mode with
  | .alternate => d.activeBuffer.toNat + 8
  | _ => d.prev.toNat + 8

/-- The record address of a new message, its range's start as an address sum (R21, Table 2-1). -/
def Descriptor.recordAddr (d : Descriptor) : Addr := BitVec.ofNat 32 d.recordStart

/-- The data address of a new message, its range's start as an address sum (R21). -/
def Descriptor.dataAddr (d : Descriptor) (len : Nat) : Addr := BitVec.ofNat 32 (d.dataStart len)

/-- The data address of a duplicate GET, its range's start as an address sum (R21, R78). -/
def Descriptor.duplicateData (d : Descriptor) : Addr := BitVec.ofNat 32 d.duplicateStart

/-- The ranges of a new message of length `len` (R21). -/
def Descriptor.newRanges (d : Descriptor) (len : Nat) : Ranges := ⟨d.dataAddr len, len, d.recordAddr⟩

/-- The rights a guard window grants (R137). -/
inductive Right where
  | store
  | fetch
deriving DecidableEq, Repr

/-- Does one window grant the right over the whole range? The start and the end are plain numbers, so that a range whose
end would lie beyond 2^32 passes no window, its start below 2^32 or not (R138; log 16). -/
def GuardWindow.covers (g : GuardWindow) (start : Nat) (len : Nat) (right : Right) : Bool :=
  g.enable && (match right with | .store => g.store | .fetch => g.fetch)
    && decide (g.base.toNat ≤ start) && decide (start + len ≤ g.limit.toNat)

/-- The guard test (R138): one enabled window with the right covers the range. -/
def guardPass (guards : Vector GuardWindow 4) (start : Nat) (len : Nat) (right : Right) : Bool :=
  guards.toList.any fun g => g.covers start len right

/-- The right a message's data range needs (R21). -/
def MsgKind.dataRight : MsgKind → Right
  | .put => .store
  | .get => .fetch

/-- Step 8 of admission: every range the message may use passes (R67, Table 2-3); a new ALTERNATE GET tests both
buffers. -/
def Descriptor.guardsPass (d : Descriptor) (kind : MsgKind) (len : Nat) (guards : Vector GuardWindow 4) : Bool :=
  if d.mode = .alternate ∧ kind = .get then
    guardPass guards (d.addrA.toNat + 8) len .fetch && guardPass guards d.addrA.toNat 8 .store
      && guardPass guards (d.addrB.toNat + 8) len .fetch && guardPass guards d.addrB.toNat 8 .store
  else guardPass guards (d.dataStart len) len kind.dataRight && guardPass guards d.recordStart 8 .store

/-! ### Admission (Table 4-4, steps 3 to 9, with the sift of R79) -/

/-- What admission decides on a context. -/
inductive Decision where
  | ignore
  | refuse (reason : RefuseReason)
  | duplicate
  | accept
deriving DecidableEq, Repr

/-- The duplicate check (R77). -/
def Descriptor.isDuplicate (d : Descriptor) (kind : MsgKind) (seq : Bool) (length : Byte) (seqValid : Bool) : Bool :=
  seqValid && (seq == d.lastSeq) && (decide (kind = .put) || length == d.prevLen)

/-- Steps 3 to 9 of admission in order (Table 4-4, R67, R77, R78); a broadcast is sifted first and skips steps 3, 4
and 6 (R79). -/
def Descriptor.decideRequest (d : Descriptor) (broadcast : Bool) (kind : MsgKind) (seq : Bool) (length : Byte)
    (seqValid : Bool) (guards : Vector GuardWindow 4) : Decision :=
  if broadcast && (decide (d.mode = .off) || decide (d.dir = .get) || !d.bcast) then .ignore
  else if d.mode = .off then .refuse .noChannel
  else if kind ≠ d.dir then .refuse .direction
  else if length = 0 ∨ d.maxLen.toNat < length.toNat then .refuse .length
  else if !broadcast && d.isDuplicate kind seq length seqValid then
    if kind = .get ∧ guardPass guards d.duplicateStart d.prevLen.toNat .fetch = false then .refuse .guard
    else .duplicate
  else if d.mode = .counted ∧ d.quota = 0 then .refuse .exhausted
  else if d.guardsPass kind length.toNat guards then .accept
  else .refuse .guard

/-! ### The advance at a commit (R20, R25, R26, R29, R32 to R34) -/

/-- Milestones (R22) with their DETAIL codes (Table 11-7). -/
inductive Milestone where
  | quotaZero
  | swap
  | overwrite
  | ringWrap
deriving DecidableEq, Repr

/-- What a scheme's advance gives: the descriptor, the milestone if any, and the returned flag. -/
structure Advance where
  context : Descriptor
  milestone : Option Milestone
  returned : Bool
deriving DecidableEq, Repr

/-- COUNTED (R25, R26): a GET first records its slot; CURSOR moves past the slot and QUOTA counts down. -/
def Descriptor.advanceCounted (d : Descriptor) (kind : MsgKind) (length : Byte) (r : Ranges) (returned : Bool) :
    Advance :=
  let d1 := match kind with
    | .put => d
    | .get => (d.setPrev r.record).setPrevLen length
  { context := (d1.setCursor (d.cursor + BitVec.ofNat 32 (8 + round4 length.toNat))).setQuota (d.quota - 1)
    milestone := if d.quota = 1 then some .quotaZero else none
    returned := returned }

/-- ALTERNATE (R29, R32): a PUT swaps or overwrites by the returned flag; a GET records PREV_LEN. -/
def Descriptor.advanceAlternate (d : Descriptor) (kind : MsgKind) (length : Byte) (returned : Bool) : Advance :=
  match kind with
  | .get => ⟨d.setPrevLen length, none, returned⟩
  | .put => if returned then ⟨d.setActive (!d.active), some .swap, false⟩ else ⟨d, some .overwrite, false⟩

/-- The next data address of a RING channel after a message at `data` (R33). -/
def Descriptor.ringCursorAfter (d : Descriptor) (data : Addr) (length : Byte) : Addr :=
  let c := data + BitVec.ofNat 32 (round4 length.toNat)
  if c = d.addrB then d.addrA else c

/-- RING (R33, R34): CURSOR moves past the data, RECIDX moves on, and at the record wrap GEN flips. -/
def Descriptor.advanceRing (d : Descriptor) (length : Byte) (r : Ranges) (returned : Bool) : Advance :=
  let d1 := d.setCursor (d.ringCursorAfter r.data length)
  if d.recIdx = d.recCountLess1 then ⟨(d1.setRecIdx 0).setGen (!d.gen), some .ringWrap, returned⟩
  else ⟨d1.setRecIdx (d.recIdx + 1), none, returned⟩

/-- The scheme's own advance (sections 2.3 to 2.5). -/
def Descriptor.advanceScheme (d : Descriptor) (kind : MsgKind) (length : Byte) (r : Ranges) (returned : Bool) :
    Advance :=
  match d.mode with
  | .off => ⟨d, none, returned⟩
  | .counted => d.advanceCounted kind length r returned
  | .alternate => d.advanceAlternate kind length returned
  | .ring => d.advanceRing length r returned

/-- Every change of a commit to the descriptor (R20): LAST_SEQ, MSG_COUNT and the scheme's advance. -/
def Descriptor.commit (d : Descriptor) (kind : MsgKind) (seq : Bool) (length : Byte) (r : Ranges) (returned : Bool) :
    Advance :=
  let a := d.advanceScheme kind length r returned
  { a with context := (a.context.setLastSeq seq).setMsgCount (d.msgCount + 1) }

/-- The record of a message committed on `d`, the context before its advance (Table 2-2). -/
def Descriptor.recordFields (d : Descriptor) (broadcast seq : Bool) (length : Byte) (r : Ranges)
    (cycle offset : Half) : RecordFields where
  bcast := broadcast
  seq := seq
  gen := decide (d.mode = .ring) && d.gen
  length := length
  dataOffset := if d.mode = .ring then (r.data - d.addrA).setWidth 20 else 0
  cycle := cycle
  offset := offset

/-- Word 0 of a record (Table 11-5). -/
def RecordFields.word0 (f : RecordFields) (storeFault : Bool) : Word :=
  f.dataOffset ++ f.length ++ BitVec.ofBool f.gen ++ BitVec.ofBool f.seq ++ BitVec.ofBool f.bcast
    ++ BitVec.ofBool storeFault

/-- Word 1 of a record (Table 11-5). -/
def RecordFields.word1 (f : RecordFields) : Word := f.offset ++ f.cycle

/-! ### Codes (section 11.5, Table 3-3) -/

def Milestone.code : Milestone → Byte
  | .quotaZero => 1
  | .swap => 2
  | .overwrite => 3
  | .ringWrap => 4

/-- DETAIL codes of MESSAGE_ERROR (Table 11-7). -/
inductive ErrorDetail where
  | frame
  | guard
  | underrun
  | stagingOverflow
  | storeFault
  | fetchFault
  | recordFault
  | broadcastDropped
deriving DecidableEq, Repr

def ErrorDetail.code : ErrorDetail → Byte
  | .frame => 1
  | .guard => 2
  | .underrun => 3
  | .stagingOverflow => 4
  | .storeFault => 5
  | .fetchFault => 6
  | .recordFault => 7
  | .broadcastDropped => 8

/-- DETAIL codes of REFUSAL (Table 11-7); GUARD and FAULT raise no REFUSAL (R5, Table 4-6). -/
def RefuseReason.refusalDetail : RefuseReason → Option Byte
  | .noChannel => some 1
  | .direction => some 2
  | .length => some 3
  | .exhausted => some 4
  | .guard => none
  | .fault => none

/-- DETAIL codes of CHANNEL_FAULT and the codes of CHANNEL_STATUS (Tables 11-7 and 11-9). -/
def FaultReason.code : FaultReason → Byte
  | .none => 0
  | .linefillFault => 1
  | .castoutFault => 2
  | .badDescriptor => 3

def EventKind.code : EventKind → Byte
  | .message => 1
  | .milestone => 2
  | .messageError => 3
  | .refusal => 4
  | .channelFault => 5
  | .linkError => 6
  | .linkReset => 7
  | .gap => 8

/-- Reply codes (Table 3-3). -/
inductive ReplyCode where
  | accept
  | busy
  | status
  | refuse (reason : RefuseReason)
deriving DecidableEq, Repr

def ReplyCode.code : ReplyCode → BitVec 7
  | .accept => 0x01
  | .busy => 0x02
  | .status => 0x03
  | .refuse .noChannel => 0x11
  | .refuse .direction => 0x12
  | .refuse .length => 0x13
  | .refuse .exhausted => 0x14
  | .refuse .guard => 0x15
  | .refuse .fault => 0x16

/-- The CODE a decided request is answered with (Table 4-5). -/
def Verdict.replyCode : Verdict → ReplyCode
  | .acceptNew => .accept
  | .acceptDuplicate => .accept
  | .refuse r => .refuse r
  | .refuseFault _ => .refuse .fault
  | _ => .busy

def CmdResult.code : CmdResult → Byte
  | .none => 0
  | .done => 1
  | .doneWithFaults => 2
  | .refusedBadCommand => 3
  | .refusedBadState => 4
  | .refusedBadChannel => 5
  | .refusedAlready => 6
  | .refusedNotHeld => 7
  | .refusedPinLimit => 8
  | .refusedBadConfig => 9
  | .fault => 10

/-- The four words of an event entry (Table 11-6). -/
def Event.words (ev : Event) (serial : Half) : List Word :=
  [0#8 ++ ev.detail ++ ev.channel ++ ev.kind.code, ev.aux16 ++ serial, ev.offset ++ ev.cycle, ev.aux32]

/-- The CHANNEL byte of a channel's event. -/
def channelByte (n : Channel) : Byte := BitVec.ofNat 8 n.val

/-! ### Request frames (R43, R45, R46, Table 11-1) -/

/-- Frame kinds (Table 3-2). -/
inductive FrameKind where
  | put
  | get
  | sync
  | probe
  | nodeReset
deriving DecidableEq, Repr

/-- KIND, bits 6:0 of byte 0; none is a bad KIND. -/
def frameKind (byte0 : Byte) : Option FrameKind :=
  match (byte0.extractLsb' 0 7).toNat with
  | 1 => some .put
  | 2 => some .get
  | 3 => some .sync
  | 4 => some .probe
  | 5 => some .nodeReset
  | _ => none

/-- The expected body length (R43). -/
def FrameKind.bodyLength (k : FrameKind) (length : Byte) : Nat :=
  match k with
  | .put => length.toNat
  | .sync => 2
  | _ => 0

/-- The class a NODE byte gives (R45). -/
def classOf (nodeAddress : BitVec 6) (node : Byte) : FrameClass :=
  if node.toNat = nodeAddress.toNat then .addressed
  else if node.toNat = 63 then .broadcast
  else .foreign

/-- A complete request header, once its fourth byte is taken. -/
structure RequestHeader where
  kind : FrameKind
  seq : Bool
  channel : Byte
  length : Byte
deriving DecidableEq, Repr

/-- The header of four bytes, none when its KIND is bad. -/
def headerOf (bytes : List Byte) : Option RequestHeader :=
  match bytes with
  | [b0, _, b2, b3] => (frameKind b0).map fun k => ⟨k, b0.getLsbD 7, b2, b3⟩
  | _ => none

/-- No row of Table 3-6 applies (R46). -/
def RequestHeader.good (h : RequestHeader) (cls : FrameClass) : Bool :=
  !(decide (h.kind = .sync) && decide (cls = .addressed))
    && !((decide (h.kind = .get) || decide (h.kind = .probe)) && decide (cls = .broadcast))
    && !((decide (h.kind = .put) || decide (h.kind = .get)) && decide (63 < h.channel.toNat))
    && !(decide (h.kind = .sync) && decide (h.length ≠ 2))
    && !((decide (h.kind = .probe) || decide (h.kind = .nodeReset)) && decide (h.length ≠ 0))

/-- The channel a header names, 0 to 63. -/
def channelOf (b : Byte) : Channel := ⟨b.toNat % 64, Nat.mod_lt _ (by decide)⟩

end Sys2Proof.Machine
end

