-- ==== Sys2Proof/Machine/Events.lean ====
section
/-! DEFINITION. The event writer: taking events into the pending event queue (R147), the ring (R148, R173), and the
writer's look at the head of its queue (R149, R151, R152, R156). -/

namespace Sys2Proof.Machine

/-! ### Interrupt pending bits (Table 8-7) -/

def intEventWritten : BitVec 4 := 0x1#4
def intRingFull : BitVec 4 := 0x2#4
def intCommandDone : BitVec 4 := 0x4#4
def intWriterHalted : BitVec 4 := 0x8#4

/-- Set a pending bit; a bit already set stays set (R155). -/
def State.setInt (s : State) (bit : BitVec 4) : State :=
  { s with host := { s.host with intPending := s.host.intPending ||| bit } }

/-! ### The pending event queue (R147) -/

/-- An event is taken while the writer is ACTIVE and the queue has room; otherwise it is dropped and counted (R147). -/
def Writer.take (w : Writer) (ev : Event) : Writer :=
  if w.active = true ∧ w.queue.length < Config.eventCapacity then { w with queue := w.queue ++ [ev] }
  else { w with dropped := saturate w.dropped 1 }

/-- The events of one completion entry, taken one after another (R147). -/
def Writer.takeAll (w : Writer) (evs : List Event) : Writer := evs.foldl Writer.take w

/-- An event stamped with the cycle number and offset of the moment (R146). -/
def Link.stamped (l : Link) (kind : EventKind) (channel detail : Byte) (aux16 : Half) (aux32 : Word) : Event :=
  ⟨kind, channel, detail, l.cycle, l.offset, aux16, aux32⟩

/-- Raise an event directly (R147). -/
def State.raise (s : State) (kind : EventKind) (channel detail : Byte) (aux16 : Half) (aux32 : Word) : State :=
  { s with writer := s.writer.take (s.link.stamped kind channel detail aux16 aux32) }

/-! ### The ring (R148) -/

/-- C, the slots of the ring (R148). -/
def Writer.ringSize (w : Writer) : Nat := 2 ^ w.eqSize.toNat

/-- The count of unconsumed entries, (P − Q) modulo C with Q the consumer index modulo C (R148, R173). -/
def Writer.count (w : Writer) : Nat :=
  (w.producer.toNat % w.ringSize + w.ringSize - w.consumer.toNat % w.ringSize) % w.ringSize

/-- The ring holds C − 1 unconsumed entries (R148). -/
def Writer.full (w : Writer) : Bool := decide (w.count = w.ringSize - 1)

/-- What EQ_STATUS and PROBE show as ring full: false while EQ_SIZE is outside 4 to 12 (R148, R151, R59). -/
def Writer.showsFull (w : Writer) : Bool :=
  decide (4 ≤ w.eqSize.toNat) && decide (w.eqSize.toNat ≤ 12) && w.full

/-- P after one more entry (R150). -/
def Writer.nextProducer (w : Writer) : BitVec 12 := BitVec.ofNat 12 ((w.producer.toNat + 1) % w.ringSize)

/-- The address of the slot P names (R148). -/
def Writer.slotAddr (w : Writer) : Addr := w.eqBase + BitVec.ofNat 32 (16 * w.producer.toNat)

/-- The GAP entry that reports `count` dropped events (R152, Table 8-5). -/
def Link.gapEvent (l : Link) (count : Half) : Event := l.stamped .gap 0xFF 0 count 0

/-- The entry the writer forms with `ev` at the head: a GAP while drops are outstanding (R149, R152). -/
def Writer.forms (w : Writer) (l : Link) (ev : Event) : EntryWrite × Event :=
  if w.dropped ≠ 0 then (.gap w.dropped, l.gapEvent w.dropped) else (.event, ev)

/-- The four-word burst of an entry (R149). -/
def Writer.entryBurst (w : Writer) (ev : Event) : Burst :=
  ⟨.event, w.slotAddr, 4, (ev.words w.serial).map WriteWord.full⟩

/-- STOP has reached the writer's step (R156, R168). -/
def Work.stopsEvents : Work → Bool
  | .stop .events _ => true
  | .stop .halting _ => true
  | _ => false

/-- The writer presents the entry it forms, which ends a full period (R149, R151). -/
def State.presentEntry (s : State) (ev : Event) : State :=
  { s with
    writer := { s.writer with writing := some (s.writer.forms s.link ev).1, fullPeriod := false }
    port := { s.port with writer := some (s.writer.entryBurst (s.writer.forms s.link ev).2) } }

/-- The writer finds the ring full: a full period begins, unless one runs already (R151). -/
def State.beginFullPeriod (s : State) : State :=
  if s.writer.fullPeriod then s
  else ({ s with writer := { s.writer with fullPeriod := true } }).setInt intRingFull

/-- At a full ring STOP's step counts every pending event as dropped, which empties the queue and ends the full period
(R156, R151). -/
def State.dropPending (s : State) : State :=
  let s := s.beginFullPeriod
  { s with writer := { s.writer with
      queue := [], dropped := saturate s.writer.dropped s.writer.queue.length, fullPeriod := false } }

/-- The ACTIVE writer's look at the head of its queue (R149, R151, R156): it presents an entry when the ring has room;
at a full ring it waits, or drops what is pending when STOP has reached it. While an entry write is in flight the look
makes no ring test, so that a count that a consumer index brings to C − 1 then (R173) begins no full period and has
STOP's step drop nothing: DESIGN CHOICE, unsafe (log 29). -/
def State.writerLook (s : State) : State :=
  match s.writer.queue with
  | [] => s
  | ev :: _ =>
    if s.writer.active = false ∨ s.writer.writing ≠ none then s
    else if s.writer.full = false then s.presentEntry ev
    else if s.cmd.work.stopsEvents then s.dropPending
    else s.beginFullPeriod

end Sys2Proof.Machine
end

