-- ==== Sys2Proof/Machine/Cache.lean ====
section
/-! DEFINITION. The context cache on its own: finding an entry, the LRU order (R87), changes (R94), the pending fills
(R89), victims (R90), the writes an entry begins (R91, R95, R104), and the bursts presented in the order they became
due (R96). -/

namespace Sys2Proof.Machine

/-- The entries in ascending order. -/
def entryOrder : List EntryIx := [0, 1, 2, 3, 4, 5, 6, 7, 8, 9, 10, 11, 12, 13, 14, 15]

/-- Entry `e`. -/
def Cache.entry (c : Cache) (e : EntryIx) : Entry := c.entries[e.val]'e.isLt

/-- Replace entry `e` by its image. -/
def Cache.modify (c : Cache) (e : EntryIx) (f : Entry → Entry) : Cache :=
  { c with entries := modifyAt c.entries e f }

/-- The entry whose tag is `n` and whose state is not INVALID (R88). -/
def Cache.find (c : Cache) (n : Channel) : Option EntryIx :=
  entryOrder.find? fun e => decide ((c.entry e).tag = n) && decide ((c.entry e).state ≠ .invalid)

/-- States that answer a lookup (Table 5-1). -/
def EntryState.answers : EntryState → Bool
  | .clean | .dirty | .writing | .writingDirty => true
  | _ => false

/-- The state after a change by the exchange engine (R94). -/
def EntryState.changed : EntryState → EntryState
  | .clean => .dirty
  | .writing => .writingDirty
  | x => x

/-- A touch (R87): `e` takes age 0 and the entries younger than it was age by one. -/
def Cache.touch (c : Cache) (e : EntryIx) : Cache :=
  let a := (c.entry e).age
  Cache.modify { c with entries := c.entries.map fun x => if x.age < a then { x with age := x.age + 1 } else x } e
    fun x => { x with age := 0 }

/-- `e` takes age 15 and the entries older than it was become younger by one (R87). -/
def Cache.toOldest (c : Cache) (e : EntryIx) : Cache :=
  let a := (c.entry e).age
  Cache.modify { c with entries := c.entries.map fun x => if a < x.age then { x with age := x.age - 1 } else x } e
    fun x => { x with age := 15 }

/-- Entry `e` becomes INVALID (R87). The in-use mark of an entry that a write fault takes from the request in progress
clears with it: DESIGN CHOICE, unsafe (log 30). -/
def Cache.invalidate (c : Cache) (e : EntryIx) : Cache :=
  (c.toOldest e).modify e fun x => { x with state := .invalid, inUse := false, next := none }

/-- The exchange engine changes the context of `e` (R94). -/
def Cache.change (c : Cache) (e : EntryIx) (f : Descriptor → Descriptor) : Cache :=
  c.modify e fun x => { x with context := f x.context, state := x.state.changed }

/-- Set or clear the in-use mark (R62). -/
def Cache.setInUse (c : Cache) (e : EntryIx) (b : Bool) : Cache := c.modify e fun x => { x with inUse := b }

/-- A fill of `n` is pending: in the list, or waiting for the castout of the dirty victim it chose (R89, log 13). -/
def Cache.fillPending (c : Cache) (n : Channel) : Bool :=
  decide (n ∈ c.fills)
    || entryOrder.any fun e => decide ((c.entry e).state = .evicting) && decide ((c.entry e).next = some n)

/-- Request a fill of `n`, unless one is pending or `n` has an entry that is filling or answers (R88, R89). -/
def Cache.requestFill (c : Cache) (n : Channel) : Cache :=
  if c.fillPending n = true then c
  else match c.find n with
    | some e => if (c.entry e).state = .evicting then { c with fills := c.fills ++ [n] } else c
    | none => { c with fills := c.fills ++ [n] }

/-- Withdraw the pending fill of `n` (R89). -/
def Cache.withdrawFill (c : Cache) (n : Channel) : Cache := { c with fills := c.fills.filter fun m => decide (m ≠ n) }

/-- The entry of greatest age among those that satisfy `p`. -/
def Cache.oldest (c : Cache) (p : Entry → Bool) : Option EntryIx :=
  entryOrder.foldl (fun best e =>
    if p (c.entry e) then
      match best with
      | none => some e
      | some b => if (c.entry b).age < (c.entry e).age then some e else some b
    else best) none

/-- May the entry be a victim (R90)? -/
def Entry.eligible (x : Entry) (pinned : Bool) : Bool :=
  (decide (x.state = .clean) || decide (x.state = .dirty)) && !pinned && !x.inUse

/-- The channel's status record. -/
def State.record (s : State) (n : Channel) : ChannelRecord := s.status[n.val]'n.isLt

/-- The entry a fill takes: the oldest INVALID one, else the oldest eligible one (R90). -/
def State.fillTarget (s : State) : Option EntryIx :=
  match s.cache.oldest fun x => decide (x.state = .invalid) with
  | some e => some e
  | none => s.cache.oldest fun x => x.eligible (s.record x.tag).pinned

/-- The first pending fill that can take an entry: its channel has no EVICTING entry (R89). -/
def Cache.nextFill (c : Cache) : Option Channel :=
  c.fills.find? fun n => match c.find n with
    | some e => decide ((c.entry e).state ≠ .evicting)
    | none => true

/-- Entry `e` takes tag `n` and enters FILLING; for the ages this is an invalidation (R90). -/
def Cache.beginFill (c : Cache) (e : EntryIx) (n : Channel) : Cache :=
  (c.toOldest e).modify e fun x => { x with tag := n, state := .filling, inUse := false, next := none }

/-- Entry `e` enters EVICTING with a snapshot of its context (R91, R104): for the fill of `next`, or to be invalidated. -/
def Cache.beginEvict (c : Cache) (e : EntryIx) (next : Option Channel) : Cache :=
  c.modify e fun x => { x with state := .evicting, snapshot := x.context, next := next }

/-- Entry `e` enters WRITING with a snapshot of its context (R95, R97, R102). -/
def Cache.beginWrite (c : Cache) (e : EntryIx) : Cache :=
  c.modify e fun x => { x with state := .writing, snapshot := x.context }

/-- The state after a write that began in WRITING has completed (R95). -/
def EntryState.written : EntryState → EntryState
  | .writing => .clean
  | .writingDirty => .dirty
  | x => x

/-- A write from the entry that began in WRITING is in flight (Table 5-1). -/
def EntryState.isWriting : EntryState → Bool
  | .writing | .writingDirty => true
  | _ => false

/-- A write that began in WRITING ends with completion (R95). -/
def Cache.writeCompletes (c : Cache) (e : EntryIx) : Cache :=
  c.modify e fun x => { x with state := x.state.written }

/-! ### Bursts -/

/-- The client whose burst it is (Table 7-2). -/
inductive Client where
  | fetch
  | cache
  | store
  | retire
  | writer
deriving DecidableEq, Repr

def BurstKind.client : BurstKind → Client
  | .fetch _ _ => .fetch
  | .cache _ => .cache
  | .store _ _ => .store
  | .recordWord => .retire
  | .writeThrough _ => .retire
  | .event => .writer

/-- Is a burst of this client in flight? -/
def Port.flies (p : Port) (c : Client) : Bool :=
  match p.inFlight with
  | some b => decide (b.kind.client = c)
  | none => false

/-- The entry a cache burst is for. -/
def CacheBurst.entry : CacheBurst → EntryIx
  | .linefill e => e
  | .eviction e => e
  | .invalidation e => e
  | .flushCastout e => e

/-- An eight-word write of a snapshot to the descriptor of the entry's channel (R1, R95). -/
def State.descriptorBurst (s : State) (kind : BurstKind) (e : EntryIx) : Burst :=
  ⟨kind, descriptorAddr s.host.tableBase (s.cache.entry e).tag, 8,
    (s.cache.entry e).snapshot.toWords.map WriteWord.full⟩

/-- The burst of the context cache client: a read for a linefill, a write otherwise (Table 7-1). -/
def State.cacheBurst (s : State) (b : CacheBurst) : Burst :=
  match b with
  | .linefill e => ⟨.cache b, descriptorAddr s.host.tableBase (s.cache.entry e).tag, 8, []⟩
  | _ => s.descriptorBurst (.cache b) b.entry

/-- The context cache presents the burst that became due first, once its previous burst has ended (R96, R124). -/
def State.presentCache (s : State) : State :=
  match s.cache.due with
  | [] => s
  | b :: rest =>
    if s.port.cache ≠ none ∨ s.port.flies .cache = true then s
    else { s with
      cache := { s.cache with due := rest }
      port := { s.port with cache := some (s.cacheBurst b) } }

/-- A burst of the context cache becomes due (R96). -/
def State.cacheDue (s : State) (b : CacheBurst) : State :=
  ({ s with cache := { s.cache with due := s.cache.due ++ [b] } }).presentCache

/-- An invalidation castout begins (R104). -/
def State.beginInvalidation (s : State) (e : EntryIx) : State :=
  ({ s with cache := s.cache.beginEvict e none }).cacheDue (.invalidation e)

/-- A FLUSH castout begins (R102). -/
def State.beginFlushCastout (s : State) (e : EntryIx) : State :=
  ({ s with cache := s.cache.beginWrite e }).cacheDue (.flushCastout e)

/-- The port is left by the burst in flight (R126). -/
def State.landed (s : State) : State := { s with port := { s.port with inFlight := none } }

/-- What a write burst that did not complete leaves in host memory: the words the free value says (R122; log 6). -/
def State.writePartly (s : State) (b : Burst) : State :=
  { s with mem := Memory.writeLanded (Config.landedWords s.free) 0 s.mem b.addr b.data, free := s.free + 1 }

/-- What the end of a write burst leaves in host memory (R122). -/
def State.burstWrites (s : State) (b : Burst) (r : WriteEnd) : State :=
  match r with
  | .completion => { s with mem := Memory.writeWords s.mem b.addr b.data }
  | .busError => s.writePartly b

end Sys2Proof.Machine
end

