-- ==== Sys2Proof/Machine/Mover.lean ====
section
/-! DEFINITION. The data mover: the receive staging segments (R127 to R133) and the transmit staging buffer (R134 to
R136), with the requests each presents at the master port. -/

namespace Sys2Proof.Machine

/-! ### Receive staging -/

/-- The bytes held in all segments (R127). -/
def Mover.occupancy (m : Mover) : Nat := (m.segments.map fun x => x.held.length).sum

/-- The segment of message `msg`. -/
def Mover.segment (m : Mover) (msg : Nat) : Option Segment := m.segments.find? fun x => decide (x.msg = msg)

/-- Change the segment of message `msg`. -/
def Mover.modify (m : Mover) (msg : Nat) (f : Segment → Segment) : Mover :=
  { m with segments := m.segments.map fun x => if x.msg = msg then f x else x }

/-- A segment opens for a PUT header (R128). Its next store address is set at admission (Table 7-3); until then it
holds 0: DESIGN CHOICE (log 28). -/
def Mover.openSegment (m : Mover) (msg : Nat) (length : Byte) : Mover :=
  { m with segments := m.segments ++ [⟨msg, .waiting, 0, [], length.toNat, false, false⟩] }

/-- The bytes of `msg` that a granted store burst carries: none when no such burst is in flight. -/
def Port.carried (p : Port) (msg : Nat) : Option Nat :=
  match p.inFlight with
  | some b => match b.kind with
    | .store m n => if m = msg then some n else none
    | _ => none
  | none => none

/-- Does the segment stay in the FIFO (R127)? -/
def Segment.stays (x : Segment) (inFlight : Bool) : Bool :=
  inFlight || match x.state with
    | .waiting => true
    | .storing => !x.held.isEmpty || decide (x.due ≠ 0)
    | .discarding => !x.frameEnded

/-- Remove the segments that are done with (R127). -/
def State.sweepSegments (s : State) : State :=
  { s with mover := { s.mover with segments := s.mover.segments.filter fun x => x.stays (s.port.carried x.msg).isSome } }

/-- The store client presents a request for the oldest STORING segment that holds bytes, once that segment holds a
whole word or the message's last byte (R130). -/
def State.presentStore (s : State) : State :=
  if s.port.store ≠ none ∨ s.port.flies .store = true then s
  else match s.mover.segments.find? fun x => decide (x.state = .storing) && !x.held.isEmpty with
    | some x =>
      if 4 ≤ x.held.length ∨ x.due = 0 then { s with port := { s.port with store := some x.msg } } else s
    | none => s

/-- A segment enters DISCARDING: only bytes a granted burst carries stay, and a waiting request is withdrawn (R129). -/
def Segment.discard (x : Segment) (carried : Option Nat) : Segment :=
  { x with state := .discarding, held := x.held.take (carried.getD 0) }

/-- The segment of `msg` enters DISCARDING (R129, R132). -/
def State.discardSegment (s : State) (msg : Nat) : State :=
  (({ s with
      mover := s.mover.modify msg fun x => x.discard (s.port.carried msg)
      port := { s.port with store := if s.port.store = some msg then none else s.port.store } }).sweepSegments).presentStore

/-- The frame of `msg` ends: no more bytes are due (R128). -/
def State.endSegmentFrame (s : State) (msg : Nat) : State :=
  (({ s with mover := s.mover.modify msg fun x => { x with due := 0, frameEnded := true } }).sweepSegments).presentStore

/-- What becomes of a body byte (R128, R132). -/
inductive ByteFate where
  | staged
  | overflow
  | ignored
deriving DecidableEq, Repr

/-- A body byte handed to the segment of `msg` is staged, an overflow, or dropped (R128). -/
def Mover.byteFate (m : Mover) (msg : Nat) : ByteFate :=
  match m.segment msg with
  | none => .ignored
  | some x =>
    if x.state = .discarding then .ignored
    else if m.occupancy < Config.receiveCapacity then .staged
    else .overflow

/-- The words of the store burst granted for a segment (R130): how many bytes it carries. -/
def Segment.burstBytes (x : Segment) : Nat :=
  if x.due = 0 then min x.held.length (blockRoom x.next)
  else min (x.held.length / 4 * 4) (blockRoom x.next)

/-- The store burst granted for a segment, its words fixed now (R130). -/
def Segment.burst (x : Segment) : Burst :=
  let words := storeWords (x.held.take x.burstBytes)
  ⟨.store x.msg x.burstBytes, x.next, words.length, words⟩

/-! ### Transmit staging -/

/-- The words of the next fetch burst: to the end of the block, or what is left (R134). -/
def Staging.burstWords (t : Staging) : Nat := min (blockRoom t.next / 4) ((t.left + 3) / 4)

/-- The fetch client presents its next burst when the buffer has room for it (R134). -/
def State.presentFetch (s : State) : State :=
  match s.mover.staging with
  | none => s
  | some t =>
    if s.port.fetch ≠ none ∨ s.port.flies .fetch = true ∨ t.left = 0 then s
    else if t.held.length + 4 * t.burstWords ≤ Config.transmitCapacity then
      { s with port := { s.port with
          fetch := some ⟨.fetch t.msg (min (4 * t.burstWords) t.left), t.next, t.burstWords, []⟩ } }
    else s

/-- The data mover sets the buffer to serve a GET (R134). -/
def State.startFetch (s : State) (msg : Nat) (start : Addr) (len : Nat) : State :=
  ({ s with mover := { s.mover with staging := some ⟨msg, start, len, []⟩ } }).presentFetch

/-- The data mover abandons the fetch of `msg`: its waiting request is withdrawn and the buffer serves no message
(R135, R136). -/
def State.abandonFetch (s : State) (msg : Nat) : State :=
  match s.mover.staging with
  | some t =>
    if t.msg = msg then
      { s with mover := { s.mover with staging := none }, port := { s.port with fetch := none } }
    else s
  | none => s

end Sys2Proof.Machine
end

