-- ==== Sys2Proof/Machine/Ops.lean ====
section
/-! DEFINITION. The operations the commands share across blocks: ending and deciding a request (chapter 4), fault
reports (R93, R114), lookups and admission (R66 to R68, R88), the commit (R20, R71), the retire unit's descriptor step
and release (R97, R144, R145), the ends of commands (R166), and the reset of every block (R171). -/

namespace Sys2Proof.Machine

/-! ### Gates -/

/-- While the RESET input is asserted every block is held in its initial state (R171). -/
def State.live (s : State) (f : State → State) : State := if s.resetAsserted then s else f s

/-! ### Contexts and counts -/

/-- The context an entry holds. -/
def State.context (s : State) (e : EntryIx) : Descriptor := (s.cache.entry e).context

/-- The exchange engine changes the context of an entry (R94). -/
def State.changeContext (s : State) (e : EntryIx) (f : Descriptor → Descriptor) : State :=
  { s with cache := s.cache.change e f }

/-- Change a channel status record. -/
def State.setRecord (s : State) (n : Channel) (f : ChannelRecord → ChannelRecord) : State :=
  { s with status := modifyAt s.status n f }

/-- A MESSAGE_ERROR of the request, raised directly when the context's EV_ERROR is set (R5, R82, Table 8-5). -/
def State.requestError (s : State) (r : Request) (detail : ErrorDetail) (aux32 : Word) : State :=
  match r.entry with
  | some e =>
    if (s.context e).evError then s.raise .messageError (channelByte r.channel) detail.code (r.length.setWidth 16) aux32
    else s
  | none => s

/-- A message error that counts: ERR_COUNT of the context and the event (R10, R82). -/
def State.countError (s : State) (r : Request) (detail : ErrorDetail) (aux32 : Word) : State :=
  match r.entry with
  | some e => (s.changeContext e Descriptor.countError).requestError r detail aux32
  | none => s

/-! ### Ends of a request (R64) -/

/-- The data mover gives up the request's data (R64, R129, R136). -/
def State.abandonData (s : State) (r : Request) : State :=
  match r.kind with
  | .put => s.discardSegment r.msg
  | .get => s.abandonFetch r.msg

/-- The engine releases the in-use mark, discards the request record and returns to IDLE (R64). -/
def State.leaveRequest (s : State) (r : Request) : State :=
  { s with
    engine := none
    cache := match r.entry with
      | some e => s.cache.setInUse e false
      | none => s.cache }

/-- The end of a request that did not commit (R64). -/
def State.endRequest (s : State) (r : Request) : State := (s.abandonData r).leaveRequest r

/-- A broadcast in AWAIT_READY whose frame has closed good ends, and a drop that counts makes its count and event
(R81). -/
def State.settleBroadcast (s : State) : State :=
  match s.engine with
  | some r =>
    if r.broadcast = true ∧ r.closed = true ∧ r.phase = .awaitReady then
      (if r.verdict = .dropped true then s.countError r .broadcastDropped 0 else s).endRequest r
    else s
  | none => s

/-- The request is bound for a reply other than ACCEPT of a new message, or for a broadcast's drop: AWAIT_READY, its
data given up (Table 4-2, R129); a broadcast whose frame has closed ends at once (R81). -/
def State.conclude (s : State) (r : Request) (v : Verdict) : State :=
  (({ s with engine := some { r with verdict := v, phase := .awaitReady } }).abandonData r).settleBroadcast

/-- The outcome of a request refused for its channel's fault: a broadcast is dropped uncounted (R66, R79, R83). -/
def Request.faultVerdict (r : Request) : Verdict :=
  if r.broadcast then .dropped false else .refuseFault .none

/-- The context a request works on is lost (R83). -/
def State.contextLost (s : State) (e : EntryIx) : State :=
  match s.engine with
  | some r =>
    if r.entry = some e then
      if r.phase = .replying then { s with engine := some { r with entry := none, lost := true } }
      else s.conclude { r with entry := none } r.faultVerdict
    else s
  | none => s

/-! ### Fault reports (R93, R114) -/

/-- What a fault report does to the channel's record (R114). -/
def ChannelRecord.report (x : ChannelRecord) (reason : FaultReason) (subCode : BitVec 4) : ChannelRecord :=
  match x.hold with
  | .free => { x with hold := .faulted, reason := reason, subCode := subCode, seqValid := false }
  | .holdWait => if x.reason = .none then { x with reason := reason, subCode := subCode } else x
  | _ => x

/-- STOP notes a fault report taken while it is in progress (R169). -/
def Work.noteReport : Work → Work
  | .stop at_ _ => .stop at_ true
  | w => w

/-- A lookup that waits for channel `n` is answered with a fault (R66, R88, R92). -/
def State.lookupFaults (s : State) (n : Channel) : State :=
  match s.engine with
  | some r =>
    if r.channel = n ∧ r.phase = .lookup then s.conclude r r.faultVerdict else s
  | none => s

/-- The cache reports a fault of channel `n`: the reason to the channel status table, CHANNEL_FAULT to the pending
event queue (R93), the pending fill withdrawn (R89) and a waiting lookup answered (R88). -/
def State.reportFault (s : State) (n : Channel) (reason : FaultReason) (subCode : BitVec 4) : State :=
  let s1 := (s.setRecord n fun x => x.report reason subCode).raise .channelFault (channelByte n) reason.code
    (subCode.setWidth 16) (descriptorAddr s.host.tableBase n)
  ({ s1 with
      cache := s1.cache.withdrawFill n
      cmd := { s1.cmd with work := s1.cmd.work.noteReport } }).lookupFaults n

/-! ### Members of FLUSH and PURGE (R102, R103) -/

/-- A write or castout of entry `e` under tag `n` faulted: is it a member's (log 15)? -/
def Work.memberFaults (w : Work) (e : EntryIx) (n : Channel) : Work :=
  match w with
  | .flush j f => .flush j (f || decide ((e, n) ∈ j.members))
  | .purge j k f => .purge j k (f || decide ((e, n) ∈ j.members) || decide ((e, n) ∈ k.members))
  | w => w

/-- The castout that a job began for its head member has ended. -/
def CastJob.castEnds (j : CastJob) (e : EntryIx) : CastJob :=
  match j.todo with
  | (e', _) :: _ => if e' = e ∧ j.phase = .casting then { j with phase := .cast } else j
  | [] => j

/-- The end of a castout of entry `e`, as FLUSH and PURGE wait for it. -/
def Work.castEnds (w : Work) (e : EntryIx) : Work :=
  match w with
  | .flush j f => .flush (j.castEnds e) f
  | .purge j k f => .purge (j.castEnds e) (k.castEnds e) f
  | w => w

/-- A fill takes entry `e`: it is no member of the set any more (log 15). -/
def CastJob.entryTaken (j : CastJob) (e : EntryIx) : CastJob :=
  { j with members := j.members.filter fun m => decide (m.1 ≠ e) }

/-- A fill takes entry `e`: entries filled after PURGE was taken are not members of its second set (R103). -/
def Work.entryTaken (w : Work) (e : EntryIx) : Work :=
  match w with
  | .purge j k f => .purge j (k.entryTaken e) f
  | w => w

def State.setWork (s : State) (w : Work) : State := { s with cmd := { s.cmd with work := w } }

/-- A write or castout of entry `e` ends in bus error: CASTOUT_FAULT for its channel `n` (R91, R98, R104). -/
def State.castoutFaults (s : State) (e : EntryIx) (n : Channel) : State :=
  (s.setWork (s.cmd.work.memberFaults e n)).reportFault n .castoutFault 0

/-- A write from entry `e` that ends in bus error leaves it INVALID; whoever works on it is told (R98, R83). -/
def State.entryFaults (s : State) (e : EntryIx) : State :=
  (({ s with cache := s.cache.invalidate e }).castoutFaults e (s.cache.entry e).tag).contextLost e

/-! ### Admission (R66 to R68) -/

/-- A new GET is admitted: the swap decision of an ALTERNATE channel first (R31, R68), then the ranges, then the
fetch. -/
def State.swapForGet (s : State) (r : Request) (e : EntryIx) : State :=
  if (s.context e).mode = .alternate ∧ (s.record r.channel).returned = true then
    let s1 := (s.changeContext e fun d => d.setActive (!d.active)).setRecord r.channel fun x => { x with returned := false }
    if (s.context e).evMilestone then
      s1.raise .milestone (channelByte r.channel) Milestone.swap.code
        ((BitVec.ofBool (!(s.context e).active)).setWidth 16) 0
    else s1
  else s

/-- A request that passed step 8 is admitted as a new message (R68). An overflow that came before turns a PUT to BUSY,
or drops a broadcast (R72, R81). -/
def State.acceptNew (s : State) (r : Request) (e : EntryIx) : State :=
  match r.kind with
  | .get =>
    let s1 := s.swapForGet r e
    let rg := (s1.context e).newRanges r.length.toNat
    ({ s1 with engine := some { r with phase := .admitted, verdict := .acceptNew, ranges := some rg } }).startFetch
      r.msg rg.data rg.len
  | .put =>
    if r.overflow then s.conclude r (if r.broadcast then .dropped true else .busyOverflow)
    else
      let rg := (s.context e).newRanges r.length.toNat
      ({ s with
          engine := some { r with phase := .admitted, verdict := .acceptNew, ranges := some rg }
          mover := s.mover.modify r.msg fun x => { x with state := .storing, next := rg.data } }).presentStore

/-- A duplicate enters ADMITTED on the duplicate path (R77, R78). -/
def State.acceptDuplicate (s : State) (r : Request) (e : EntryIx) : State :=
  let s1 := { s with engine := some { r with phase := .admitted, verdict := .acceptDuplicate } }
  match r.kind with
  | .put => s1.discardSegment r.msg
  | .get => s1.startFetch r.msg (s.context e).duplicateData (s.context e).prevLen.toNat

/-- The lookup answers with the context of entry `e`: the mark is set and steps 3 to 9 are made at once (R66, R67). -/
def State.admitRequest (s : State) (r : Request) (e : EntryIx) : State :=
  let s1 := { s with cache := s.cache.setInUse e true }
  let r1 := { r with entry := some e }
  match (s.context e).decideRequest r.broadcast r.kind r.seq r.length (s.record r.channel).seqValid s.mover.guards with
  | .ignore => s1.conclude r1 .ignored
  | .refuse reason => s1.conclude r1 (if r.broadcast then .dropped true else .refuse reason)
  | .duplicate => s1.acceptDuplicate r1 e
  | .accept => s1.acceptNew r1 e

/-- The lookup of a request whose channel is FREE (R88). -/
def State.lookup (s : State) (r : Request) : State :=
  match s.cache.find r.channel with
  | some e =>
    if (s.cache.entry e).state.answers then ({ s with cache := s.cache.touch e }).admitRequest r e
    else { s with cache := s.cache.requestFill r.channel }
  | none => { s with cache := s.cache.requestFill r.channel }

/-- The hold-state check (R65, R79, R109). -/
def State.holdCheck (s : State) (r : Request) : State :=
  match (s.record r.channel).hold with
  | .free => s.lookup r
  | .faulted => s.conclude r r.faultVerdict
  | hold => s.conclude { r with byHold := decide (hold = .holdWait) } (if r.broadcast then .dropped false else .busyHold)

/-- A broadcast still in progress is dropped when the next header is handed over; it counts when its context was
present and it passed the sift (R80, R81; log 18). -/
def State.overtake (s : State) : State :=
  match s.engine with
  | some r =>
    (if r.broadcast = true ∧ r.verdict = .acceptNew then s.countError r .broadcastDropped 0 else s).endRequest r
  | none => s

/-- The request record formed from a header (R63). -/
def Request.ofHeader (kind : MsgKind) (broadcast : Bool) (h : RequestHeader) (msg : Nat) : Request where
  kind := kind
  broadcast := broadcast
  channel := channelOf h.channel
  seq := h.seq
  length := h.length
  phase := .lookup
  verdict := .undecided
  entry := none
  ranges := none
  closed := false
  overflow := false
  fault := .none
  ready := false
  lost := false
  byHold := false
  msg := msg

/-- The engine takes the header of a good PUT or GET (R63, R128): the request record, the segment of a PUT, and the
hold-state check at once. -/
def State.takeHeader (s : State) (kind : MsgKind) (broadcast : Bool) (h : RequestHeader) : State :=
  let s1 := s.overtake
  let r := Request.ofHeader kind broadcast h s1.nextMsg
  ({ s1 with
      engine := some r
      nextMsg := s1.nextMsg + 1
      mover := match kind with
        | .put => s1.mover.openSegment s1.nextMsg h.length
        | .get => s1.mover }).holdCheck r

/-! ### The commit (R20, R71, R75, R80) -/

/-- The MESSAGE event of a commit (Table 8-5), when EV_MSG is set. -/
def messageEvents (l : Link) (r : Request) (d after : Descriptor) (record : Addr) : List Event :=
  if d.evMsg then [l.stamped .message (channelByte r.channel) 0 after.msgCount record] else []

/-- AUX16 of a milestone (Table 8-5). -/
def Milestone.aux16 (m : Milestone) (after : Descriptor) : Half :=
  match m with
  | .quotaZero => 0
  | .swap => (BitVec.ofBool after.active).setWidth 16
  | .overwrite => (BitVec.ofBool after.active).setWidth 16
  | .ringWrap => (BitVec.ofBool after.gen).setWidth 16

/-- The MILESTONE event of a commit, when one was raised and EV_MILESTONE is set (R22, Table 8-5). -/
def milestoneEvents (l : Link) (r : Request) (d : Descriptor) (a : Advance) (record : Addr) : List Event :=
  match a.milestone with
  | some m =>
    if d.evMilestone then [l.stamped .milestone (channelByte r.channel) m.code (m.aux16 a.context) record] else []
  | none => []

/-- A MESSAGE_ERROR carried in a completion entry: the message's stamp, AUX32 the record address (R146). -/
def Completion.errorEvent (c : Completion) (detail : ErrorDetail) : Event :=
  ⟨.messageError, channelByte c.channel, detail.code, c.fields.cycle, c.fields.offset, c.fields.length.setWidth 16,
    c.record⟩

/-- The descriptor-write flag (R71, R96): always under THROUGH, under THROUGH_ON_EVENT when the entry carries an event. -/
def Policy.writes (p : Policy) (events : List Event) : Bool :=
  match p with
  | .through => true
  | .throughOnEvent => !events.isEmpty
  | _ => false

/-- The completion entry of a commit on context `d` (R71, R75, Table 8-1). A store fault known at the commit gives
STATUS STORE_FAULT and, when EV_ERROR is set, ends the events (R73, R142). -/
def commitEntry (l : Link) (r : Request) (rg : Ranges) (d : Descriptor) (a : Advance) (storesPending : Bool) :
    Completion :=
  let events := messageEvents l r d a.context rg.record ++ milestoneEvents l r d a rg.record
  let faulted := decide (r.fault = .storeFault)
  let c : Completion :=
    { msg := r.msg
      channel := r.channel
      record := rg.record
      fields := d.recordFields r.broadcast r.seq r.length rg l.cycle l.offset
      storeFault := faulted
      storesPending := storesPending
      descriptorWrite := d.policy.writes events
      errorEnable := d.evError
      recordFault := false
      events := events
      filled := true }
  if faulted && d.evError then { c with events := events ++ [c.errorEvent .storeFault] } else c

/-- A reservation for a GET on the line (R74, R141). Until it is filled it holds record address 0, zero fields, clear
flags and no events: DESIGN CHOICE, unsafe (log 31). -/
def reservation (r : Request) : Completion :=
  { msg := r.msg, channel := r.channel, record := 0, fields := ⟨false, false, false, 0, 0, 0, 0⟩, storeFault := false,
    storesPending := false, descriptorWrite := false, errorEnable := false, recordFault := false, events := [],
    filled := false }

/-- The changes of a commit to the context and the channel's record (R20). -/
def State.advance (s : State) (r : Request) (e : EntryIx) (a : Advance) : State :=
  (s.changeContext e fun _ => a.context).setRecord r.channel fun x =>
    { x with returned := a.returned, seqValid := true }

/-- The stores of the message have not ended (R131). -/
def Mover.storesPending (m : Mover) (msg : Nat) : Bool :=
  m.segments.any fun x => decide (x.msg = msg) && decide (x.state = .storing)

/-- An accepted new message commits (R71, R75, R80): the advance, the stamp, its completion entry placed by `place`,
and the request ends. -/
def State.commit (s : State) (r : Request) (place : Completion → List Completion → List Completion) : State :=
  match r.entry, r.ranges with
  | some e, some rg =>
    let d := s.context e
    let a := d.commit r.kind r.seq r.length rg (s.record r.channel).returned
    let c := commitEntry s.link r rg d a (decide (r.kind = .put) && s.mover.storesPending r.msg)
    let s1 := s.advance r e a
    ({ s1 with retire := { s1.retire with queue := place c s1.retire.queue } }).leaveRequest r
  | _, _ => s.leaveRequest r

/-- A PUT's entry goes to the tail of the completion queue (R141). -/
def enterAtTail (c : Completion) (q : List Completion) : List Completion := q ++ [c]

/-- A GET's entry fills its reservation in place (R141). -/
def fillReservation (c : Completion) (q : List Completion) : List Completion :=
  q.map fun x => if x.msg = c.msg ∧ x.filled = false then c else x

/-- The reservation of a GET that did not complete is removed (R76, R141). -/
def State.releaseReservation (s : State) (r : Request) : State :=
  { s with retire := { s.retire with
      queue := s.retire.queue.filter fun x => x.filled || decide (x.msg ≠ r.msg) } }

/-- A GET reply that ends with the abort symbol (R76): the reservation goes, the error counts and is reported, and the
request ends. -/
def State.abortGet (s : State) (r : Request) (detail : ErrorDetail) (sent : Nat) : State :=
  ((s.releaseReservation r).countError r detail (BitVec.ofNat 32 sent)).endRequest r

/-- A GET whose context was lost ends with the abort symbol and nothing counted (R83). -/
def State.abandonLost (s : State) (r : Request) : State := (s.releaseReservation r).endRequest r

/-! ### The retire unit (chapter 8) -/

/-- The head's events go to the event writer in order and the head leaves the queue (R145). -/
def State.releaseHead (s : State) : State :=
  match s.retire.queue with
  | c :: rest =>
    { s with writer := s.writer.takeAll c.events, retire := { s.retire with queue := rest, step := .stores } }
  | [] => s

/-- The descriptor write the retire unit asks for, answered by the state of the channel's entry (R97); FILLING holds
nothing the table lacks (log 14). -/
def State.askDescriptorWrite (s : State) (n : Channel) : State :=
  match s.cache.find n with
  | some e =>
    match (s.cache.entry e).state with
    | .dirty =>
      let s1 := { s with cache := s.cache.beginWrite e }
      { s1 with
        retire := { s1.retire with step := .descriptorWrite }
        port := { s1.port with retire := some (s1.descriptorBurst (.writeThrough e) e) } }
    | .writing | .writingDirty | .evicting => { s with retire := { s.retire with step := .descriptorWait } }
    | _ => s.releaseHead
  | none => s.releaseHead

/-- The descriptor step of the head (R144). -/
def State.descriptorStep (s : State) : State :=
  match s.retire.queue with
  | c :: _ => if c.descriptorWrite then s.askDescriptorWrite c.channel else s.releaseHead
  | [] => s

/-- A retire unit that waits in its descriptor step looks again when a write or castout has ended (R97). -/
def State.retryDescriptor (s : State) : State :=
  if s.retire.step = .descriptorWait then s.descriptorStep else s

/-- The data mover reports the end of a message's stores (R131, R142). -/
def Completion.storesEnd (c : Completion) (faulted : Bool) : Completion :=
  if faulted then
    { c with storesPending := false, storeFault := true,
             events := if c.errorEnable then c.events ++ [c.errorEvent .storeFault] else c.events }
  else { c with storesPending := false }

/-- The report reaches the entry wherever it stands (R142). -/
def State.reportStoresEnd (s : State) (msg : Nat) (faulted : Bool) : State :=
  { s with retire := { s.retire with
      queue := s.retire.queue.map fun c => if c.msg = msg ∧ c.storesPending = true then c.storesEnd faulted else c } }

/-! ### The command unit (R164 to R166) -/

/-- A command ends (R166). -/
def State.endCommand (s : State) (result : CmdResult) : State :=
  ({ s with cmd := { s.cmd with busy := false, result := result, work := .none } }).setInt intCommandDone

/-! ### Reset (R171, R172) -/

/-- A write burst in flight at a reset is abandoned: which of its words reached memory is a free value (R140; log 6). -/
def State.abandonBurst (s : State) : State :=
  match s.port.inFlight with
  | some b => if b.data = [] then s else s.writePartly b
  | none => s

/-- Every block in its initial state, host memory as it stands (R36, R61, R84, R106, R121, R140, R157). Tags, contexts
and snapshots of the cache are not cleared (R85). -/
def State.resetBlocks (s : State) : State :=
  { s.abandonBurst with
    host := .reset
    cmd := .reset
    link := .reset
    engine := none
    cache := .resetOf s.cache.entries
    status := Vector.replicate 64 .reset
    mover := .reset
    port := .reset
    retire := .reset
    writer := .reset }

end Sys2Proof.Machine
end

