-- ==== Sys2Proof/Machine/Flags.lean ====
section
/-! DEFINITION. What the outside sees: the interrupt line (R155), the transmit-enable pin (R53), and the word each
register of the window reads (R158, Table 11-9). A read changes no state. -/

namespace Sys2Proof.Machine

/-- The interrupt line: asserted while at least one bit is both pending and enabled (R155); never under RESET (R171). -/
def State.interruptLine (s : State) : Bool :=
  !s.resetAsserted && decide (s.host.intPending &&& s.host.intMask ≠ 0)

/-- The transmit-enable output: set while a reply is sent (R53, section 11.7). -/
def State.transmitEnable (s : State) : Bool :=
  !s.resetAsserted && match s.link.rx with
    | .replying _ => true
    | _ => false

def NodeState.code : NodeState → BitVec 2
  | .halted => 0
  | .running => 1
  | .stopping => 2

def HoldState.code : HoldState → BitVec 2
  | .free => 0
  | .holdWait => 1
  | .held => 2
  | .faulted => 3

/-- CHANNEL_STATUS (Table 11-9). -/
def ChannelRecord.word (x : ChannelRecord) : Word :=
  0#17 ++ BitVec.ofBool x.seqValid ++ BitVec.ofBool x.returned ++ BitVec.ofBool x.pinned ++ x.subCode ++ 0#2
    ++ x.reason.code.setWidth 2 ++ 0#2 ++ x.hold.code

/-- How many entries satisfy `p`. -/
def Cache.countEntries (c : Cache) (p : EntryState → Bool) : Nat :=
  (entryOrder.filter fun e => p (c.entry e).state).length

/-- VALID_COUNT (R107). -/
def Cache.validCount (c : Cache) : Nat := c.countEntries EntryState.answers

/-- DIRTY_COUNT (R107). -/
def Cache.dirtyCount (c : Cache) : Nat :=
  c.countEntries fun x => decide (x = .dirty) || decide (x = .writingDirty)

/-- PINNED_COUNT: the channels whose pinned flag is set (R99, R107). -/
def State.pinnedCount (s : State) : Nat := (s.status.toList.filter fun x => x.pinned).length

/-- CACHE_STATUS (Table 11-9). -/
def State.cacheStatusWord (s : State) : Word :=
  0#12 ++ BitVec.ofNat 4 s.pinnedCount ++ 0#3 ++ BitVec.ofNat 5 s.cache.dirtyCount ++ 0#3
    ++ BitVec.ofNat 5 s.cache.validCount

/-- COMMAND_RESULT (Table 11-9, R166). -/
def CommandUnit.resultWord (c : CommandUnit) : Word :=
  BitVec.ofBool c.busy ++ 0#7 ++ c.operand ++ c.code ++ c.result.code

/-- EQ_STATUS (Table 11-9). -/
def Writer.statusWord (w : Writer) : Word :=
  0#20 ++ BitVec.ofNat 4 w.queue.length ++ 0#6 ++ BitVec.ofBool w.showsFull ++ BitVec.ofBool (!w.active)

/-- The rights of a window in GUARD_RIGHTS (Table 11-9). -/
def GuardWindow.rights (g : GuardWindow) : BitVec 4 :=
  0#1 ++ BitVec.ofBool g.fetch ++ BitVec.ofBool g.store ++ BitVec.ofBool g.enable

/-- GUARD_RIGHTS. -/
def Mover.rightsWord (m : Mover) : Word :=
  0#16 ++ m.guards[3].rights ++ m.guards[2].rights ++ m.guards[1].rights ++ m.guards[0].rights

/-- GLOBAL_ENABLES. -/
def HostIf.enablesWord (h : HostIf) : Word :=
  0#23 ++ BitVec.ofBool h.serviceRequest ++ 0#6 ++ BitVec.ofBool h.linkResetEnable ++ BitVec.ofBool h.linkErrorEnable

/-- The register at a word offset of the window; an offset Table 9-1 does not list reads 0 (R158). -/
def State.windowWord (s : State) (wordOffset : Nat) : Word :=
  match wordOffset with
  | 0x00 => Config.ident
  | 0x04 => s.cmd.node.code.setWidth 32
  | 0x08 => 0#16 ++ s.cmd.operand ++ s.cmd.code
  | 0x0C => s.cmd.resultWord
  | 0x10 => s.host.intPending.setWidth 32
  | 0x14 => s.host.intMask.setWidth 32
  | 0x18 => s.host.nodeAddress.setWidth 32
  | 0x1C => s.host.enablesWord
  | 0x20 => s.host.tableBase
  | 0x24 => s.writer.eqBase
  | 0x28 => s.writer.eqSize.setWidth 32
  | 0x2C => s.writer.producer.setWidth 32
  | 0x30 => s.writer.consumer.setWidth 32
  | 0x34 => s.writer.dropped.setWidth 32
  | 0x38 => s.writer.statusWord
  | 0x40 => s.mover.guards[0].base
  | 0x44 => s.mover.guards[0].limit
  | 0x48 => s.mover.guards[1].base
  | 0x4C => s.mover.guards[1].limit
  | 0x50 => s.mover.guards[2].base
  | 0x54 => s.mover.guards[2].limit
  | 0x58 => s.mover.guards[3].base
  | 0x5C => s.mover.guards[3].limit
  | 0x60 => s.mover.rightsWord
  | 0x64 => s.link.cycle.setWidth 32
  | 0x68 => s.link.offset.setWidth 32
  | 0x6C => s.link.frameErrors ++ s.link.crcErrors
  | 0x70 => BitVec.ofNat 32 s.host.channelSelect.val
  | 0x74 => (s.record s.host.channelSelect).word
  | 0x78 => s.cacheStatusWord
  | 0x80 => s.host.sticky.setWidth 32
  | _ => 0

/-- What a host read at `offset` returns: the two low bits of the offset are taken as 0 (R158), and every offset reads 0
while RESET is asserted (R171). -/
def State.readRegister (s : State) (offset : Byte) : Word :=
  if s.resetAsserted then 0 else s.windowWord (offset.toNat / 4 * 4)

end Sys2Proof.Machine
end

