-- ==== Sys2Proof/Machine/Commands.lean ====
section
/-! DEFINITION. The command unit: a write to COMMAND (R164), its checks (R165), and the ten commands with BAD_COMMAND
(chapters 5, 6, 8 and 9). -/

namespace Sys2Proof.Machine

def stickyConfigIgnored : BitVec 2 := 0x1#2
def stickyRefusedBusy : BitVec 2 := 0x2#2

/-- Set a bit of STICKY_STATUS (R160). -/
def State.setSticky (s : State) (bit : BitVec 2) : State :=
  { s with host := { s.host with sticky := s.host.sticky ||| bit } }

/-- A write to COMMAND (R164): refused as busy, or taken, checked and carried out by `body`. -/
def State.takeCommand (s : State) (code operand : Byte) (body : State → State) : State :=
  if s.cmd.busy then s.setSticky stickyRefusedBusy
  else body { s with cmd := { s.cmd with busy := true, code := code, operand := operand, result := .none } }

/-- The checks of a command with a channel operand: the operand, then the node state (R165). -/
def State.channelCommand (s : State) (operand : Byte) (body : Channel → State → State) : State :=
  if 63 < operand.toNat then s.endCommand .refusedBadChannel
  else if s.cmd.node = .stopping then s.endCommand .refusedBadState
  else body (channelOf operand) s

/-! ### START and STOP -/

/-- The conditions on which START is refused (R167). -/
def State.badConfig (s : State) : Bool :=
  decide (s.host.nodeAddress = 63)
    || !alignedTo s.host.tableBase 2048
    || decide (s.writer.eqSize.toNat < 4) || decide (12 < s.writer.eqSize.toNat)
    || !alignedTo s.writer.eqBase (16 * 2 ^ s.writer.eqSize.toNat)

/-- seq_valid is cleared on all 64 channels (R60, R118, R120). -/
def State.clearSeqValid (s : State) : State :=
  { s with status := s.status.map fun x => { x with seqValid := false } }

/-- The channels in ascending order. -/
def channelOrder : List Channel := List.finRange 64

/-- The pinned channels whose hold state is FREE, in ascending order (R101). -/
def State.pinnedFree (s : State) : List Channel :=
  channelOrder.filter fun n => (s.record n).pinned && decide ((s.record n).hold = .free)

/-- What START does once its checks pass (R167). -/
def State.startNode (s : State) : State :=
  let s1 := s.clearSeqValid
  { s1 with
    link := { s1.link with cycle := 0, offset := 0, rx := .idle }
    cmd := { s1.cmd with node := .running }
    cache := s1.pinnedFree.foldl Cache.requestFill s1.cache }

def State.startCommand (s : State) : State :=
  if s.cmd.node ≠ .halted then s.endCommand .refusedBadState
  else if s.badConfig then s.endCommand .refusedBadConfig
  else s.startNode.endCommand .done

/-- STOP is taken (R168). -/
def State.stopCommand (s : State) : State :=
  if s.cmd.node ≠ .running then s.endCommand .refusedBadState
  else { s with cmd := { s.cmd with node := .stopping, work := .stop .request false } }

/-! ### HOLD, RELEASE and RETURN -/

/-- A channel becomes HELD: no reason, the returned flag and seq_valid clear (R110, R112). -/
def ChannelRecord.becomeHeld (x : ChannelRecord) : ChannelRecord :=
  { x with hold := .held, reason := .none, subCode := 0, returned := false, seqValid := false }

/-- The header of the request came before the HOLD that is now taken (R111). -/
def Request.beforeHold (r : Request) : Request := { r with byHold := false }

/-- HOLD n enters HOLD_WAIT: a request in progress came before it, and the HOLD waits for it (R110, R111). -/
def State.enterHoldWait (s : State) (n : Channel) : State :=
  (({ s with engine := s.engine.map Request.beforeHold }).setRecord n fun x =>
    { x with hold := .holdWait }).setWork (.hold n)

/-- HOLD n after its checks (R110). -/
def State.holdChannel (n : Channel) (s : State) : State :=
  match (s.record n).hold with
  | .free =>
    if s.cmd.node = .running then s.enterHoldWait n
    else (s.setRecord n ChannelRecord.becomeHeld).endCommand .done
  | .faulted => (s.setRecord n ChannelRecord.becomeHeld).endCommand .done
  | _ => s.endCommand .refusedAlready

/-- A fill for `n` is requested while RUNNING (R100, R101). -/
def State.refill (s : State) (n : Channel) : State :=
  if s.cmd.node = .running then { s with cache := s.cache.requestFill n } else s

/-- RELEASE n after its checks (R116). -/
def State.releaseChannel (n : Channel) (s : State) : State :=
  match (s.record n).hold with
  | .held | .faulted =>
    let s1 := s.setRecord n fun x => { x with hold := .free, reason := .none, subCode := 0 }
    (if (s.record n).pinned then s1.refill n else s1).endCommand .done
  | _ => s.endCommand .refusedNotHeld

/-- RETURN n after its checks (R117). -/
def State.returnChannel (n : Channel) (s : State) : State :=
  match (s.record n).hold with
  | .free =>
    if (s.record n).returned then s.endCommand .refusedAlready
    else (s.setRecord n fun x => { x with returned := true }).endCommand .done
  | _ => s.endCommand .refusedBadState

/-! ### PIN and UNPIN -/

/-- PIN n after its checks (R100). -/
def State.pinChannel (n : Channel) (s : State) : State :=
  if (s.record n).hold = .faulted then s.endCommand .refusedBadState
  else if (s.record n).pinned then s.endCommand .refusedAlready
  else if Config.pinLimit ≤ s.pinnedCount then s.endCommand .refusedPinLimit
  else
    let s1 := s.setRecord n fun x => { x with pinned := true }
    (if (s.record n).hold = .free then s1.refill n else s1).endCommand .done

/-- UNPIN n after its checks (R101). -/
def State.unpinChannel (n : Channel) (s : State) : State :=
  if (s.record n).pinned then (s.setRecord n fun x => { x with pinned := false }).endCommand .done
  else s.endCommand .refusedAlready

/-! ### FLUSH and PURGE -/

/-- The entries that satisfy `p`, in ascending order, each with its tag. -/
def State.members (s : State) (p : Entry → Bool) : List (EntryIx × Channel) :=
  (entryOrder.filter fun e => p (s.cache.entry e)).map fun e => (e, (s.cache.entry e).tag)

/-- A job over a set of members, none dealt with. -/
def CastJob.over (members : List (EntryIx × Channel)) : CastJob := ⟨members, members, .waiting⟩

/-- FLUSH's set: the entries in DIRTY, WRITING, WRITING_DIRTY or EVICTING (R102). -/
def Entry.flushMember (x : Entry) : Bool :=
  match x.state with
  | .dirty | .writing | .writingDirty | .evicting => true
  | _ => false

/-- PURGE's second set: the unpinned entries that are not INVALID (R103). -/
def State.purgeSet (s : State) : List (EntryIx × Channel) :=
  s.members fun x => decide (x.state ≠ .invalid) && !(s.record x.tag).pinned

/-- The result of FLUSH, PURGE and STOP (R102, R103, R169). -/
def resultOf (faulted : Bool) : CmdResult := if faulted then .doneWithFaults else .done

/-- FLUSH ends when no member is left (R102). -/
def State.flushWith (s : State) (job : CastJob) (faulted : Bool) : State :=
  if job.todo = [] then s.endCommand (resultOf faulted) else s.setWork (.flush job faulted)

/-- PURGE ends when no member of either set is left (R103). -/
def State.purgeWith (s : State) (first second : CastJob) (faulted : Bool) : State :=
  if first.todo = [] ∧ second.todo = [] then s.endCommand (resultOf faulted)
  else s.setWork (.purge first second faulted)

/-- FLUSH (R102): at once in HALTED. -/
def State.flushCommand (s : State) : State :=
  match s.cmd.node with
  | .stopping => s.endCommand .refusedBadState
  | .halted => s.endCommand .done
  | .running => s.flushWith (.over (s.members Entry.flushMember)) false

/-- PURGE (R103): at once in HALTED. -/
def State.purgeCommand (s : State) : State :=
  match s.cmd.node with
  | .stopping => s.endCommand .refusedBadState
  | .halted => s.endCommand .done
  | .running => s.purgeWith (.over (s.members Entry.flushMember)) (.over s.purgeSet) false

/-! ### RESUME_EVENTS -/

/-- RESUME_EVENTS (R154). -/
def State.resumeCommand (s : State) : State :=
  if s.cmd.node = .stopping then s.endCommand .refusedBadState
  else if s.writer.active then s.endCommand .refusedAlready
  else ({ s with writer := { s.writer with active := true } }).writerLook.endCommand .done

/-! ### The commands -/

def State.writeStart (s : State) (operand : Byte) : State := s.takeCommand 1 operand State.startCommand
def State.writeStop (s : State) (operand : Byte) : State := s.takeCommand 2 operand State.stopCommand
def State.writeHold (s : State) (operand : Byte) : State :=
  s.takeCommand 3 operand fun t => t.channelCommand operand State.holdChannel
def State.writeRelease (s : State) (operand : Byte) : State :=
  s.takeCommand 4 operand fun t => t.channelCommand operand State.releaseChannel
def State.writeReturn (s : State) (operand : Byte) : State :=
  s.takeCommand 5 operand fun t => t.channelCommand operand State.returnChannel
def State.writePin (s : State) (operand : Byte) : State :=
  s.takeCommand 6 operand fun t => t.channelCommand operand State.pinChannel
def State.writeUnpin (s : State) (operand : Byte) : State :=
  s.takeCommand 7 operand fun t => t.channelCommand operand State.unpinChannel
def State.writeFlush (s : State) (operand : Byte) : State := s.takeCommand 8 operand State.flushCommand
def State.writePurge (s : State) (operand : Byte) : State := s.takeCommand 9 operand State.purgeCommand
def State.writeResume (s : State) (operand : Byte) : State := s.takeCommand 10 operand State.resumeCommand

/-- A write to COMMAND by its code (R164, R165, Table 9-3). -/
def State.writeCommand (s : State) (code operand : Byte) : State :=
  match code.toNat with
  | 1 => s.writeStart operand
  | 2 => s.writeStop operand
  | 3 => s.writeHold operand
  | 4 => s.writeRelease operand
  | 5 => s.writeReturn operand
  | 6 => s.writePin operand
  | 7 => s.writeUnpin operand
  | 8 => s.writeFlush operand
  | 9 => s.writePurge operand
  | 10 => s.writeResume operand
  | _ => s.takeCommand code operand fun t => t.endCommand .refusedBadCommand

def execStart (operand : Byte) (s : State) : Host.Outcome State Fault Refusal :=
  .next (s.live fun t => t.writeStart operand)

def execStop (operand : Byte) (s : State) : Host.Outcome State Fault Refusal :=
  .next (s.live fun t => t.writeStop operand)

def execHold (operand : Byte) (s : State) : Host.Outcome State Fault Refusal :=
  .next (s.live fun t => t.writeHold operand)

def execRelease (operand : Byte) (s : State) : Host.Outcome State Fault Refusal :=
  .next (s.live fun t => t.writeRelease operand)

def execReturn (operand : Byte) (s : State) : Host.Outcome State Fault Refusal :=
  .next (s.live fun t => t.writeReturn operand)

def execPin (operand : Byte) (s : State) : Host.Outcome State Fault Refusal :=
  .next (s.live fun t => t.writePin operand)

def execUnpin (operand : Byte) (s : State) : Host.Outcome State Fault Refusal :=
  .next (s.live fun t => t.writeUnpin operand)

def execFlush (operand : Byte) (s : State) : Host.Outcome State Fault Refusal :=
  .next (s.live fun t => t.writeFlush operand)

def execPurge (operand : Byte) (s : State) : Host.Outcome State Fault Refusal :=
  .next (s.live fun t => t.writePurge operand)

def execResumeEvents (operand : Byte) (s : State) : Host.Outcome State Fault Refusal :=
  .next (s.live fun t => t.writeResume operand)

/-- BAD_COMMAND (R165); a code of 1 to 10 is that command (log 20). -/
def execBadCommand (code operand : Byte) (s : State) : Host.Outcome State Fault Refusal :=
  .next (s.live fun t => t.writeCommand code operand)

end Sys2Proof.Machine
end

