-- ==== Sys2Proof/Machine/Window.lean ====
section
/-! DEFINITION. Writes to the other registers of the window (R158 to R161, R148, R155, R51, R119), and the two resets
(R171, R172). -/

namespace Sys2Proof.Machine

/-- A write to INT_PENDING clears each bit written as one (R155). -/
def State.writeIntPending (s : State) (v : Word) : State :=
  { s with host := { s.host with intPending := s.host.intPending &&& ~~~(v.setWidth 4) } }

/-- A write to INT_MASK replaces all four enables (R155). -/
def State.writeIntMask (s : State) (v : Word) : State :=
  { s with host := { s.host with intMask := v.setWidth 4 } }

/-- A write to STICKY_STATUS clears each bit written as one (R160). -/
def State.writeSticky (s : State) (v : Word) : State :=
  { s with host := { s.host with sticky := s.host.sticky &&& ~~~(v.setWidth 2) } }

/-- A configuration write: taken in HALTED, otherwise ignored with CONFIG_WRITE_IGNORED (R159). -/
def State.configured (s : State) (f : State → State) : State :=
  if s.cmd.node = .halted then f s else s.setSticky stickyConfigIgnored

/-- A guard bound keeps no low bits (R137). -/
def guardBound (v : Word) : Addr := v &&& 0xFFFFFFFC#32

/-- The rights GUARD_RIGHTS gives window `w` (Table 11-9). -/
def GuardWindow.withRights (g : GuardWindow) (v : Word) (w : Nat) : GuardWindow :=
  { g with enable := getBit v (4 * w), store := getBit v (4 * w + 1), fetch := getBit v (4 * w + 2) }

/-- The value a configuration register takes (R159, R137). -/
def State.setConfig (s : State) (reg : ConfigReg) (v : Word) : State :=
  match reg with
  | .nodeAddress => { s with host := { s.host with nodeAddress := v.setWidth 6 } }
  | .tableBase => { s with host := { s.host with tableBase := v } }
  | .guardBase w =>
    { s with mover := { s.mover with guards := modifyAt s.mover.guards w fun g => { g with base := guardBound v } } }
  | .guardLimit w =>
    { s with mover := { s.mover with guards := modifyAt s.mover.guards w fun g => { g with limit := guardBound v } } }
  | .guardRights =>
    { s with mover := { s.mover with guards := s.mover.guards.mapFinIdx fun i g _ => g.withRights v i } }

/-- CONFIG_WRITE (R159). -/
def State.writeConfig (s : State) (reg : ConfigReg) (v : Word) : State := s.configured fun t => t.setConfig reg v

/-- What an accepted write of EQ_BASE or EQ_SIZE also does (R148). -/
def Writer.resetIndices (w : Writer) : Writer := { w with producer := 0, consumer := 0, dropped := 0, serial := 0 }

/-- EQ_BASE_WRITE (R148, R159). -/
def State.writeEqBase (s : State) (v : Word) : State :=
  s.configured fun t => { t with writer := ({ t.writer with eqBase := v }).resetIndices }

/-- EQ_SIZE_WRITE (R148, R159). -/
def State.writeEqSize (s : State) (v : Word) : State :=
  s.configured fun t => { t with writer := ({ t.writer with eqSize := v.setWidth 4 }).resetIndices }

/-- GLOBAL_ENABLES_WRITE (R159, R161): SERVICE_REQUEST always; the link enables in HALTED alone, and elsewhere a write
that would change one sets CONFIG_WRITE_IGNORED. -/
def State.writeGlobalEnables (s : State) (v : Word) : State :=
  let s1 := { s with host := { s.host with serviceRequest := getBit v 8 } }
  if s.cmd.node = .halted then
    { s1 with host := { s1.host with linkErrorEnable := getBit v 0, linkResetEnable := getBit v 1 } }
  else if getBit v 0 ≠ s.host.linkErrorEnable ∨ getBit v 1 ≠ s.host.linkResetEnable then
    s1.setSticky stickyConfigIgnored
  else s1

/-- EQ_CONSUMER_WRITE (R148, R173): the low 12 bits, after which the writer looks at its head (R149). -/
def State.writeEqConsumer (s : State) (v : Word) : State :=
  ({ s with writer := { s.writer with consumer := v.setWidth 12 } }).writerLook

/-- LINK_ERRORS_WRITE (R51). -/
def State.writeLinkErrors (s : State) (_v : Word) : State :=
  { s with link := { s.link with crcErrors := 0, frameErrors := 0 } }

/-- CHANNEL_SELECT_WRITE: the written value modulo 64 (R119). -/
def State.writeChannelSelect (s : State) (v : Word) : State :=
  { s with host := { s.host with channelSelect := ⟨v.toNat % 64, Nat.mod_lt _ (by decide)⟩ } }

/-- A write to SOFT_RESET whose lowest bit is one resets the part (R172). -/
def State.writeSoftReset (s : State) (v : Word) : State := if getBit v 0 then s.resetBlocks else s

/-- The word a write delivers: bytes the access does not enable are taken as 0 (R158). -/
def deliveredWord (enables : BitVec 4) (v : Word) : Word :=
  wordOfBytes (if enables.getLsbD 0 then v.extractLsb' 0 8 else 0) (if enables.getLsbD 1 then v.extractLsb' 8 8 else 0)
    (if enables.getLsbD 2 then v.extractLsb' 16 8 else 0) (if enables.getLsbD 3 then v.extractLsb' 24 8 else 0)

/-- A write to the register at a word offset; a read-only register and an unlisted offset ignore it (R158, Table 9-1). -/
def State.writeWindow (s : State) (wordOffset : Nat) (v : Word) : State :=
  match wordOffset with
  | 0x08 => s.writeCommand (v.extractLsb' 0 8) (v.extractLsb' 8 8)
  | 0x10 => s.writeIntPending v
  | 0x14 => s.writeIntMask v
  | 0x18 => s.writeConfig .nodeAddress v
  | 0x1C => s.writeGlobalEnables v
  | 0x20 => s.writeConfig .tableBase v
  | 0x24 => s.writeEqBase v
  | 0x28 => s.writeEqSize v
  | 0x30 => s.writeEqConsumer v
  | 0x40 => s.writeConfig (.guardBase 0) v
  | 0x44 => s.writeConfig (.guardLimit 0) v
  | 0x48 => s.writeConfig (.guardBase 1) v
  | 0x4C => s.writeConfig (.guardLimit 1) v
  | 0x50 => s.writeConfig (.guardBase 2) v
  | 0x54 => s.writeConfig (.guardLimit 2) v
  | 0x58 => s.writeConfig (.guardBase 3) v
  | 0x5C => s.writeConfig (.guardLimit 3) v
  | 0x60 => s.writeConfig .guardRights v
  | 0x6C => s.writeLinkErrors v
  | 0x70 => s.writeChannelSelect v
  | 0x7C => s.writeSoftReset v
  | 0x80 => s.writeSticky v
  | _ => s

/-- A write access to the window (R158). -/
def State.writeAccess (s : State) (offset : Byte) (enables : BitVec 4) (v : Word) : State :=
  s.writeWindow (offset.toNat / 4 * 4) (deliveredWord enables v)

def execIntPendingWrite (v : Word) (s : State) : Host.Outcome State Fault Refusal :=
  .next (s.live fun t => t.writeIntPending v)

def execIntMaskWrite (v : Word) (s : State) : Host.Outcome State Fault Refusal :=
  .next (s.live fun t => t.writeIntMask v)

def execStickyStatusWrite (v : Word) (s : State) : Host.Outcome State Fault Refusal :=
  .next (s.live fun t => t.writeSticky v)

def execConfigWrite (reg : ConfigReg) (v : Word) (s : State) : Host.Outcome State Fault Refusal :=
  .next (s.live fun t => t.writeConfig reg v)

def execEqBaseWrite (v : Word) (s : State) : Host.Outcome State Fault Refusal :=
  .next (s.live fun t => t.writeEqBase v)

def execEqSizeWrite (v : Word) (s : State) : Host.Outcome State Fault Refusal :=
  .next (s.live fun t => t.writeEqSize v)

def execGlobalEnablesWrite (v : Word) (s : State) : Host.Outcome State Fault Refusal :=
  .next (s.live fun t => t.writeGlobalEnables v)

def execEqConsumerWrite (v : Word) (s : State) : Host.Outcome State Fault Refusal :=
  .next (s.live fun t => t.writeEqConsumer v)

def execLinkErrorsWrite (v : Word) (s : State) : Host.Outcome State Fault Refusal :=
  .next (s.live fun t => t.writeLinkErrors v)

def execChannelSelectWrite (v : Word) (s : State) : Host.Outcome State Fault Refusal :=
  .next (s.live fun t => t.writeChannelSelect v)

/-- REGISTER_WRITE (R158); at the offset of a writable register it is the write of that register (log 20). -/
def execRegisterWrite (offset : Byte) (enables : BitVec 4) (v : Word) (s : State) :
    Host.Outcome State Fault Refusal :=
  .next (s.live fun t => t.writeAccess offset enables v)

/-- SOFT_RESET (R172). -/
def execSoftReset (v : Word) (s : State) : Host.Outcome State Fault Refusal :=
  .next (s.live fun t => t.writeSoftReset v)

/-- RESET_ASSERT (R171): every block goes to its initial state and is held there. -/
def execResetAssert (s : State) : Host.Outcome State Fault Refusal :=
  .next (s.live fun t => { t.resetBlocks with resetAsserted := true })

/-- RESET_RELEASE (R171): the part begins in the state of Table 9-6. -/
def execResetRelease (s : State) : Host.Outcome State Fault Refusal :=
  .next (if s.resetAsserted then { s.resetBlocks with resetAsserted := false } else s)

end Sys2Proof.Machine
end

