-- ==== Sys2Proof/Machine/Line.lean ====
section
/-! DEFINITION. The receiver: the symbols of the line, frames, their errors, and SYNC, PROBE and NODE_RESET
(chapter 3). -/

namespace Sys2Proof.Machine

def State.setRx (s : State) (rx : Receiver) : State := { s with link := { s.link with rx := rx } }

/-! ### Errors (R50, R51, R54) -/

/-- What went wrong on the line, as LINK_ERROR's DETAIL names it (Table 11-7). -/
inductive LineError where
  | crc
  | frame
  | earlyRequest
deriving DecidableEq, Repr

def LineError.code : LineError → Byte
  | .crc => 1
  | .frame => 2
  | .earlyRequest => 3

/-- The error counters after an error (R50, R51). -/
def Link.countLineError (l : Link) (err : LineError) : Link :=
  match err with
  | .crc => { l with crcErrors := saturate l.crcErrors 1 }
  | _ => { l with frameErrors := saturate l.frameErrors 1 }

/-- The counter an error increments. -/
def Link.errorCounter (l : Link) (err : LineError) : Half :=
  match err with
  | .crc => l.crcErrors
  | _ => l.frameErrors

/-- An error is counted, and LINK_ERROR raised when enabled, with the counter after the increment (R50, Table 8-5). -/
def State.lineError (s : State) (err : LineError) : State :=
  let s1 := { s with link := s.link.countLineError err }
  if s.host.linkErrorEnable then s1.raise .linkError 0xFF err.code (s1.link.errorCounter err) 0 else s1

/-- The PUT or GET an errored frame plainly concerned (R50): addressed, its header complete, CHANNEL 0 to 63. -/
def Frame.concerns (f : Frame) : Option RequestHeader :=
  if f.cls = some .addressed then
    match headerOf f.header with
    | some h => if (h.kind = .put ∨ h.kind = .get) ∧ h.channel.toNat ≤ 63 then some h else none
    | none => none
  else none

/-- MESSAGE_ERROR(FRAME) when the channel's context is resident and has EV_ERROR set (R50). -/
def State.frameMessageError (s : State) (f : Frame) : State :=
  match f.concerns with
  | some h =>
    match s.cache.find (channelOf h.channel) with
    | some e =>
      if (s.cache.entry e).state.answers && (s.context e).evError then
        s.raise .messageError h.channel ErrorDetail.frame.code (h.length.setWidth 16) 0
      else s
    | none => s
  | none => s

/-- The engine is told that the frame of message `msg` failed: the request ends with nothing more (R48, R64). -/
def State.requestFails (s : State) (msg : Nat) : State :=
  (match s.engine with
    | some r => if r.msg = msg then s.endRequest r else s
    | none => s).endSegmentFrame msg

/-- The engine is told of the good close of message `msg` (R48). -/
def State.requestCloses (s : State) (msg : Nat) : State :=
  let s1 := s.endSegmentFrame msg
  match s1.engine with
  | some r => if r.msg = msg then ({ s1 with engine := some { r with closed := true } }).settleBroadcast else s1
  | none => s1

/-- A frame of this node ends in error: the report of R50, and the receiver in IDLE, where the rest of the frame is
ignored (R47, R49). -/
def State.failFrame (s : State) (f : Frame) (err : LineError) : State :=
  let s1 := ((s.setRx .idle).lineError err).frameMessageError f
  match f.msg with
  | some m => s1.requestFails m
  | none => s1

/-- A frame ends without its closing flag: in error when it is this node's, otherwise without report (R40, R45, R47). -/
def State.breakFrame (s : State) (f : Frame) : State :=
  match f.cls with
  | some .addressed => s.failFrame f .frame
  | some .broadcast => s.failFrame f .frame
  | _ => s.setRx .idle

/-! ### Data symbols (R45 to R49, R128) -/

/-- A body byte of a PUT handed to the data mover (R48, R128, R132, R72). -/
def State.stageByte (s : State) (msg : Nat) (b : Byte) : State :=
  match s.mover.byteFate msg with
  | .ignored => { s with mover := s.mover.modify msg fun x => { x with due := x.due - 1 } }
  | .staged =>
    ({ s with mover := s.mover.modify msg fun x => { x with held := x.held ++ [b], due := x.due - 1 } }).presentStore
  | .overflow =>
    let s1 := ({ s with mover := s.mover.modify msg fun x => { x with due := x.due - 1 } }).discardSegment msg
    match s1.engine with
    | some r =>
      if r.msg = msg then
        let r1 := { r with overflow := true }
        if r.verdict = .acceptNew then s1.conclude r1 (if r.broadcast then .dropped true else .busyOverflow)
        else { s1 with engine := some r1 }
      else s1
    | none => s1

/-- The engine's kind of a frame kind. -/
def FrameKind.msgKind : FrameKind → Option MsgKind
  | .put => some .put
  | .get => some .get
  | _ => none

/-- The fourth header byte of a frame of this node: the checks of Table 3-6, and the hand-over of a PUT or GET while
RUNNING (R46, R48, R55). -/
def State.headerComplete (s : State) (f : Frame) (cls : FrameClass) : State :=
  match headerOf f.header with
  | none => s.failFrame f .frame
  | some h =>
    if h.good cls = false then s.failFrame f .frame
    else match h.kind.msgKind with
      | some k =>
        if s.cmd.node = .running then
          (s.setRx (.receiving { f with msg := some s.nextMsg })).takeHeader k (decide (cls = .broadcast)) h
        else s.setRx (.receiving f)
      | none => s.setRx (.receiving f)

/-- A data symbol past the header of a frame of this node: body, CRC, or one too many (R48, R49). -/
def State.takeBodyByte (s : State) (f : Frame) (b : Byte) : State :=
  match headerOf f.header with
  | none => s
  | some h =>
    let body := h.kind.bodyLength h.length
    if f.count < 4 + body then
      let f1 := { f with
        count := f.count + 1
        crc := crcByte f.crc b
        syncBody := if h.kind = .sync then f.syncBody ++ [b] else f.syncBody }
      let s1 := s.setRx (.receiving f1)
      match f.msg with
      | some m => s1.stageByte m b
      | none => s1
    else if f.count < 4 + body + 2 then
      s.setRx (.receiving { f with count := f.count + 1, crcBytes := f.crcBytes ++ [b] })
    else s.failFrame f .frame

/-- A header byte (R43, R45). -/
def Frame.takeHeaderByte (f : Frame) (nodeAddress : BitVec 6) (b : Byte) : Frame :=
  { f with
    header := f.header ++ [b]
    count := f.count + 1
    crc := crcByte f.crc b
    cls := if f.count = 1 then some (classOf nodeAddress b) else f.cls }

/-- A data symbol taken in an open frame (R47). -/
def State.takeByte (s : State) (f : Frame) (b : Byte) : State :=
  if f.cls = some .foreign then s.setRx (.receiving { f with count := f.count + 1 })
  else if f.count < 4 then
    let f1 := f.takeHeaderByte s.host.nodeAddress b
    match f1.cls with
    | some .addressed => if f1.count = 4 then s.headerComplete f1 .addressed else s.setRx (.receiving f1)
    | some .broadcast => if f1.count = 4 then s.headerComplete f1 .broadcast else s.setRx (.receiving f1)
    | _ => s.setRx (.receiving f1)
  else s.takeBodyByte f b

/-! ### The closing flag (R49, R57, R59, R60) -/

/-- A good SYNC loads the cycle number and zeroes the offset (R57). -/
def State.syncCloses (s : State) (body : List Byte) : State :=
  match body with
  | [lo, hi] => { s with link := { s.link with cycle := hi ++ lo, offset := 0 } }
  | _ => s

/-- A good NODE_RESET (R60): seq_valid clear everywhere, the cycle time zero, LINK_RESET when enabled (log 17). -/
def State.nodeResetCloses (s : State) (cls : FrameClass) : State :=
  let s1 := s.clearSeqValid
  let s2 := { s1 with link := { s1.link with cycle := 0, offset := 0 } }
  if s.host.linkResetEnable then
    s2.raise .linkReset 0xFF (if cls = .addressed then 1 else 2) 0 0
  else s2

/-- The receiver after a good close: REPLY_WAIT for an addressed frame, IDLE for a broadcast (R47, R49). -/
def State.afterClose (s : State) (cls : FrameClass) (source : ReplySource) (h : RequestHeader) : State :=
  if cls = .addressed then s.setRx (.replyWait ⟨source, h.seq, h.channel⟩ .closed) else s.setRx .idle

/-- A frame of this node closes good (R48, R49, R55). -/
def State.goodClose (s : State) (f : Frame) (cls : FrameClass) (h : RequestHeader) : State :=
  match h.kind with
  | .sync => (s.afterClose .broadcast .status h).syncCloses f.syncBody
  | .probe => s.afterClose cls .status h
  | .nodeReset => (s.afterClose cls .nodeReset h).nodeResetCloses cls
  | _ =>
    match f.msg with
    | some m => (s.afterClose cls .engine h).requestCloses m
    | none => s.afterClose cls .stoppingBusy h

/-- The closing flag of a frame of this node: length, then CRC (R47, R49). -/
def State.closeFrame (s : State) (f : Frame) (cls : FrameClass) : State :=
  match headerOf f.header with
  | none => s.failFrame f .frame
  | some h =>
    if f.count ≠ 4 + h.kind.bodyLength h.length + 2 then s.failFrame f .frame
    else if f.crcBytes ≠ crcBytesOf f.crc then s.failFrame f .crc
    else s.goodClose f cls h

/-! ### Symbols (R40, R47, R54, R55) -/

/-- In HALTED the receiver acts on no symbol (R55). -/
def State.onLine (s : State) (f : State → State) : State := if s.cmd.node = .halted then s else f s

/-- An opening flag (R47, R54). -/
def State.takeOpening (s : State) : State :=
  match s.link.rx with
  | .idle => s.setRx (.receiving .opened)
  | .receiving f => (s.breakFrame f).setRx (.receiving .opened)
  | .replyWait _ _ => s.lineError .earlyRequest
  | .replying _ => s
  | .recovery => s.lineError .earlyRequest

/-- A data symbol (R47). -/
def State.takeData (s : State) (b : Byte) : State :=
  match s.link.rx with
  | .receiving f => s.takeByte f b
  | _ => s

/-- A closing flag (R45, R47, R49). -/
def State.takeClosing (s : State) : State :=
  match s.link.rx with
  | .receiving f =>
    match f.cls with
    | some .addressed => s.closeFrame f .addressed
    | some .broadcast => s.closeFrame f .broadcast
    | _ => s.setRx .idle
  | _ => s

/-- An abort symbol, and the silence limit, end an open frame (R40, R47). -/
def State.takeAbort (s : State) : State :=
  match s.link.rx with
  | .receiving f => s.breakFrame f
  | _ => s

/-- A bad symbol ends this node's frame in error and an unclassed frame without report; in another node's frame it is
ignored (R40, R47). -/
def State.takeBad (s : State) : State :=
  match s.link.rx with
  | .receiving f => if f.cls = some .foreign then s else s.breakFrame f
  | _ => s

/-- A control symbol by its payload (Table 3-1). -/
def State.takeControl (s : State) (payload : Byte) : State :=
  match payload.toNat with
  | 0x5A => s.takeOpening
  | 0xA5 => s.takeClosing
  | 0x00 => s.takeAbort
  | _ => s.takeBad

def execOpeningFlag (s : State) : Host.Outcome State Fault Refusal :=
  .next (s.live fun t => t.onLine State.takeOpening)

def execDataSymbol (b : Byte) (s : State) : Host.Outcome State Fault Refusal :=
  .next (s.live fun t => t.onLine fun u => u.takeData b)

def execClosingFlag (s : State) : Host.Outcome State Fault Refusal :=
  .next (s.live fun t => t.onLine State.takeClosing)

def execAbortSymbol (s : State) : Host.Outcome State Fault Refusal :=
  .next (s.live fun t => t.onLine State.takeAbort)

/-- BAD_SYMBOL (R40); a payload Table 3-1 defines is that symbol (log 20). -/
def execBadSymbol (payload : Byte) (s : State) : Host.Outcome State Fault Refusal :=
  .next (s.live fun t => t.onLine fun u => u.takeControl payload)

def execSymbolSilenceLimit (s : State) : Host.Outcome State Fault Refusal :=
  .next (s.live fun t => t.onLine State.takeAbort)

end Sys2Proof.Machine
end

