-- ==== Sys2Proof/Machine/Reply.lean ====
section
/-! DEFINITION. The reply window (R52 to R54), readiness (R69), the start, the bytes and the end of a reply
(R71 to R78), the commit of a broadcast (R80), and the cycle offset timer (R58). -/

namespace Sys2Proof.Machine

/-! ### Readiness (Table 4-5, R80) -/

/-- The completion queue has a free entry; a reservation counts as occupied (R69, R141). -/
def Retire.hasRoom (q : Retire) : Bool := decide (q.queue.length < Config.completionCapacity)

/-- The bytes of message `msg` staged for transmission (R134). -/
def Mover.stagedFor (m : Mover) (msg : Nat) : Nat :=
  match m.staging with
  | some t => if t.msg = msg then t.held.length else 0
  | none => 0

/-- Enough of a GET's bytes are staged (Table 4-5). -/
def Request.threshold (r : Request) : Nat := min r.length.toNat Config.readyThreshold

/-- The conditions of Table 4-5 beyond the outcome and the good close. -/
def State.readyConditions (s : State) (r : Request) : Bool :=
  match r.verdict, r.kind with
  | .acceptNew, .put => s.retire.hasRoom && !r.overflow && decide (r.fault = .none)
  | .acceptNew, .get => s.retire.hasRoom && decide (r.fault = .none) && decide (r.threshold ≤ s.mover.stagedFor r.msg)
  | .acceptDuplicate, .put => true
  | .acceptDuplicate, .get => decide (r.fault = .none) && decide (r.threshold ≤ s.mover.stagedFor r.msg)
  | .busyHold, _ => true
  | .busyOverflow, _ => true
  | .refuse _, _ => true
  | .refuseFault _, _ => true
  | .undecided, _ => false
  | .dropped _, _ => false
  | .ignored, _ => false

/-- REPLY_READY (R69): the engine declares the reply of an addressed request ready. -/
def State.declareReady (s : State) : State :=
  match s.engine with
  | some r =>
    if r.broadcast = false ∧ r.closed = true ∧ r.phase ≠ .replying ∧ s.readyConditions r = true then
      { s with engine := some { r with ready := true } }
    else s
  | none => s

/-- BROADCAST_COMMIT (R80). -/
def State.commitBroadcast (s : State) : State :=
  match s.engine with
  | some r =>
    if r.broadcast = true ∧ r.closed = true ∧ r.verdict = .acceptNew ∧ s.readyConditions r = true then
      s.commit r enterAtTail
    else s
  | none => s

/-! ### The frame of a reply (R44, R53, Table 11-2) -/

/-- The four header bytes of a reply (R44, R56). -/
def replyHeader (code : ReplyCode) (seq : Bool) (node : BitVec 6) (channel length : Byte) : List Byte :=
  [BitVec.ofBool seq ++ code.code, node.setWidth 8, channel, length]

/-- The transmitter starts a reply (R53): the opening flag, the header, and a body formed by the link interface; `left`
data bytes of a GET are still to follow. -/
def State.transmit (s : State) (o : OwedReply) (code : ReplyCode) (length : Byte) (body : List Byte) (data : Bool)
    (left : Nat) : State :=
  { s with link := { s.link with
      rx := .replying ⟨data, left, 0, false⟩
      lineOut := .control 0x5A ::
        (replyHeader code o.seq s.host.nodeAddress o.channel length ++ body).map LineSymbol.data } }

/-- The data bytes among the symbols of a reply. -/
def lineBytes : List LineSymbol → List Byte
  | [] => []
  | .data b :: xs => b :: lineBytes xs
  | .control _ :: xs => lineBytes xs

/-- The CRC bytes of the reply on the line (R42). -/
def Link.replyCrc (l : Link) : List Byte := crcBytesOf (crcOf (lineBytes l.lineOut))

/-- The transmitter puts symbols on the line. -/
def State.sendSymbols (s : State) (xs : List LineSymbol) : State :=
  { s with link := { s.link with lineOut := s.link.lineOut ++ xs } }

/-- Byte 0 of the STATUS body (R59, Table 11-3). -/
def State.statusByte (s : State) : Byte :=
  0#3 ++ BitVec.ofBool (s.status.toList.any fun x => decide (x.hold = .holdWait) || decide (x.hold = .held))
    ++ BitVec.ofBool (s.status.toList.any fun x => decide (x.hold = .faulted))
    ++ BitVec.ofBool s.writer.showsFull ++ BitVec.ofBool s.host.serviceRequest
    ++ BitVec.ofBool (decide (s.cmd.node = .stopping))

/-! ### The start of a reply (R52, R64, R71 to R74, R78, R82) -/

/-- A REFUSAL event when the context's EV_REFUSAL is set (R82). -/
def State.refusal (s : State) (r : Request) (reason : RefuseReason) : State :=
  match r.entry, reason.refusalDetail with
  | some e, some detail =>
    if (s.context e).evRefusal then
      s.raise .refusal (channelByte r.channel) detail (r.length.setWidth 16) 0
    else s
  | _, _ => s

/-- A duplicate counts (R78). -/
def State.countDuplicate (s : State) (r : Request) : State :=
  match r.entry with
  | some e => s.changeContext e Descriptor.countDuplicate
  | none => s

/-- The record address the admission fixed (R73, Table 8-5). -/
def Request.recordAddr (r : Request) : Addr :=
  match r.ranges with
  | some rg => rg.record
  | none => 0

/-- What the engine does as the reply of a ready request starts (Tables 4-3 and 4-6). -/
def State.replyStarts (s : State) (r : Request) : State :=
  match r.verdict, r.kind with
  | .acceptNew, .put => s.commit r enterAtTail
  | .acceptNew, .get =>
    { s with
      engine := some { r with phase := .replying }
      retire := { s.retire with queue := s.retire.queue ++ [reservation r] } }
  | .acceptDuplicate, .put => (s.countDuplicate r).endRequest r
  | .acceptDuplicate, .get => { s with engine := some { r with phase := .replying } }
  | .busyOverflow, _ => (s.countError r .stagingOverflow 0).endRequest r
  | .refuse .guard, _ => (s.countError r .guard 0).endRequest r
  | .refuse reason, _ => (s.refusal r reason).endRequest r
  | .refuseFault .storeFault, _ => (s.requestError r .storeFault r.recordAddr).endRequest r
  | .refuseFault .fetchFault, _ => (s.requestError r .fetchFault 0).endRequest r
  | _, _ => s.endRequest r

/-- Does the reply carry message data? -/
def Request.sendsData (r : Request) : Bool :=
  decide (r.kind = .get) && (decide (r.verdict = .acceptNew) || decide (r.verdict = .acceptDuplicate))

/-- The engine's reply goes on the line (R52, R53). -/
def State.startEngineReply (s : State) (o : OwedReply) (r : Request) : State :=
  (if r.sendsData then s.transmit o .accept r.length [] true r.length.toNat
    else s.transmit o r.verdict.replyCode 0 [] false 0).replyStarts r

/-- REPLY_START (R52): after the earliest start, a reply that is ready starts. -/
def State.startReply (s : State) : State :=
  match s.link.rx with
  | .replyWait o .earliest =>
    match o.source with
    | .status => s.transmit o .status 2 [s.statusByte, 0] false 0
    | .nodeReset => s.transmit o .accept 0 [] false 0
    | .stoppingBusy => s.transmit o .busy 0 [] false 0
    | .engine =>
      match s.engine with
      | some r => if r.ready = true ∧ r.phase ≠ .replying then s.startEngineReply o r else s
      | none => s
  | _ => s

/-- EARLIEST_START (R52). -/
def State.reachEarliest (s : State) : State :=
  match s.link.rx with
  | .replyWait o .closed => s.setRx (.replyWait o .earliest)
  | _ => s

/-- COMMIT_EXPIRY (R52, R70): a request that is not ready ends and BUSY starts. -/
def State.expire (s : State) : State :=
  match s.link.rx with
  | .replyWait o .earliest =>
    if o.source = .engine then
      match s.engine with
      | some r => if r.ready then s else (s.endRequest r).transmit o .busy 0 [] false 0
      | none => s.transmit o .busy 0 [] false 0
    else s
  | _ => s

/-! ### The data bytes and the end of a reply (R53, R54, R75, R76, R78, R83) -/

/-- The abort symbol goes out in place of what was due (R53). -/
def State.sendAbort (s : State) (tx : Transmission) : State :=
  (s.sendSymbols [.control 0x00]).setRx (.replying { tx with aborted := true })

/-- A staged byte goes out, and its room may let the next fetch burst go (R134, R135). -/
def State.sendByte (s : State) (tx : Transmission) (t : Staging) (b : Byte) (rest : List Byte) : State :=
  (({ s with mover := { s.mover with staging := some { t with held := rest } } }).sendSymbols [.data b]).setRx
    (.replying { tx with left := tx.left - 1, sent := tx.sent + 1 }) |>.presentFetch

/-- A data byte falls due (R53, R76, R83, R135). -/
def State.byteDue (s : State) (tx : Transmission) (r : Request) : State :=
  if r.lost then (s.abandonLost r).sendAbort tx
  else if r.fault = .fetchFault then (s.abortGet r .fetchFault tx.sent).sendAbort tx
  else match s.mover.staging with
    | some t =>
      match t.held with
      | b :: rest => if t.msg = r.msg then s.sendByte tx t b rest else (s.abortGet r .underrun tx.sent).sendAbort tx
      | [] => (s.abortGet r .underrun tx.sent).sendAbort tx
    | none => (s.abortGet r .underrun tx.sent).sendAbort tx

/-- TRANSMIT_BYTE_DUE (R53). -/
def State.transmitDue (s : State) : State :=
  match s.link.rx with
  | .replying tx =>
    if tx.data = true ∧ tx.aborted = false ∧ tx.left ≠ 0 then
      match s.engine with
      | some r => s.byteDue tx r
      | none => s
    else s
  | _ => s

/-- The CRC and the closing flag go out, and the receiver enters RECOVERY (R41, R54). -/
def State.closeReply (s : State) : State :=
  (s.sendSymbols (s.link.replyCrc.map LineSymbol.data ++ [.control 0xA5])).setRx .recovery

/-- A reply whose data has gone out but whose context is lost ends with the abort symbol in place of a CRC byte or the
closing flag (R83; log 12). -/
def State.abortClose (s : State) (r : Request) : State :=
  let s1 := s.sendSymbols
    ((s.link.replyCrc.take (Config.crcBytesOut s.free).val).map LineSymbol.data ++ [.control 0x00])
  (({ s1 with free := s1.free + 1 }).abandonLost r).setRx .recovery

/-- The closing flag of a GET's ACCEPT (R75, R78). -/
def State.completeGet (s : State) (r : Request) : State :=
  let s1 := match r.verdict with
    | .acceptNew => s.commit r fillReservation
    | _ => (s.countDuplicate r).leaveRequest r
  s1.abandonFetch r.msg

/-- REPLY_END (R54). -/
def State.endReply (s : State) : State :=
  match s.link.rx with
  | .replying tx =>
    if tx.aborted then s.setRx .recovery
    else if tx.data = false then s.closeReply
    else if tx.left ≠ 0 then s
    else match s.engine with
      | some r => if r.lost then s.abortClose r else (s.closeReply).completeGet r
      | none => s.closeReply
  | _ => s

/-- RECOVERY_END (R54). -/
def State.endRecovery (s : State) : State :=
  match s.link.rx with
  | .recovery => s.setRx .idle
  | _ => s

/-- CYCLE_OFFSET_TICK (R58). -/
def State.tickOffset (s : State) : State :=
  if s.cmd.node = .halted then s else { s with link := { s.link with offset := saturate s.link.offset 1 } }

def execReplyReady (s : State) : Host.Outcome State Fault Refusal := .next (s.live State.declareReady)

def execEarliestStart (s : State) : Host.Outcome State Fault Refusal := .next (s.live State.reachEarliest)

def execReplyStart (s : State) : Host.Outcome State Fault Refusal := .next (s.live State.startReply)

def execCommitExpiry (s : State) : Host.Outcome State Fault Refusal := .next (s.live State.expire)

def execTransmitByteDue (s : State) : Host.Outcome State Fault Refusal := .next (s.live State.transmitDue)

def execReplyEnd (s : State) : Host.Outcome State Fault Refusal := .next (s.live State.endReply)

def execRecoveryEnd (s : State) : Host.Outcome State Fault Refusal := .next (s.live State.endRecovery)

def execBroadcastCommit (s : State) : Host.Outcome State Fault Refusal := .next (s.live State.commitBroadcast)

def execCycleOffsetTick (s : State) : Host.Outcome State Fault Refusal := .next (s.live State.tickOffset)

end Sys2Proof.Machine
end

