-- ==== Sys2Proof/Machine/Bursts.lean ====
section
/-! DEFINITION. Fills that take an entry (R90), the grant of the master port (R125), and the ends of the bursts of the
cache, the retire unit's write-through and the data mover (chapters 5 and 7). The end of a burst that is not in flight
does not come about (log 8). -/

namespace Sys2Proof.Machine

/-! ### Fills and grants (R89, R90, R125) -/

/-- A fill of `n` takes entry `e` (R90): from INVALID or CLEAN it fills at once, a DIRTY victim is cast out first. -/
def State.fillTakes (s : State) (n : Channel) (e : EntryIx) : State :=
  let c := s.cache.withdrawFill n
  if (s.cache.entry e).state = .dirty then ({ s with cache := c.beginEvict e (some n) }).cacheDue (.eviction e)
  else (({ s with cache := c.beginFill e n }).setWork (s.cmd.work.entryTaken e)).cacheDue (.linefill e)

/-- FILL_TAKES_ENTRY (R89, R90): the first pending fill that can take an entry takes one. -/
def State.takeFill (s : State) : State :=
  match s.cache.nextFill, s.fillTarget with
  | some n, some e => s.fillTakes n e
  | _, _ => s

/-- The burst the store client's request is granted as: its words are fixed now (R130). -/
def State.storeBurst (s : State) (msg : Nat) : Option Burst := (s.mover.segment msg).map Segment.burst

/-- BURST_GRANT: with no burst in flight, the waiting request of highest priority is granted (R125, Table 7-2). -/
def State.grant (s : State) : State :=
  match s.port.inFlight with
  | some _ => s
  | none =>
    match s.port.fetch, s.port.cache, s.port.store, s.port.retire, s.port.writer with
    | some b, _, _, _, _ => { s with port := { s.port with fetch := none, inFlight := some b } }
    | none, some b, _, _, _ => { s with port := { s.port with cache := none, inFlight := some b } }
    | none, none, some msg, _, _ => { s with port := { s.port with store := none, inFlight := s.storeBurst msg } }
    | none, none, none, some b, _ => { s with port := { s.port with retire := none, inFlight := some b } }
    | none, none, none, none, some b => { s with port := { s.port with writer := none, inFlight := some b } }
    | none, none, none, none, none => s

/-! ### The end of a linefill (R92) -/

/-- An entry takes the descriptor its linefill read and becomes CLEAN, and is touched (R92). -/
def Cache.fillValid (c : Cache) (e : EntryIx) (d : Descriptor) : Cache :=
  (c.modify e fun x => { x with context := d, state := .clean }).touch e

/-- A lookup that waited for channel `n` is answered with the context (R92). -/
def State.lookupAnswered (s : State) (n : Channel) (e : EntryIx) : State :=
  match s.engine with
  | some r => if r.channel = n ∧ r.phase = .lookup then s.admitRequest r e else s
  | none => s

/-- A linefill that ends in a fault of channel `n` leaves its entry INVALID (R92). -/
def State.fillFaults (s : State) (e : EntryIx) (n : Channel) (reason : FaultReason) (subCode : BitVec 4) : State :=
  ({ s with cache := s.cache.invalidate e }).reportFault n reason subCode

/-- The descriptor a completed linefill of entry `e` read is checked and taken (R92, R15). -/
def State.fillReads (s : State) (e : EntryIx) (n : Channel) (d : Descriptor) : State :=
  if d.subCode = 0 then ({ s with cache := s.cache.fillValid e d }).lookupAnswered n e
  else s.fillFaults e n .badDescriptor d.subCode

/-- What the end of the linefill `b` of entry `e` does. -/
def State.linefillEnds (s : State) (e : EntryIx) (b : Burst) (result : ReadEnd) : State :=
  let s1 := s.landed.presentCache
  match result with
  | .busError => s1.fillFaults e (s.cache.entry e).tag .linefillFault 0
  | .completion ws =>
    let m := Memory.hostWrites s.mem ws
    ({ s1 with mem := m }).fillReads e (s.cache.entry e).tag (Descriptor.readFrom m b.addr)

/-- LINEFILL_END (R92). -/
def State.endLinefill (s : State) (result : ReadEnd) : State :=
  match s.port.inFlight with
  | some b =>
    match b.kind with
    | .cache (.linefill e) => if (s.cache.entry e).state = .filling then s.linefillEnds e b result else s
    | _ => s
  | none => s

/-! ### The ends of castouts and write-throughs (R91, R95, R98, R104) -/

/-- The entry of an eviction castout goes on to the tag of the fill that chose it (R91). -/
def State.evictionGoesOn (s : State) (e : EntryIx) (n : Channel) : State :=
  (({ s with cache := s.cache.modify e fun x => { x with tag := n, state := .filling, next := none } }).setWork
    (s.cmd.work.entryTaken e)).cacheDue (.linefill e)

/-- What the end of the eviction castout `b` of entry `e`, chosen by the fill of `n`, does (R91). -/
def State.evictionEnds (s : State) (e : EntryIx) (n : Channel) (b : Burst) (result : WriteEnd) : State :=
  let s1 := s.landed.burstWrites b result
  let s2 := match result with
    | .completion => s1
    | .busError => s1.castoutFaults e (s.cache.entry e).tag
  (s2.evictionGoesOn e n).retryDescriptor

/-- EVICTION_CASTOUT_END (R91). -/
def State.endEviction (s : State) (result : WriteEnd) : State :=
  match s.port.inFlight with
  | some b =>
    match b.kind with
    | .cache (.eviction e) =>
      match (s.cache.entry e).state, (s.cache.entry e).next with
      | .evicting, some n => s.evictionEnds e n b result
      | _, _ => s
    | _ => s
  | none => s

/-- What the end of the invalidation castout `b` of entry `e` does (R104, R98). -/
def State.invalidationEnds (s : State) (e : EntryIx) (b : Burst) (result : WriteEnd) : State :=
  let s1 := (s.landed.burstWrites b result).presentCache
  let s2 := match result with
    | .completion => { s1 with cache := s1.cache.invalidate e }
    | .busError => s1.entryFaults e
  (s2.setWork (s2.cmd.work.castEnds e)).retryDescriptor

/-- INVALIDATION_CASTOUT_END (R104). -/
def State.endInvalidation (s : State) (result : WriteEnd) : State :=
  match s.port.inFlight with
  | some b =>
    match b.kind with
    | .cache (.invalidation e) => if (s.cache.entry e).state = .evicting then s.invalidationEnds e b result else s
    | _ => s
  | none => s

/-- What the end of the write `b` that began in WRITING does to entry `e` (R95, R98). -/
def State.writeEnds (s : State) (e : EntryIx) (b : Burst) (result : WriteEnd) : State :=
  let s1 := s.landed.burstWrites b result
  let s2 := match result with
    | .completion => { s1 with cache := s1.cache.writeCompletes e }
    | .busError => s1.entryFaults e
  s2.setWork (s2.cmd.work.castEnds e)

/-- WRITE_END (R95): a FLUSH castout lets a waiting descriptor step look again (R97); the retire unit's own write-through
lets it release its entry (R144, R145). -/
def State.endWrite (s : State) (result : WriteEnd) : State :=
  match s.port.inFlight with
  | some b =>
    match b.kind with
    | .cache (.flushCastout e) =>
      if (s.cache.entry e).state.isWriting then ((s.writeEnds e b result).presentCache).retryDescriptor else s
    | .writeThrough e => if (s.cache.entry e).state.isWriting then (s.writeEnds e b result).releaseHead else s
    | _ => s
  | none => s

/-! ### The end of a store burst (R130, R131, R133) -/

/-- The bytes of a store burst that completed leave the segment (R130). -/
def Segment.stored (x : Segment) (bytes : Nat) : Segment :=
  { x with held := x.held.drop bytes, next := x.next + BitVec.ofNat 32 bytes }

/-- A store fault: no byte is left to store (R133). -/
def Segment.faults (x : Segment) : Segment := { x with state := .discarding, held := [], fault := true }

/-- Every byte of the message has left by a store (R131). -/
def Segment.storesEnded (x : Segment) : Bool := decide (x.state = .storing) && x.held.isEmpty && decide (x.due = 0)

/-- The data mover reports the end of a message's stores to the retire unit when they have ended (R131, R142). -/
def State.reportIfEnded (s : State) (msg : Nat) : State :=
  match s.mover.segment msg with
  | some x => if x.storesEnded then s.reportStoresEnd msg false else s
  | none => s

/-- A store fault reaches the request in progress (R73, R81): it turns an ACCEPT that has not been declared ready. -/
def State.storeFaultMarks (s : State) (msg : Nat) : State :=
  match s.engine with
  | some r =>
    if r.msg = msg then
      let r1 := { r with fault := .storeFault }
      if r.verdict = .acceptNew ∧ r.ready = false then
        s.conclude r1 (if r.broadcast then .dropped true else .refuseFault .storeFault)
      else { s with engine := some r1 }
    else s
  | none => s

/-- What the end of the store burst `b` of message `msg` does. -/
def State.storeEnds (s : State) (msg bytes : Nat) (b : Burst) (result : WriteEnd) : State :=
  let s1 := s.landed.burstWrites b result
  let s2 := match result with
    | .completion => ({ s1 with mover := s1.mover.modify msg fun x => x.stored bytes }).reportIfEnded msg
    | .busError => (({ s1 with mover := s1.mover.modify msg Segment.faults }).reportStoresEnd msg true).storeFaultMarks msg
  s2.sweepSegments.presentStore

/-- STORE_BURST_END (R130, R133). -/
def State.endStore (s : State) (result : WriteEnd) : State :=
  match s.port.inFlight with
  | some b =>
    match b.kind with
    | .store msg bytes => s.storeEnds msg bytes b result
    | _ => s
  | none => s

/-! ### The end of a fetch burst (R134, R136) -/

/-- The bytes of a fetch burst join the buffer (R134). -/
def Staging.fetched (t : Staging) (b : Burst) (bytes : List Byte) : Staging :=
  { t with held := t.held ++ bytes, left := t.left - bytes.length, next := t.next + BitVec.ofNat 32 (4 * b.words) }

/-- A fetch fault: every byte held is discarded and nothing more is fetched (R136). -/
def Staging.faults (t : Staging) : Staging := { t with held := [], left := 0 }

/-- Change the transmit staging buffer if it serves message `msg`; a message abandoned meanwhile has its data discarded
(R135). -/
def State.modifyStaging (s : State) (msg : Nat) (f : Staging → Staging) : State :=
  match s.mover.staging with
  | some t => if t.msg = msg then { s with mover := { s.mover with staging := some (f t) } } else s
  | none => s

/-- A fetch fault reaches the request in progress (R74): it turns an ACCEPT that has not been declared ready. -/
def State.fetchFaultMarks (s : State) (msg : Nat) : State :=
  match s.engine with
  | some r =>
    if r.msg = msg then
      let r1 := { r with fault := .fetchFault }
      if (r.verdict = .acceptNew ∨ r.verdict = .acceptDuplicate) ∧ r.ready = false then
        s.conclude r1 (.refuseFault .fetchFault)
      else { s with engine := some r1 }
    else s
  | none => s

/-- Does the transmit staging buffer still serve message `msg`? -/
def Mover.serves (m : Mover) (msg : Nat) : Bool :=
  match m.staging with
  | some t => decide (t.msg = msg)
  | none => false

/-- What the end of the fetch burst `b` of message `msg` does. -/
def State.fetchEnds (s : State) (msg bytes : Nat) (b : Burst) (result : ReadEnd) : State :=
  let s1 := s.landed
  let s2 := match result with
    | .completion ws =>
      let m := Memory.hostWrites s.mem ws
      ({ s1 with mem := m }).modifyStaging msg fun t => t.fetched b (Memory.readBytes m b.addr bytes)
    | .busError => if s.mover.serves msg then (s1.modifyStaging msg Staging.faults).fetchFaultMarks msg else s1
  s2.presentFetch

/-- FETCH_BURST_END (R134, R136). -/
def State.endFetch (s : State) (result : ReadEnd) : State :=
  match s.port.inFlight with
  | some b =>
    match b.kind with
    | .fetch msg bytes => s.fetchEnds msg bytes b result
    | _ => s
  | none => s

def execFillTakesEntry (s : State) : Host.Outcome State Fault Refusal := .next (s.live State.takeFill)

def execBurstGrant (s : State) : Host.Outcome State Fault Refusal := .next (s.live State.grant)

def execLinefillEnd (result : ReadEnd) (s : State) : Host.Outcome State Fault Refusal :=
  .next (s.live fun t => t.endLinefill result)

def execEvictionCastoutEnd (result : WriteEnd) (s : State) : Host.Outcome State Fault Refusal :=
  .next (s.live fun t => t.endEviction result)

def execInvalidationCastoutEnd (result : WriteEnd) (s : State) : Host.Outcome State Fault Refusal :=
  .next (s.live fun t => t.endInvalidation result)

def execWriteEnd (result : WriteEnd) (s : State) : Host.Outcome State Fault Refusal :=
  .next (s.live fun t => t.endWrite result)

def execStoreBurstEnd (result : WriteEnd) (s : State) : Host.Outcome State Fault Refusal :=
  .next (s.live fun t => t.endStore result)

def execFetchBurstEnd (result : ReadEnd) (s : State) : Host.Outcome State Fault Refusal :=
  .next (s.live fun t => t.endFetch result)

end Sys2Proof.Machine
end

