-- ==== Sys2Proof/Machine/Retiring.lean ====
section
/-! DEFINITION. The retire unit's record step (R143) and the event writer's entry writes (R149, R150, R153). -/

namespace Sys2Proof.Machine

/-- A one-word burst of a record (R19). -/
def recordBurst (a : Addr) (w : Word) : Burst := ⟨.recordWord, a, 1, [WriteWord.full w]⟩

/-- The retire unit presents a word of the head's record, and stands at `step` (R143). -/
def State.presentRecord (s : State) (step : RetireStep) (a : Addr) (w : Word) : State :=
  { s with
    retire := { s.retire with step := step }
    port := { s.port with retire := some (recordBurst a w) } }

/-- RETIRE_RECORD_STEP (R143): a filled head whose stores have ended presents word 1 of its record. -/
def State.beginRecord (s : State) : State :=
  match s.retire.queue with
  | c :: _ =>
    if s.retire.step = .stores ∧ c.filled = true ∧ c.storesPending = false then
      s.presentRecord .word1 (c.record + 4) c.fields.word1
    else s
  | [] => s

/-- A record word that ended in bus error adds one MESSAGE_ERROR(RECORD_FAULT) when the error enable is set (R143). -/
def Completion.recordWordEnds (c : Completion) (result : WriteEnd) : Completion :=
  if result = .busError ∧ c.errorEnable = true ∧ c.recordFault = false then
    { c with recordFault := true, events := c.events ++ [c.errorEvent .recordFault] }
  else c

/-- What the end of a record word burst does (R143). -/
def State.recordWordEnds (s : State) (b : Burst) (result : WriteEnd) : State :=
  let s1 := s.landed.burstWrites b result
  match s.retire.queue with
  | c :: rest =>
    let c1 := c.recordWordEnds result
    let s2 := { s1 with retire := { s1.retire with queue := c1 :: rest } }
    if s.retire.step = .word1 then s2.presentRecord .word0 c1.record (c1.fields.word0 c1.storeFault)
    else s2.descriptorStep
  | [] => s1

/-- RECORD_WORD_END (R143). -/
def State.endRecordWord (s : State) (result : WriteEnd) : State :=
  match s.port.inFlight with
  | some b => if b.kind = .recordWord then s.recordWordEnds b result else s
  | none => s

/-! ### Entry writes (R150, R152, R153) -/

/-- The writer after an entry write that completed (R150, R152). -/
def Writer.entryWritten (w : Writer) : Writer :=
  { w with
    producer := w.nextProducer
    serial := w.serial + 1
    writing := none
    queue := match w.writing with
      | some .event => w.queue.tail
      | _ => w.queue
    dropped := match w.writing with
      | some (.gap n) => w.dropped - n
      | _ => w.dropped }

/-- The writer halts: every event of the queue, the failed one included, counts as dropped (R153). -/
def Writer.halt (w : Writer) : Writer :=
  { w with active := false, queue := [], dropped := saturate w.dropped w.queue.length, writing := none }

/-- What the end of an entry write does (R150, R153). -/
def State.entryEnds (s : State) (b : Burst) (result : WriteEnd) : State :=
  let s1 := s.landed.burstWrites b result
  match result with
  | .completion => (({ s1 with writer := s1.writer.entryWritten }).setInt intEventWritten).writerLook
  | .busError => ({ s1 with writer := s1.writer.halt }).setInt intWriterHalted

/-- EVENT_ENTRY_WRITE_END (R150, R153). -/
def State.endEntry (s : State) (result : WriteEnd) : State :=
  match s.port.inFlight with
  | some b => if b.kind = .event then s.entryEnds b result else s
  | none => s

def execRetireRecordStep (s : State) : Host.Outcome State Fault Refusal := .next (s.live State.beginRecord)

def execRecordWordEnd (result : WriteEnd) (s : State) : Host.Outcome State Fault Refusal :=
  .next (s.live fun t => t.endRecordWord result)

/-- EVENT_ENTRY_WRITE (R149): the writer looks at the head of its queue (log 22). -/
def execEventEntryWrite (s : State) : Host.Outcome State Fault Refusal := .next (s.live State.writerLook)

def execEventEntryWriteEnd (result : WriteEnd) (s : State) : Host.Outcome State Fault Refusal :=
  .next (s.live fun t => t.endEntry result)

end Sys2Proof.Machine
end

