-- ==== Sys2Proof/Machine/LongCommands.lean ====
section
/-! DEFINITION. The steps of the commands that keep the command unit busy: HOLD (R111, R112), FLUSH (R102), PURGE
(R103) and STOP (R105, R156, R168, R169). -/

namespace Sys2Proof.Machine

/-! ### HOLD -/

/-- A state in which an entry has a burst of its own to wait for (R102, R103, R111). -/
def EntryState.inFlight : EntryState → Bool
  | .filling | .writing | .writingDirty | .evicting => true
  | _ => false

/-- The channel is the subject of the request in progress (R62, R103). -/
def State.serves (s : State) (n : Channel) : Bool :=
  match s.engine with
  | some r => decide (r.channel = n)
  | none => false

/-- The channel is the subject of the request in progress, of one whose header did not come in the HOLD_WAIT that stands
(R62, R111; log 27). -/
def State.holdWaitsFor (s : State) (n : Channel) : Bool :=
  match s.engine with
  | some r => decide (r.channel = n) && !r.byHold
  | none => false

/-- A completion-queue entry names the channel (R103, R111). -/
def Retire.names (q : Retire) (n : Channel) : Bool := q.queue.any fun c => decide (c.channel = n)

/-- The conditions of R111 that do not look at the channel's entry. -/
def State.channelIdle (s : State) (n : Channel) : Bool :=
  !s.holdWaitsFor n && !s.retire.names n && !s.cache.fillPending n

/-- HOLD of channel `n` ends: HELD and DONE, or FAULTED and FAULT when a fault was recorded (R112). -/
def State.finishHold (s : State) (n : Channel) : State :=
  if (s.record n).reason = .none then (s.setRecord n ChannelRecord.becomeHeld).endCommand .done
  else (s.setRecord n fun x => { x with hold := .faulted, returned := false, seqValid := false }).endCommand .fault

/-- HOLD acts on channel `n`'s entry once the conditions of R111 hold (R112; log 23). -/
def State.actHold (s : State) (n : Channel) : State :=
  if s.channelIdle n = false then s
  else match s.cache.find n with
    | none => s.finishHold n
    | some e =>
      match (s.cache.entry e).state with
      | .dirty => s.beginInvalidation e
      | .clean => ({ s with cache := s.cache.invalidate e }).finishHold n
      | _ => s

/-- HOLD_END (R112). -/
def State.holdStep (s : State) : State :=
  match s.cmd.work with
  | .hold n => s.actHold n
  | _ => s

/-! ### FLUSH and PURGE -/

/-- What FLUSH does with the member at the head of its list (R102). -/
inductive MemberStep where
  | wait
  | done
  | cast (e : EntryIx)
  | invalidate (e : EntryIx)
deriving DecidableEq, Repr

/-- FLUSH's two steps on a member (R102): wait for its writes to end, then cast it out if it is still DIRTY under its
tag. -/
def State.flushStepOf (s : State) (e : EntryIx) (n : Channel) (phase : CastPhase) : MemberStep :=
  match phase with
  | .casting => .wait
  | .cast => .done
  | .waiting =>
    match (s.cache.entry e).state with
    | .writing | .writingDirty | .evicting => .wait
    | .dirty => if (s.cache.entry e).tag = n then .cast e else .done
    | _ => .done

/-- PURGE's step on the entry at the head of its second set `k` (R103): one that has left its tag, or that a fill has
taken since, is no member any more. -/
def State.purgeStepOf (s : State) (k : CastJob) (e : EntryIx) (n : Channel) : MemberStep :=
  match k.phase with
  | .casting => .wait
  | .cast => .done
  | .waiting =>
    if s.serves n = true ∨ s.retire.names n = true then .wait
    else if (s.cache.entry e).tag ≠ n ∨ (e, n) ∉ k.members then .done
    else match (s.cache.entry e).state with
      | .invalid => .done
      | .clean => .invalidate e
      | .dirty => .cast e
      | _ => .wait

/-- The job goes on to its next member. -/
def CastJob.next (j : CastJob) : CastJob := { j with todo := j.todo.tail, phase := .waiting }

/-- The job waits for the castout of its head. -/
def CastJob.casting (j : CastJob) : CastJob := { j with phase := .casting }

/-- A step of FLUSH's work on the job `j`; `put` stores what is left of it (R102). -/
def State.flushJob (s : State) (j : CastJob) (put : State → CastJob → State) : State :=
  match j.todo with
  | [] => s
  | (e, n) :: _ =>
    match s.flushStepOf e n j.phase with
    | .wait => s
    | .done => put s j.next
    | .cast e => put (s.beginFlushCastout e) j.casting
    | .invalidate _ => s

/-- FLUSH_MEMBER (R102): a step of FLUSH, or of the first set of PURGE (R103). -/
def State.flushStep (s : State) : State :=
  match s.cmd.work with
  | .flush j f => s.flushJob j fun t j1 => t.flushWith j1 f
  | .purge j k f => s.flushJob j fun t j1 => t.purgeWith j1 k f
  | _ => s

/-- A step of PURGE on the member at the head of its second set (R103). -/
def State.purgeJob (s : State) (j k : CastJob) (f : Bool) : State :=
  match k.todo with
  | [] => s
  | (e, n) :: _ =>
    match s.purgeStepOf k e n with
    | .wait => s
    | .done => s.purgeWith j k.next f
    | .cast e => (s.beginInvalidation e).purgeWith j k.casting f
    | .invalidate e => ({ s with cache := s.cache.invalidate e }).purgeWith j k.next f

/-- PURGE_MEMBER (R103): the second set, once the first is dealt with. -/
def State.purgeStep (s : State) : State :=
  match s.cmd.work with
  | .purge j k f => if j.todo = [] then s.purgeJob j k f else s
  | _ => s

/-! ### STOP -/

/-- STOP goes on to a step, keeping whether a fault report was taken (R168, R169). -/
def State.stopAt (s : State) (step : StopStep) (faulted : Bool) : State := s.setWork (.stop step faulted)

/-- STOP_DRAIN_COMPLETIONS (R168, steps 1 and 2): with the engine IDLE the retire unit drains its queue (R156). -/
def State.stopDrain (s : State) : State :=
  match s.cmd.work with
  | .stop .request f =>
    if s.engine = none then s.stopAt (if s.retire.queue = [] then .cache else .completions) f else s
  | .stop .completions f => if s.retire.queue = [] then s.stopAt .cache f else s
  | _ => s

/-- No fill is pending or in flight, and no write or castout is in flight (R105, step 1). -/
def State.cacheQuiet (s : State) : Bool :=
  s.cache.fills.isEmpty && s.cache.due.isEmpty && s.port.cache.isNone && !s.port.flies .cache
    && entryOrder.all fun e => !(s.cache.entry e).state.inFlight

/-- The first DIRTY entry in ascending order. -/
def Cache.firstDirty (c : Cache) : Option EntryIx :=
  entryOrder.find? fun e => decide ((c.entry e).state = .dirty)

/-- The CLEAN entries below `limit`, in ascending order, become INVALID (R105, step 2). -/
def Cache.invalidateClean (c : Cache) (limit : Nat) : Cache :=
  entryOrder.foldl
    (fun c e => if e.val < limit ∧ (c.entry e).state = .clean then c.invalidate e else c) c

/-- STOP_CACHE_STEP (R105): CLEAN entries become INVALID in ascending order up to the first DIRTY one, which is cast
out; with no DIRTY entry left the step ends. -/
def State.stopCache (s : State) : State :=
  match s.cmd.work with
  | .stop .cache f =>
    if s.cacheQuiet = false then s
    else match s.cache.firstDirty with
      | some e => ({ s with cache := s.cache.invalidateClean e.val }).beginInvalidation e
      | none => ({ s with cache := s.cache.invalidateClean 16 }).stopAt .events f
  | _ => s

/-- No event is pending and no entry write is in flight (R168, step 4). -/
def Writer.quiet (w : Writer) : Bool := w.queue.isEmpty && w.writing.isNone

/-- STOP_EVENT_STEP (R156): the writer looks at the head of its queue, and the step ends when none is left. -/
def State.stopEvents (s : State) : State :=
  match s.cmd.work with
  | .stop .events f =>
    let s1 := s.writerLook
    if s1.writer.quiet then s1.stopAt .halting f else s1
  | .stop .halting _ => s.writerLook
  | _ => s

/-- The master port has no burst in flight and no request waiting (R169). -/
def Port.quiet (p : Port) : Bool :=
  p.fetch.isNone && p.cache.isNone && p.store.isNone && p.retire.isNone && p.writer.isNone && p.inFlight.isNone

/-- The receiver is in IDLE, RECEIVING or RECOVERY (R169). -/
def Receiver.mayHalt : Receiver → Bool
  | .idle | .receiving _ | .recovery => true
  | _ => false

/-- STOP_END (R169): the node enters HALTED. -/
def State.stopFinish (s : State) : State :=
  match s.cmd.work with
  | .stop .halting f =>
    if s.writer.quiet && s.port.quiet && s.link.rx.mayHalt then
      ({ s with cmd := { s.cmd with node := .halted }, link := { s.link with rx := .idle } }).endCommand (resultOf f)
    else s
  | _ => s

def execHoldEnd (s : State) : Host.Outcome State Fault Refusal := .next (s.live State.holdStep)

def execFlushMember (s : State) : Host.Outcome State Fault Refusal := .next (s.live State.flushStep)

def execPurgeMember (s : State) : Host.Outcome State Fault Refusal := .next (s.live State.purgeStep)

def execStopDrainCompletions (s : State) : Host.Outcome State Fault Refusal := .next (s.live State.stopDrain)

def execStopCacheStep (s : State) : Host.Outcome State Fault Refusal := .next (s.live State.stopCache)

def execStopEventStep (s : State) : Host.Outcome State Fault Refusal := .next (s.live State.stopEvents)

def execStopEnd (s : State) : Host.Outcome State Fault Refusal := .next (s.live State.stopFinish)

end Sys2Proof.Machine
end

