-- ==== Sys2Proof/Machine/Dispatch.lean ====
section
/-! DEFINITION. The meaning of each command, one arm per row of the table. -/

namespace Sys2Proof.Machine

/-- The effect of a command on everything but the queue. -/
def exec (i : Instr) (s : State) : Host.Outcome State Fault Refusal :=
  match i with
  | .resetAssert => Sys2Proof.Machine.execResetAssert s
  | .resetRelease => Sys2Proof.Machine.execResetRelease s
  | .softReset value => Sys2Proof.Machine.execSoftReset value s
  | .start operand => Sys2Proof.Machine.execStart operand s
  | .stop operand => Sys2Proof.Machine.execStop operand s
  | .hold operand => Sys2Proof.Machine.execHold operand s
  | .release operand => Sys2Proof.Machine.execRelease operand s
  | .returnBuffer operand => Sys2Proof.Machine.execReturn operand s
  | .pin operand => Sys2Proof.Machine.execPin operand s
  | .unpin operand => Sys2Proof.Machine.execUnpin operand s
  | .flush operand => Sys2Proof.Machine.execFlush operand s
  | .purge operand => Sys2Proof.Machine.execPurge operand s
  | .resumeEvents operand => Sys2Proof.Machine.execResumeEvents operand s
  | .badCommand code operand => Sys2Proof.Machine.execBadCommand code operand s
  | .intPendingWrite value => Sys2Proof.Machine.execIntPendingWrite value s
  | .intMaskWrite value => Sys2Proof.Machine.execIntMaskWrite value s
  | .stickyStatusWrite value => Sys2Proof.Machine.execStickyStatusWrite value s
  | .configWrite reg value => Sys2Proof.Machine.execConfigWrite reg value s
  | .eqBaseWrite value => Sys2Proof.Machine.execEqBaseWrite value s
  | .eqSizeWrite value => Sys2Proof.Machine.execEqSizeWrite value s
  | .globalEnablesWrite value => Sys2Proof.Machine.execGlobalEnablesWrite value s
  | .eqConsumerWrite value => Sys2Proof.Machine.execEqConsumerWrite value s
  | .linkErrorsWrite value => Sys2Proof.Machine.execLinkErrorsWrite value s
  | .channelSelectWrite value => Sys2Proof.Machine.execChannelSelectWrite value s
  | .registerWrite offset enables value => Sys2Proof.Machine.execRegisterWrite offset enables value s
  | .openingFlag => Sys2Proof.Machine.execOpeningFlag s
  | .dataSymbol byte => Sys2Proof.Machine.execDataSymbol byte s
  | .closingFlag => Sys2Proof.Machine.execClosingFlag s
  | .abortSymbol => Sys2Proof.Machine.execAbortSymbol s
  | .badSymbol payload => Sys2Proof.Machine.execBadSymbol payload s
  | .symbolSilenceLimit => Sys2Proof.Machine.execSymbolSilenceLimit s
  | .replyReady => Sys2Proof.Machine.execReplyReady s
  | .earliestStart => Sys2Proof.Machine.execEarliestStart s
  | .replyStart => Sys2Proof.Machine.execReplyStart s
  | .commitExpiry => Sys2Proof.Machine.execCommitExpiry s
  | .transmitByteDue => Sys2Proof.Machine.execTransmitByteDue s
  | .replyEnd => Sys2Proof.Machine.execReplyEnd s
  | .recoveryEnd => Sys2Proof.Machine.execRecoveryEnd s
  | .broadcastCommit => Sys2Proof.Machine.execBroadcastCommit s
  | .cycleOffsetTick => Sys2Proof.Machine.execCycleOffsetTick s
  | .fillTakesEntry => Sys2Proof.Machine.execFillTakesEntry s
  | .burstGrant => Sys2Proof.Machine.execBurstGrant s
  | .linefillEnd result => Sys2Proof.Machine.execLinefillEnd result s
  | .evictionCastoutEnd result => Sys2Proof.Machine.execEvictionCastoutEnd result s
  | .invalidationCastoutEnd result => Sys2Proof.Machine.execInvalidationCastoutEnd result s
  | .writeEnd result => Sys2Proof.Machine.execWriteEnd result s
  | .storeBurstEnd result => Sys2Proof.Machine.execStoreBurstEnd result s
  | .fetchBurstEnd result => Sys2Proof.Machine.execFetchBurstEnd result s
  | .retireRecordStep => Sys2Proof.Machine.execRetireRecordStep s
  | .recordWordEnd result => Sys2Proof.Machine.execRecordWordEnd result s
  | .eventEntryWrite => Sys2Proof.Machine.execEventEntryWrite s
  | .eventEntryWriteEnd result => Sys2Proof.Machine.execEventEntryWriteEnd result s
  | .holdEnd => Sys2Proof.Machine.execHoldEnd s
  | .flushMember => Sys2Proof.Machine.execFlushMember s
  | .purgeMember => Sys2Proof.Machine.execPurgeMember s
  | .stopDrainCompletions => Sys2Proof.Machine.execStopDrainCompletions s
  | .stopCacheStep => Sys2Proof.Machine.execStopCacheStep s
  | .stopEventStep => Sys2Proof.Machine.execStopEventStep s
  | .stopEnd => Sys2Proof.Machine.execStopEnd s

end Sys2Proof.Machine
end

