-- ==== Sys2Proof/WellFormed.lean ====
section
/-! DEFINITION. Which commands are well formed: the operand is one the row of the table is for. A command that is
not well formed still has a meaning, that of the access or symbol it spells (log 20). -/

namespace Sys2Proof

/-- The offsets of the window that take a write (Table 9-1): every register it does not mark "ignored". -/
def writableOffset (offset : Nat) : Bool :=
  offset ∈ [0x08, 0x10, 0x14, 0x18, 0x1C, 0x20, 0x24, 0x28, 0x30,
    0x40, 0x44, 0x48, 0x4C, 0x50, 0x54, 0x58, 0x5C, 0x60, 0x6C, 0x70, 0x7C, 0x80]

/-- A well-formed command: BAD_COMMAND carries a code outside 1 to 10 (R165), BAD_SYMBOL a payload Table 3-1 does
not define (R40), REGISTER_WRITE the offset of a read-only register or of none (R158). -/
def Instr.wellFormed : Instr → Bool
  | .badCommand code _ => code.toNat = 0 || 10 < code.toNat
  | .badSymbol payload => payload != 0x5A#8 && payload != 0xA5#8 && payload != 0x00#8
  | .registerWrite offset _ _ => !writableOffset (offset.toNat / 4 * 4)
  | _ => true

end Sys2Proof
end

