-- ==== Sys2Proof/Safety.lean ====
section
/-! DEFINITION. What a safe run keeps: the laws of the part that hold in every state it reaches, each stated over one
state so that a step can be shown to keep it. -/

namespace Sys2Proof

/-- The offset of a configuration register (Table 9-1). -/
def ConfigReg.offset : ConfigReg → Nat
  | .nodeAddress => 0x18
  | .tableBase => 0x20
  | .guardBase w => 0x40 + 8 * w.val
  | .guardLimit w => 0x44 + 8 * w.val
  | .guardRights => 0x60

/-- The bits a configuration register keeps of a written word (Table 11-9). -/
def ConfigReg.kept : ConfigReg → Word
  | .nodeAddress => 0x3F
  | .tableBase => 0xFFFFFFFF
  | .guardBase _ => 0xFFFFFFFC
  | .guardLimit _ => 0xFFFFFFFC
  | .guardRights => 0x7777

end Sys2Proof

namespace Sys2Proof.Machine

/-! ### Laws of one block -/

/-- Host memory is in its canonical form (log 4). -/
def State.MemoryLaw (s : State) : Prop := Memory.wf s.mem = true

/-- The ages of the 16 entries are the numbers 0 to 15, each held by one entry (R87). -/
def Cache.AgeLaw (c : Cache) : Prop :=
  (∀ e : EntryIx, (c.entry e).age < 16) ∧ ∀ e f : EntryIx, (c.entry e).age = (c.entry f).age → e = f

/-- At no time are more than 8 channels pinned (R99). -/
def State.PinLaw (s : State) : Prop := s.pinnedCount ≤ 8

/-- The pending event queue holds at most 8 events (R147); a HALTED writer holds none and writes nothing (R153); an entry
is written only with an event at the head (R149, R152); P names a slot of the ring (R148). -/
def Writer.Law (w : Writer) : Prop :=
  w.queue.length ≤ 8 ∧ (w.active = false → w.queue = [] ∧ w.writing = none) ∧ (w.writing ≠ none → w.queue ≠ []) ∧
    w.producer.toNat < w.ringSize

/-! ### Capacities (R127, R134, R141) -/

/-- A request in LOOKUP is undecided and not ready, and an accepted new message that is ready and has not yet entered
the completion queue has a free entry there (R66, R69). -/
def State.ReadyLaw (s : State) : Prop :=
  ∀ r, s.engine = some r →
    (r.phase = .lookup → r.verdict = .undecided ∧ r.ready = false) ∧
    (r.phase ≠ .replying → r.verdict = .acceptNew → r.ready = true → s.retire.queue.length < 4)

/-- The completion queue holds at most 4 entries (R141). -/
def State.CompletionLaw (s : State) : Prop := s.retire.queue.length ≤ 4 ∧ s.ReadyLaw

/-- The receive staging buffer holds at most 256 bytes (R127), in segments of different messages. -/
def State.ReceiveLaw (s : State) : Prop :=
  s.mover.occupancy ≤ 256 ∧ (s.mover.segments.map fun x => x.msg).Nodup ∧
    ∀ x ∈ s.mover.segments, x.msg < s.nextMsg

/-- A fetch burst carries at most its words, at most a block, and finds room in the buffer of the message it is for
(R122, R134). -/
def State.FetchFits (s : State) (b : Burst) : Prop :=
  match b.kind with
  | .fetch msg bytes =>
    b.words ≤ 8 ∧ bytes ≤ 4 * b.words ∧
      ∀ t, s.mover.staging = some t → t.msg = msg → t.held.length + 4 * b.words ≤ 64
  | _ => True

/-- The transmit staging buffer holds at most 64 bytes, and the one fetch burst that waits or flies fits (R134). -/
def State.TransmitLaw (s : State) : Prop :=
  (∀ t, s.mover.staging = some t → t.held.length ≤ 64) ∧
  (∀ b, s.port.fetch = some b → b.kind.client = .fetch ∧ s.FetchFits b) ∧
  (∀ b, s.port.inFlight = some b → s.FetchFits b) ∧
  (∀ b, s.port.cache = some b → b.kind.client = .cache) ∧ (∀ b, s.port.retire = some b → b.kind.client = .retire) ∧
  (∀ b, s.port.writer = some b → b.kind.client = .writer) ∧
  (s.port.fetch ≠ none → s.port.flies .fetch = false)

/-! ### The command unit and HALTED (R163, R164, R169, R170) -/

/-- STOP has passed its step 1: the engine stays IDLE (R168). -/
def Work.pastRequest : Work → Bool
  | .stop .request _ => false
  | .stop _ _ => true
  | _ => false

/-- STOP has passed its step 2: the completion queue stays empty (R168). -/
def Work.pastCompletions : Work → Bool
  | .stop .request _ | .stop .completions _ => false
  | .stop _ _ => true
  | _ => false

/-- A command in progress keeps the unit busy, and the node is STOPPING exactly while it is STOP (R163, R164). -/
def CommandUnit.Law (c : CommandUnit) : Prop :=
  (c.work ≠ .none → c.busy = true) ∧ (c.node = .halted → c.work = .none) ∧
  (c.node = .stopping → ∃ step f, c.work = .stop step f) ∧ (c.node = .running → ∀ step f, c.work ≠ .stop step f)

/-- Every entry is INVALID, no fill is pending and no burst is due (R105). -/
def Cache.Empty (c : Cache) : Prop :=
  (∀ e : EntryIx, (c.entry e).state = .invalid) ∧ c.fills = [] ∧ c.due = []

/-- What STOP's steps establish one after another and HALTED keeps (R139, R168, R169): the engine IDLE, then the
completion queue empty, then the cache empty, then the writer, the master port and the receiver at rest. -/
def State.QuietLaw (s : State) : Prop :=
  s.cmd.Law ∧
  (s.cmd.work.pastRequest = true ∨ s.cmd.node = .halted → s.engine = none) ∧
  (s.cmd.work.pastCompletions = true ∨ s.cmd.node = .halted → s.retire.queue = []) ∧
  (s.cmd.work.stopsEvents = true ∨ s.cmd.node = .halted → s.cache.Empty) ∧
  (s.cmd.node = .halted → s.writer.quiet = true ∧ s.port.quiet = true ∧ s.link.rx = .idle)

/-- A channel is in HOLD_WAIT exactly while a HOLD of it is in progress, and a command in progress keeps the unit busy
(R111, R170). -/
def State.HoldLaw (s : State) : Prop :=
  (s.cmd.work ≠ .none → s.cmd.busy = true) ∧
  ∀ n : Channel, (s.record n).hold = .holdWait ↔ s.cmd.work = .hold n

/-! ### Residency (R86, R89) -/

/-- No entry holds channel `n` (R86). -/
def Cache.Absent (c : Cache) (n : Channel) : Prop := ∀ e : EntryIx, (c.entry e).tag = n → (c.entry e).state = .invalid

/-- Each channel has at most one entry that is not INVALID; a pending fill is for a channel with no entry but one that is
being cast out; a fill that waits for its victim's castout is for a channel with no entry, and is the only one (R86,
R89). -/
def Cache.ResidencyLaw (c : Cache) : Prop :=
  (∀ e f : EntryIx, (c.entry e).state ≠ .invalid → (c.entry f).state ≠ .invalid → (c.entry e).tag = (c.entry f).tag →
    e = f) ∧
  c.fills.Nodup ∧
  (∀ n ∈ c.fills, ∀ e : EntryIx, (c.entry e).tag = n → (c.entry e).state = .invalid ∨ (c.entry e).state = .evicting) ∧
  (∀ e : EntryIx, (c.entry e).state = .evicting → ∀ n, (c.entry e).next = some n →
    c.Absent n ∧ n ∉ c.fills ∧
      ∀ f : EntryIx, (c.entry f).state = .evicting → (c.entry f).next = some n → f = e)

/-- A HELD or FAULTED channel has no entry but INVALID ones and no pending fill (R86, R114). -/
def State.OwnershipLaw (s : State) : Prop :=
  ∀ n : Channel, (s.record n).hold = .held ∨ (s.record n).hold = .faulted →
    s.cache.Absent n ∧ s.cache.fillPending n = false

/-- The part's own staging: both buffers keep their capacities (R127, R134). -/
def State.StagingLaw (s : State) : Prop := s.ReceiveLaw ∧ s.TransmitLaw

/-- The residency of channels, with the law of HALTED that a HOLD taken there rests on (R86, R110). -/
def State.ChannelLaw (s : State) : Prop := s.QuietLaw ∧ s.cache.ResidencyLaw ∧ s.OwnershipLaw

/-! ### Terms the statements use -/

/-- The state after a command that ended in the step it was taken, with nothing else changed: COMMAND, COMMAND_RESULT
and COMMAND_DONE (R164, R166). -/
def State.endedWith (s : State) (code operand : Byte) (result : CmdResult) : State :=
  { s with
    cmd := ⟨s.cmd.node, code, operand, false, result, .none⟩
    host := { s.host with intPending := s.host.intPending ||| 0x4#4 } }

/-- Address `a` lies in none of the words the burst writes (R122). -/
def Burst.Misses (b : Burst) (a : Addr) : Prop := 4 * b.data.length ≤ (a - b.addr).toNat

/-- The receiver of a node that is not HALTED has `f` open, a frame of this node whose header lacks its fourth byte. -/
def State.AtFourthByte (s : State) (f : Frame) (b0 b1 b2 : Byte) : Prop :=
  s.resetAsserted = false ∧ s.cmd.node ≠ .halted ∧ s.link.rx = .receiving f ∧ f.count = 3 ∧ f.header = [b0, b1, b2] ∧
    (f.cls = some .addressed ∨ f.cls = some .broadcast)

/-- The next data symbol completes the header of a PUT or GET that the link interface hands to an IDLE engine
(R46, R48, R63). -/
def State.HeaderReaches (s : State) (f : Frame) (b0 b1 b2 : Byte) (kind : MsgKind) : Prop :=
  s.AtFourthByte f b0 b1 b2 ∧ s.cmd.node = .running ∧ s.engine = none ∧ b2.toNat ≤ 63 ∧
    (kind = .put ∧ b0 &&& 0x7F = 1 ∨ kind = .get ∧ b0 &&& 0x7F = 2 ∧ f.cls = some .addressed)

/-- An errored frame plainly concerned a PUT or GET (R50): it is addressed, its header is complete with a CHANNEL byte
`channel` of 0 to 63 and a LENGTH byte `length`, and the channel's entry `e` answers with EV_ERROR set. -/
def State.FrameConcerns (s : State) (f : Frame) (e : EntryIx) (channel length : Byte) : Prop :=
  f.cls = some .addressed ∧
  (∃ b0 b1, f.header = [b0, b1, channel, length] ∧ (b0 &&& 0x7F = 1 ∨ b0 &&& 0x7F = 2)) ∧ channel.toNat ≤ 63 ∧
  s.cache.find (channelOf channel) = some e ∧ (s.cache.entry e).state.answers = true ∧ (s.context e).evError = true

/-- The writer `w` has the report of an error of frame `f` (R50): LINK_ERROR with DETAIL `detail` and its counter after
the increment, when enabled, and then MESSAGE_ERROR(FRAME) when the frame concerned a PUT or GET. -/
def State.FrameErrorReported (s : State) (f : Frame) (detail : Byte) (counter : Half) (w : Writer) : Prop :=
  let w1 := if s.host.linkErrorEnable then
    s.writer.take ⟨.linkError, 0xFF, detail, s.link.cycle, s.link.offset, counter, 0⟩ else s.writer
  (∀ e channel length, s.FrameConcerns f e channel length →
    w = w1.take ⟨.messageError, channel, 1, s.link.cycle, s.link.offset, length.setWidth 16, 0⟩) ∧
  ((∀ e channel length, ¬ s.FrameConcerns f e channel length) → w = w1)

/-- The request `r`, its entry now `entry`, waits in AWAIT_READY with the outcome `v`; a broadcast whose frame has closed
good has ended instead (R81, Table 4-2). -/
def State.Concluded (t : State) (r : Request) (entry : Option EntryIx) (v : Verdict) : Prop :=
  if r.broadcast = true ∧ r.closed = true then t.engine = none
  else t.engine = some { r with entry := entry, phase := .awaitReady, verdict := v }

/-- The cache client of the master port may present a burst at once: none of its bursts is due, waits or flies (R96,
R124). -/
def State.CachePortFree (s : State) : Prop :=
  s.cache.due = [] ∧ s.port.cache = none ∧ ∀ b, s.port.inFlight = some b → ∀ x, b.kind ≠ .cache x

/-- The linefill read of channel `n`'s descriptor for entry `e` (R1, R90, R92). -/
def State.linefillOf (s : State) (e : EntryIx) (n : Channel) : Burst :=
  ⟨.cache (.linefill e), s.host.tableBase + BitVec.ofNat 32 (32 * n.val), 8, []⟩

/-- The eight-word write of descriptor `d` to channel `n`'s place in the table (R1, R91, R95, R104). -/
def State.writeOf (s : State) (kind : BurstKind) (n : Channel) (d : Descriptor) : Burst :=
  ⟨kind, s.host.tableBase + BitVec.ofNat 32 (32 * n.val), 8,
    [d.w0, d.w1, d.w2, d.w3, d.w4, d.w5, d.w6, d.w7].map fun w => ⟨w, 0xF⟩⟩

/-- The burst of the context cache `x` (R1, R92, R96): a linefill's read, or the write of its entry's snapshot, each at the
descriptor of the channel that `tag` gives the entry. -/
def State.burstOf (s : State) (tag : EntryIx → Channel) (x : CacheBurst) : Burst :=
  match x with
  | .linefill g => s.linefillOf g (tag g)
  | .eviction g | .invalidation g | .flushCastout g => s.writeOf (.cache x) (tag g) (s.cache.entry g).snapshot

/-- From `s` to `t` the burst of the cache that was in flight has ended, with `due` the bursts that have become due (R96,
R124): the first of them is presented, and waits no more in the list, unless the cache has a request waiting. -/
def State.CacheTurn (s t : State) (due : List CacheBurst) (tag : EntryIx → Channel) : Prop :=
  (s.port.cache = none → t.port.cache = due.head?.map (s.burstOf tag) ∧ t.cache.due = due.tail) ∧
  (s.port.cache ≠ none → t.port.cache = s.port.cache ∧ t.cache.due = due)

/-- The fetch client's request after a look at the transmit staging buffer (R134, R122): with no request of it waiting or
in flight, bytes still to fetch and room for the burst's words in the 64 bytes, the burst from the next fetch address to
the end of its block or of the message; otherwise the request as it was. -/
def Port.fetchLook (p : Port) (staging : Option Staging) : Option Burst :=
  match staging with
  | none => p.fetch
  | some t =>
    let words := min ((32 - t.next.toNat % 32) / 4) ((t.left + 3) / 4)
    if p.fetch = none ∧ p.inFlight.map (fun b => b.kind.client) ≠ some .fetch ∧ 0 < t.left ∧
        t.held.length + 4 * words ≤ 64 then
      some ⟨.fetch t.msg (min (4 * words) t.left), t.next, words, []⟩
    else p.fetch

/-- The store client's request after a look at the segments, oldest first (R130): with no request of it waiting or in
flight, the oldest STORING segment that holds bytes is presented once it holds four bytes or the message's last byte. -/
def Port.storeLook (p : Port) (segments : List Segment) : Option Nat :=
  if p.store = none ∧ p.inFlight.map (fun b => b.kind.client) ≠ some .store then
    match segments.find? fun x => x.state = .storing ∧ x.held ≠ [] with
    | some x => if 4 ≤ x.held.length ∨ x.due = 0 then some x.msg else none
    | none => none
  else p.store

/-- CHANNEL_FAULT for a write or castout of channel `n`'s descriptor that ended in bus error (R91, R93, R104, Table 8-5). -/
def State.castoutFaultEvent (s : State) (n : Channel) : Event :=
  ⟨.channelFault, channelByte n, 2, s.link.cycle, s.link.offset, 0, s.host.tableBase + BitVec.ofNat 32 (32 * n.val)⟩

/-- The channel table after that fault (R114): a FREE channel is FAULTED with CASTOUT_FAULT, one in HOLD_WAIT keeps the
first reason reported, and no other record changes. -/
def State.CastoutFaultNoted (s t : State) (n : Channel) : Prop :=
  ((s.record n).hold = .free → t.record n = { s.record n with
    hold := .faulted, reason := .castoutFault, subCode := 0, seqValid := false }) ∧
  ((s.record n).hold = .holdWait → t.record n = if (s.record n).reason = .none then
    { s.record n with reason := .castoutFault, subCode := 0 } else s.record n) ∧
  ∀ k : Channel, k ≠ n → t.record k = s.record k

/-- What the end of a write or castout of entry `e` under tag `n` does to the work of the command unit: the castout of a
head member `e` has ended (R102, R103), and a bus error counts for the member that `e` was (log 15) and for STOP (R169). -/
def Work.afterEnd (w : Work) (e : EntryIx) (n : Channel) (faulted : Bool) : Work :=
  let ended (j : CastJob) : CastJob :=
    if j.phase = .casting ∧ j.todo.head?.map Prod.fst = some e then { j with phase := .cast } else j
  let hits (j : CastJob) : Bool := faulted && decide ((e, n) ∈ j.members)
  match w with
  | .flush j f => .flush (ended j) (f || hits j)
  | .purge j k f => .purge (ended j) (ended k) (f || hits j || hits k)
  | .stop step f => .stop step (f || faulted)
  | w => w

/-- The entry of channel `k` with its state, once entry `e` is in the state `after`, or has left its channel for none. -/
def Cache.foundAfter (c : Cache) (e : EntryIx) (after : Option EntryState) (k : Channel) :
    Option (EntryIx × EntryState) :=
  if k = (c.entry e).tag then after.map fun x => (e, x) else (c.find k).map fun g => (g, (c.entry g).state)

/-- The head that waited in its descriptor step has looked again (R97, R144), its channel's entry being what `found` says:
a DIRTY one is written through, one with a write or castout in flight is waited for, and after any other (a FILLING
one among them, log 14), or with none, the head is released. `w` holds the events that came before. -/
def State.HeadLooksAgain (s t : State) (w : Writer) (found : Channel → Option (EntryIx × EntryState)) : Prop :=
  ∀ c rest, s.retire = ⟨c :: rest, .descriptorWait⟩ → c.descriptorWrite = true →
    match found c.channel with
    | some (g, .dirty) =>
      t.retire = ⟨c :: rest, .descriptorWrite⟩ ∧ t.writer = w ∧ (t.cache.entry g).state = .writing ∧
        (t.cache.entry g).snapshot = s.context g ∧
        t.port.retire = some (s.writeOf (.writeThrough g) c.channel (s.context g))
    | some (_, .writing) | some (_, .writingDirty) | some (_, .evicting) => t.retire = s.retire ∧ t.writer = w
    | _ => t.retire = ⟨rest, .stores⟩ ∧ t.writer = w.takeAll c.events

/-- The completion entry `c` of a commit of the request `r` on context `d` with the advance `a` (R71, R73, R75, R141,
R142, Tables 2-1 and 8-1). -/
def State.EntersCompletion (s : State) (c : Completion) (r : Request) (rg : Ranges) (d : Descriptor) (a : Advance) : Prop :=
  let events : List Event :=
    (if d.evMsg then [⟨.message, channelByte r.channel, 0, s.link.cycle, s.link.offset, a.context.msgCount, rg.record⟩]
      else []) ++
    (match a.milestone with
      | some m => if d.evMilestone then [⟨.milestone, channelByte r.channel, m.code, s.link.cycle, s.link.offset,
          m.aux16 a.context, rg.record⟩] else []
      | none => [])
  c.msg = r.msg ∧ c.channel = r.channel ∧ c.record = rg.record ∧ c.filled = true ∧ c.recordFault = false ∧
  c.errorEnable = d.evError ∧ (c.storeFault = true ↔ r.fault = .storeFault) ∧
  (c.storesPending = true ↔ r.kind = .put ∧ ∃ x ∈ s.mover.segments, x.msg = r.msg ∧ x.state = .storing) ∧
  c.fields = ⟨r.broadcast, r.seq, decide (d.mode = .ring) && d.gen, r.length,
    if d.mode = .ring then (rg.data - d.addrA).setWidth 20 else 0, s.link.cycle, s.link.offset⟩ ∧
  (c.descriptorWrite = true ↔ d.policy = .through ∨ (d.policy = .throughOnEvent ∧ events ≠ [])) ∧
  c.events = events ++ if r.fault = .storeFault ∧ d.evError = true then
    [⟨.messageError, channelByte r.channel, 5, s.link.cycle, s.link.offset, r.length.setWidth 16, rg.record⟩] else []

/-- The reply of an engine's request that is ready may start (R52, R69). -/
def State.ReplyMayStart (s : State) (o : OwedReply) (r : Request) : Prop :=
  s.resetAsserted = false ∧ s.link.rx = .replyWait o .earliest ∧ o.source = .engine ∧ s.engine = some r ∧
    r.ready = true ∧ r.phase ≠ .replying

/-- The opening flag and the header bytes of a reply on the line (R41, R44). -/
def replyHead (code : BitVec 7) (seq : Bool) (node : BitVec 6) (channel length : Byte) : List LineSymbol :=
  [.control 0x5A, .data (BitVec.ofBool seq ++ code), .data (node.setWidth 8), .data channel, .data length]

end Sys2Proof.Machine
end

