-- ==== Sys2Proof/Certificates/Slice0/Obligations.lean ====
section
/-! DEFINITION. The statements for the provers. Each docstring names the rules of spec/ it rests on; a command's result
is stated as the next state exec answers, so that what it leaves unchanged is stated with it. -/

open Sys2Proof Sys2Proof.Machine

/-! ### The step, and the resets -/

/-- The command at the front of the queue is carried out on the queue's rest; an empty queue idles (the model's queue,
log 1). -/
def Obligations.StepRunsFrontCommand : Prop :=
  (∀ (c : Instr) (rest : List Instr) (s : State), s.pending = c :: rest → step s = exec c { s with pending := rest }) ∧
  (∀ s : State, s.pending = [] → step s = .next s)

/-- Every command answers a next state, and leaves the commands that wait behind it (the model never stops, log 8). -/
def Obligations.CommandsAnswerNext : Prop :=
  ∀ (c : Instr) (s : State), ∃ t, exec c s = .next t ∧ t.pending = s.pending

/-- R171: RESET asserted puts every block in its initial state and holds it there, with the window, the line and the
interrupt line quiet; deasserted, the part begins in the state of Table 9-6. -/
def Obligations.ResetHoldsInitialState : Prop :=
  ∀ s : State, s.resetAsserted = false → ∃ t, exec .resetAssert s = .next t ∧
    t.resetAsserted = true ∧ t.host = .reset ∧ t.cmd = .reset ∧ t.link = .reset ∧ t.engine = none ∧
    (∀ e : EntryIx, (t.cache.entry e).state = .invalid ∧ (t.cache.entry e).age = 15 - e.val ∧
      (t.cache.entry e).inUse = false) ∧ t.cache.fills = [] ∧ t.cache.due = [] ∧
    (∀ n : Channel, t.record n = .reset) ∧ t.mover = .reset ∧ t.port = .reset ∧ t.retire = .reset ∧ t.writer = .reset ∧
    (∀ a : Addr, (∀ b, s.port.inFlight = some b → b.Misses a) → Memory.readByte t.mem a = Memory.readByte s.mem a) ∧
    (∀ c : Instr, c ≠ .resetRelease → exec c t = .next t) ∧
    (∀ offset : Byte, t.readRegister offset = 0) ∧ t.transmitEnable = false ∧ t.interruptLine = false ∧
    ∃ u, exec .resetRelease t = .next u ∧ u = { t with resetAsserted := false } ∧ u.interruptLine = false ∧
      ∀ offset : Byte, u.readRegister offset = if offset.toNat / 4 = 0 then 0x6416A301#32 else 0

/-- R172: a write to SOFT_RESET whose lowest bit is one has the effect of an assertion and release of RESET, which leaves
the registers of Table 9-6; with that bit zero it is ignored; SOFT_RESET reads 0. -/
def Obligations.SoftResetIsAssertThenRelease : Prop :=
  ∀ (s : State) (v : Word), s.resetAsserted = false →
    (v.getLsbD 0 = false → exec (.softReset v) s = .next s) ∧
    (v.getLsbD 0 = true → ∃ t u, exec .resetAssert s = .next t ∧ exec .resetRelease t = .next u ∧
      exec (.softReset v) s = .next u ∧ u.resetAsserted = false ∧ u.host = .reset ∧ u.cmd = .reset ∧ u.link = .reset ∧
      u.engine = none ∧ (∀ e : EntryIx, (u.cache.entry e).state = .invalid) ∧ (∀ n : Channel, u.record n = .reset) ∧
      u.mover = .reset ∧ u.port = .reset ∧ u.retire = .reset ∧ u.writer = .reset) ∧
    s.readRegister 0x7C = 0

/-- R162: IDENT reads its fixed value except while RESET is asserted, and NODE_STATE the node state, HALTED after a
reset. COMMAND_RESULT, EQ_STATUS, CHANNEL_STATUS and CACHE_STATUS read bit by bit as Table 11-9 gives them, with the
result codes of Table 11-8 and the counts of R107 (R166, R148, R119). -/
def Obligations.IdentAndNodeStateRead : Prop :=
  (∀ s : State, s.resetAsserted = false → s.readRegister 0x00 = 0x6416A301#32 ∧
    s.readRegister 0x04 = match s.cmd.node with | .halted => 0 | .running => 1 | .stopping => 2) ∧
  (∀ s : State, s.resetAsserted = true → ∀ offset : Byte, s.readRegister offset = 0) ∧
  State.reset.readRegister 0x04 = 0 ∧
  (∀ (s : State) (v : Word), s.resetAsserted = false → v.getLsbD 0 = true →
    ∃ t, exec (.softReset v) s = .next t ∧ t.readRegister 0x00 = 0x6416A301#32 ∧ t.readRegister 0x04 = 0) ∧
  (∀ s : State, s.resetAsserted = true →
    ∃ t, exec .resetRelease s = .next t ∧ t.readRegister 0x00 = 0x6416A301#32 ∧ t.readRegister 0x04 = 0) ∧
  (∀ s : State, s.resetAsserted = false →
    let r := s.readRegister 0x0C
    r.getLsbD 31 = s.cmd.busy ∧ r.extractLsb' 24 7 = 0 ∧ r.extractLsb' 16 8 = s.cmd.operand ∧
    r.extractLsb' 8 8 = s.cmd.code ∧
    r.extractLsb' 0 8 = match s.cmd.result with
      | .none => 0 | .done => 1 | .doneWithFaults => 2 | .refusedBadCommand => 3 | .refusedBadState => 4
      | .refusedBadChannel => 5 | .refusedAlready => 6 | .refusedNotHeld => 7 | .refusedPinLimit => 8
      | .refusedBadConfig => 9 | .fault => 10) ∧
  (∀ s : State, s.resetAsserted = false →
    let r := s.readRegister 0x38
    let C := 2 ^ s.writer.eqSize.toNat
    (r.getLsbD 0 = true ↔ s.writer.active = false) ∧
    (r.getLsbD 1 = true ↔ 4 ≤ s.writer.eqSize.toNat ∧ s.writer.eqSize.toNat ≤ 12 ∧
      (s.writer.producer.toNat % C + C - s.writer.consumer.toNat % C) % C = C - 1) ∧
    r.extractLsb' 2 6 = 0 ∧ (r.extractLsb' 8 4).toNat = s.writer.queue.length % 16 ∧ r.extractLsb' 12 20 = 0) ∧
  (∀ s : State, s.resetAsserted = false →
    let r := s.readRegister 0x74
    let x := s.record s.host.channelSelect
    (r.extractLsb' 0 2 = match x.hold with | .free => 0 | .holdWait => 1 | .held => 2 | .faulted => 3) ∧
    r.extractLsb' 2 2 = 0 ∧
    (r.extractLsb' 4 2 = match x.reason with
      | .none => 0 | .linefillFault => 1 | .castoutFault => 2 | .badDescriptor => 3) ∧
    r.extractLsb' 6 2 = 0 ∧ r.extractLsb' 8 4 = x.subCode ∧ r.getLsbD 12 = x.pinned ∧ r.getLsbD 13 = x.returned ∧
    r.getLsbD 14 = x.seqValid ∧ r.extractLsb' 15 17 = 0) ∧
  (∀ s : State, s.resetAsserted = false →
    let r := s.readRegister 0x78
    let valid (x : EntryState) : Bool := x == .clean || x == .dirty || x == .writing || x == .writingDirty
    let dirty (x : EntryState) : Bool := x == .dirty || x == .writingDirty
    (r.extractLsb' 0 5).toNat = ((List.finRange 16).filter fun e => valid (s.cache.entry e).state).length ∧
    r.extractLsb' 5 3 = 0 ∧
    (r.extractLsb' 8 5).toNat = ((List.finRange 16).filter fun e => dirty (s.cache.entry e).state).length ∧
    r.extractLsb' 13 3 = 0 ∧
    (r.extractLsb' 16 4).toNat = ((List.finRange 64).filter fun n => (s.record n).pinned).length % 16 ∧
    r.extractLsb' 20 12 = 0)

/-! ### The register window -/

/-- Writes of INT_PENDING, INT_MASK (R155), STICKY_STATUS (R160), LINK_ERRORS (R51) and CHANNEL_SELECT (R119): what each
changes, in any node state, and nothing else. -/
def Obligations.PlainRegisterWrites : Prop :=
  ∀ (s : State) (v : Word), s.resetAsserted = false →
    (∃ t, exec (.intPendingWrite v) s = .next t ∧ t = { s with host := { s.host with intPending := t.host.intPending } } ∧
      ∀ i < 4, t.host.intPending.getLsbD i = (s.host.intPending.getLsbD i && !v.getLsbD i)) ∧
    (∃ t, exec (.intMaskWrite v) s = .next t ∧ t = { s with host := { s.host with intMask := t.host.intMask } } ∧
      (∀ i < 4, t.host.intMask.getLsbD i = v.getLsbD i) ∧
      (t.interruptLine = true ↔ ∃ i < 4, s.host.intPending.getLsbD i = true ∧ v.getLsbD i = true)) ∧
    (∃ t, exec (.stickyStatusWrite v) s = .next t ∧ t = { s with host := { s.host with sticky := t.host.sticky } } ∧
      ∀ i < 2, t.host.sticky.getLsbD i = (s.host.sticky.getLsbD i && !v.getLsbD i)) ∧
    exec (.linkErrorsWrite v) s = .next { s with link := { s.link with crcErrors := 0, frameErrors := 0 } } ∧
    (∃ t, exec (.channelSelectWrite v) s = .next t ∧
      t = { s with host := { s.host with channelSelect := t.host.channelSelect } } ∧
      t.host.channelSelect.val = v.toNat % 64 ∧ t.readRegister 0x74 = (s.record t.host.channelSelect).word)

/-- CONFIG_WRITE (R159, R137): in HALTED the register reads the kept bits of what was written and every other register as
before; in another state only CONFIG_WRITE_IGNORED is set. -/
def Obligations.ConfigWriteReadsBack : Prop :=
  ∀ (s : State) (reg : ConfigReg) (v : Word), s.resetAsserted = false →
    (s.cmd.node = .halted → ∃ t, exec (.configWrite reg v) s = .next t ∧
      t = { s with host := { s.host with nodeAddress := t.host.nodeAddress, tableBase := t.host.tableBase }
                   mover := { s.mover with guards := t.mover.guards } } ∧
      ∀ offset : Byte, t.readRegister offset =
        if offset.toNat / 4 * 4 = reg.offset then v &&& reg.kept else s.readRegister offset) ∧
    (s.cmd.node ≠ .halted →
      exec (.configWrite reg v) s = .next { s with host := { s.host with sticky := s.host.sticky ||| 1#2 } })

/-- EQ_BASE_WRITE and EQ_SIZE_WRITE (R148, R159), GLOBAL_ENABLES_WRITE (R159, R161), and EQ_CONSUMER_WRITE (R148, R149):
with no event waiting it takes the index alone, and with any events pending it is the index taken and then the writer's
look, which is what EVENT_ENTRY_WRITE is (log 22). -/
def Obligations.RingAndEnableWrites : Prop :=
  ∀ (s : State) (v : Word), s.resetAsserted = false →
    (s.cmd.node = .halted →
      exec (.eqBaseWrite v) s = .next { s with writer := { s.writer with
        eqBase := v, producer := 0, consumer := 0, dropped := 0, serial := 0 } } ∧
      exec (.eqSizeWrite v) s = .next { s with writer := { s.writer with
        eqSize := v.extractLsb' 0 4, producer := 0, consumer := 0, dropped := 0, serial := 0 } } ∧
      exec (.globalEnablesWrite v) s = .next { s with host := { s.host with
        linkErrorEnable := v.getLsbD 0, linkResetEnable := v.getLsbD 1, serviceRequest := v.getLsbD 8 } }) ∧
    (s.cmd.node ≠ .halted →
      exec (.eqBaseWrite v) s = .next { s with host := { s.host with sticky := s.host.sticky ||| 1#2 } } ∧
      exec (.eqSizeWrite v) s = .next { s with host := { s.host with sticky := s.host.sticky ||| 1#2 } } ∧
      exec (.globalEnablesWrite v) s = .next { s with host := { s.host with
        serviceRequest := v.getLsbD 8,
        sticky := if v.getLsbD 0 = s.host.linkErrorEnable ∧ v.getLsbD 1 = s.host.linkResetEnable then s.host.sticky
          else s.host.sticky ||| 1#2 } }) ∧
    (s.writer.queue = [] →
      exec (.eqConsumerWrite v) s = .next { s with writer := { s.writer with consumer := v.extractLsb' 0 12 } }) ∧
    exec (.eqConsumerWrite v) s =
      exec .eventEntryWrite { s with writer := { s.writer with consumer := v.extractLsb' 0 12 } }

/-- REGISTER_WRITE (R158, Table 9-1): a read-only or unlisted offset ignores the write; a write at a writable register's
offset is the write of that register, with the bytes the access does not enable taken as 0 (log 20). -/
def Obligations.RegisterWriteByOffset : Prop :=
  ∀ (s : State) (offset : Byte) (enables : BitVec 4) (v w : Word), s.resetAsserted = false →
    (∀ k < 4, w.extractLsb' (8 * k) 8 = if enables.getLsbD k then v.extractLsb' (8 * k) 8 else 0#8) →
    (writableOffset (offset.toNat / 4 * 4) = false → exec (.registerWrite offset enables v) s = .next s) ∧
    (∀ reg : ConfigReg, offset.toNat / 4 * 4 = reg.offset →
      exec (.registerWrite offset enables v) s = exec (.configWrite reg w) s) ∧
    (∀ p ∈ [(0x10, Instr.intPendingWrite w), (0x14, .intMaskWrite w), (0x1C, .globalEnablesWrite w),
        (0x24, .eqBaseWrite w), (0x28, .eqSizeWrite w), (0x30, .eqConsumerWrite w), (0x6C, .linkErrorsWrite w),
        (0x70, .channelSelectWrite w), (0x7C, .softReset w), (0x80, .stickyStatusWrite w),
        (0x08, .badCommand (w.extractLsb' 0 8) (w.extractLsb' 8 8))],
      offset.toNat / 4 * 4 = p.1 → exec (.registerWrite offset enables v) s = exec p.2 s)

/-! ### The command unit -/

/-- R164, R165: a busy unit takes no command and sets COMMAND_REFUSED_BUSY; a bad code, a bad channel operand and a node
state that does not allow the command end it with that result and nothing else. -/
def Obligations.CommandChecksRefuse : Prop :=
  ∀ (s : State) (code operand : Byte), s.resetAsserted = false →
    (s.cmd.busy = true → ∀ c ∈ [Instr.start operand, .stop operand, .hold operand, .release operand,
        .returnBuffer operand, .pin operand, .unpin operand, .flush operand, .purge operand, .resumeEvents operand,
        .badCommand code operand],
      exec c s = .next { s with host := { s.host with sticky := s.host.sticky ||| 2#2 } }) ∧
    (s.cmd.busy = false →
      (code.toNat = 0 ∨ 10 < code.toNat →
        exec (.badCommand code operand) s = .next (s.endedWith code operand .refusedBadCommand)) ∧
      (63 < operand.toNat → ∀ p ∈ [(3#8, Instr.hold operand), (4, .release operand), (5, .returnBuffer operand),
          (6, .pin operand), (7, .unpin operand)],
        exec p.2 s = .next (s.endedWith p.1 operand .refusedBadChannel)) ∧
      (s.cmd.node ≠ .halted → exec (.start operand) s = .next (s.endedWith 1 operand .refusedBadState)) ∧
      (s.cmd.node ≠ .running → exec (.stop operand) s = .next (s.endedWith 2 operand .refusedBadState)) ∧
      (s.cmd.node = .stopping → operand.toNat ≤ 63 → ∀ p ∈ [(3#8, Instr.hold operand), (4, .release operand),
          (5, .returnBuffer operand), (6, .pin operand), (7, .unpin operand), (8, .flush operand), (9, .purge operand),
          (10, .resumeEvents operand)],
        exec p.2 s = .next (s.endedWith p.1 operand .refusedBadState)))

/-- START (R167, R101), STOP (R168) and RESUME_EVENTS (R154): the configuration START refuses and what it does once its
checks pass; STOP in RUNNING; and the writer's return to ACTIVE. -/
def Obligations.StartStopAndResume : Prop :=
  ∀ (s : State) (op : Byte), s.resetAsserted = false → s.cmd.busy = false →
    (s.cmd.node = .halted →
      (s.host.nodeAddress = 63 ∨ s.host.tableBase.toNat % 2048 ≠ 0 ∨ s.writer.eqSize.toNat < 4 ∨
          12 < s.writer.eqSize.toNat ∨ s.writer.eqBase.toNat % (16 * 2 ^ s.writer.eqSize.toNat) ≠ 0 →
        exec (.start op) s = .next (s.endedWith 1 op .refusedBadConfig)) ∧
      (s.host.nodeAddress ≠ 63 → s.host.tableBase.toNat % 2048 = 0 → 4 ≤ s.writer.eqSize.toNat →
          s.writer.eqSize.toNat ≤ 12 → s.writer.eqBase.toNat % (16 * 2 ^ s.writer.eqSize.toNat) = 0 →
        ∃ t, exec (.start op) s = .next t ∧
          t = { s with
            cmd := ⟨.running, 1, op, false, .done, .none⟩
            host := { s.host with intPending := s.host.intPending ||| 0x4#4 }
            link := { s.link with cycle := 0, offset := 0, rx := .idle }
            status := t.status
            cache := { s.cache with fills := t.cache.fills } } ∧
          (∀ n : Channel, t.record n = { s.record n with seqValid := false }) ∧
          (s.cache.Empty → t.cache.fills =
            (List.finRange 64).filter fun n => (s.record n).pinned && decide ((s.record n).hold = .free)))) ∧
    (s.cmd.node = .running →
      exec (.stop op) s = .next { s with cmd := ⟨.stopping, 2, op, true, .none, .stop .request false⟩ }) ∧
    (s.cmd.node ≠ .stopping →
      (s.writer.active = false → s.writer.queue = [] →
        exec (.resumeEvents op) s =
          .next (({ s with writer := { s.writer with active := true } }).endedWith 10 op .done)) ∧
      (s.writer.active = true → exec (.resumeEvents op) s = .next (s.endedWith 10 op .refusedAlready)))

/-- HOLD n (R110) by the channel's hold state. A request in progress when HOLD_WAIT is entered came before it, and the HOLD
waits for it (R62, R111). -/
def Obligations.HoldActsByHoldState : Prop :=
  ∀ (s : State) (n : Channel), s.resetAsserted = false → s.cmd.busy = false → s.cmd.node ≠ .stopping →
    ((s.record n).hold = .free → s.cmd.node = .running →
      exec (.hold (channelByte n)) s = .next { s with
        engine := match s.engine with
          | some r => some { r with byHold := false }
          | none => none
        status := modifyAt s.status n fun x => { x with hold := .holdWait }
        cmd := ⟨.running, 3, channelByte n, true, .none, .hold n⟩ }) ∧
    ((s.record n).hold = .free ∧ s.cmd.node = .halted ∨ (s.record n).hold = .faulted →
      exec (.hold (channelByte n)) s = .next (({ s with
        status := modifyAt s.status n fun x => ⟨.held, .none, 0, x.pinned, false, false⟩ }).endedWith 3 (channelByte n)
          .done)) ∧
    ((s.record n).hold = .held →
      exec (.hold (channelByte n)) s = .next (s.endedWith 3 (channelByte n) .refusedAlready))

/-- RELEASE n (R116, R101) and RETURN n (R117) by the channel's hold state, pinned flag and returned flag. A pending fill
is read as log 13 says. -/
def Obligations.ReleaseAndReturn : Prop :=
  ∀ (s : State) (n : Channel), s.resetAsserted = false → s.cmd.busy = false → s.cmd.node ≠ .stopping →
    ((s.record n).hold = .held ∨ (s.record n).hold = .faulted →
      ∃ t, exec (.release (channelByte n)) s = .next t ∧
        t = ({ s with
          status := modifyAt s.status n fun x => { x with hold := .free, reason := .none, subCode := 0 }
          cache := { s.cache with fills := t.cache.fills } }).endedWith 4 (channelByte n) .done ∧
        ((s.record n).pinned = false ∨ s.cmd.node = .halted → t.cache.fills = s.cache.fills) ∧
        ((s.record n).pinned = true → s.cmd.node = .running → s.cache.Absent n → s.cache.fillPending n = false →
          t.cache.fills = s.cache.fills ++ [n])) ∧
    ((s.record n).hold = .free →
      exec (.release (channelByte n)) s = .next (s.endedWith 4 (channelByte n) .refusedNotHeld)) ∧
    ((s.record n).hold = .free → (s.record n).returned = false →
      exec (.returnBuffer (channelByte n)) s = .next (({ s with
        status := modifyAt s.status n fun x => { x with returned := true } }).endedWith 5 (channelByte n) .done)) ∧
    ((s.record n).hold = .free → (s.record n).returned = true →
      exec (.returnBuffer (channelByte n)) s = .next (s.endedWith 5 (channelByte n) .refusedAlready)) ∧
    ((s.record n).hold = .held ∨ (s.record n).hold = .faulted →
      exec (.returnBuffer (channelByte n)) s = .next (s.endedWith 5 (channelByte n) .refusedBadState))

/-- PIN n (R100) and UNPIN n (R101): the checks in order, the flag, and the fill PIN asks for. That a fill which waits
for its dirty victim's castout is pending, so that PIN asks for none, is the model's reading (log 13). -/
def Obligations.PinAndUnpin : Prop :=
  ∀ (s : State) (n : Channel), s.resetAsserted = false → s.cmd.busy = false → s.cmd.node ≠ .stopping →
    ((s.record n).hold = .faulted →
      exec (.pin (channelByte n)) s = .next (s.endedWith 6 (channelByte n) .refusedBadState)) ∧
    ((s.record n).hold ≠ .faulted → (s.record n).pinned = true →
      exec (.pin (channelByte n)) s = .next (s.endedWith 6 (channelByte n) .refusedAlready)) ∧
    ((s.record n).hold ≠ .faulted → (s.record n).pinned = false → 8 ≤ s.pinnedCount →
      exec (.pin (channelByte n)) s = .next (s.endedWith 6 (channelByte n) .refusedPinLimit)) ∧
    ((s.record n).hold ≠ .faulted → (s.record n).pinned = false → s.pinnedCount < 8 →
      ∃ t, exec (.pin (channelByte n)) s = .next t ∧
        t = ({ s with
          status := modifyAt s.status n fun x => { x with pinned := true }
          cache := { s.cache with fills := t.cache.fills } }).endedWith 6 (channelByte n) .done ∧
        t.pinnedCount = s.pinnedCount + 1 ∧
        (s.cmd.node = .halted ∨ (s.record n).hold = .held ∨ s.cache.fillPending n = true ∨
            (∃ e, s.cache.find n = some e ∧ (s.cache.entry e).state ≠ .evicting) →
          t.cache.fills = s.cache.fills) ∧
        (s.cmd.node = .running → (s.record n).hold = .free → s.cache.fillPending n = false →
            (∀ e : EntryIx, (s.cache.entry e).tag = n →
              (s.cache.entry e).state = .invalid ∨ (s.cache.entry e).state = .evicting) →
          t.cache.fills = s.cache.fills ++ [n])) ∧
    ((s.record n).pinned = false →
      exec (.unpin (channelByte n)) s = .next (s.endedWith 7 (channelByte n) .refusedAlready)) ∧
    ((s.record n).pinned = true →
      exec (.unpin (channelByte n)) s = .next (({ s with
        status := modifyAt s.status n fun x => { x with pinned := false } }).endedWith 7 (channelByte n) .done))

/-- FLUSH (R102) and PURGE (R103): at once in HALTED; in RUNNING the sets they take, in ascending entry order. That a
command whose sets are empty in RUNNING ends DONE at once is the model's reading (log 26). -/
def Obligations.FlushAndPurgeTakeSets : Prop :=
  ∀ (s : State) (op : Byte), s.resetAsserted = false → s.cmd.busy = false →
    (s.cmd.node = .halted →
      exec (.flush op) s = .next (s.endedWith 8 op .done) ∧ exec (.purge op) s = .next (s.endedWith 9 op .done)) ∧
    (s.cmd.node = .running → ∃ members unpinned : List (EntryIx × Channel),
      (∀ e n, (e, n) ∈ members ↔ (s.cache.entry e).tag = n ∧
        ((s.cache.entry e).state = .dirty ∨ (s.cache.entry e).state = .writing ∨
          (s.cache.entry e).state = .writingDirty ∨ (s.cache.entry e).state = .evicting)) ∧
      (∀ e n, (e, n) ∈ unpinned ↔ (s.cache.entry e).tag = n ∧ (s.cache.entry e).state ≠ .invalid ∧
        (s.record n).pinned = false) ∧
      (members.map Prod.fst).Pairwise (· < ·) ∧ (unpinned.map Prod.fst).Pairwise (· < ·) ∧
      exec (.flush op) s = .next (if members = [] then s.endedWith 8 op .done
        else { s with cmd := ⟨.running, 8, op, true, .none, .flush ⟨members, members, .waiting⟩ false⟩ }) ∧
      exec (.purge op) s = .next (if members = [] ∧ unpinned = [] then s.endedWith 9 op .done
        else { s with cmd := ⟨.running, 9, op, true, .none,
          .purge ⟨members, members, .waiting⟩ ⟨unpinned, unpinned, .waiting⟩ false⟩ }))

/-! ### The line -/

/-- The flags, the abort symbol, the silence limit and a bad symbol by the receiver's state (R40, R47, R50, R53, R54, R55):
the line is ignored in HALTED; an opening flag opens a frame or is an early request, and with no frame open any other
control symbol and the silence limit are ignored; an open frame that is broken off is a frame error when it is this
node's, reported as R50 gives when enabled, and ends without report otherwise. -/
def Obligations.FramesOpenAndBreak : Prop :=
  (∀ s : State, s.resetAsserted = false →
    (s.cmd.node = .halted → ∀ (b p : Byte), ∀ c ∈ [Instr.openingFlag, .dataSymbol b, .closingFlag, .abortSymbol,
        .badSymbol p, .symbolSilenceLimit], exec c s = .next s) ∧
    (s.cmd.node ≠ .halted →
      (s.link.rx = .idle ∨ (∃ f, s.link.rx = .receiving f ∧ (f.cls = none ∨ f.cls = some .foreign)) →
        exec .openingFlag s = .next { s with link := { s.link with rx := .receiving .opened } }) ∧
      (∀ tx, s.link.rx = .replying tx → exec .openingFlag s = .next s) ∧
      (s.link.rx = .recovery ∨ (∃ o p, s.link.rx = .replyWait o p) →
        ∃ n : Half, n.toNat = min 65535 (s.link.frameErrors.toNat + 1) ∧
          exec .openingFlag s = .next { s with
            link := { s.link with frameErrors := n }
            writer := if s.host.linkErrorEnable then
              s.writer.take ⟨.linkError, 0xFF, 3, s.link.cycle, s.link.offset, n, 0⟩ else s.writer }) ∧
      ((∀ f, s.link.rx ≠ .receiving f) → ∀ p : Byte, p ≠ 0x5A →
        ∀ c ∈ [Instr.closingFlag, .abortSymbol, .badSymbol p, .symbolSilenceLimit], exec c s = .next s))) ∧
  ∀ (s : State) (f : Frame) (p : Byte), s.resetAsserted = false → s.cmd.node ≠ .halted → s.link.rx = .receiving f →
    p ≠ 0x5A → p ≠ 0xA5 → p ≠ 0x00 →
    ((f.cls = some .addressed ∨ f.cls = some .broadcast) →
      ∀ c ∈ [Instr.abortSymbol, .symbolSilenceLimit, .openingFlag, .badSymbol p], ∃ t, exec c s = .next t ∧
        t.link.rx = (if c = .openingFlag then .receiving .opened else .idle) ∧
        t.link.frameErrors.toNat = min 65535 (s.link.frameErrors.toNat + 1) ∧
        t.link = { s.link with rx := t.link.rx, frameErrors := t.link.frameErrors } ∧
        t.mem = s.mem ∧ t.status = s.status ∧ t.retire = s.retire ∧
        s.FrameErrorReported f 2 t.link.frameErrors t.writer ∧
        (f.msg = none → f.header.length < 4 →
          t = { s with
            link := t.link
            writer := if s.host.linkErrorEnable then
              s.writer.take ⟨.linkError, 0xFF, 2, s.link.cycle, s.link.offset, t.link.frameErrors, 0⟩ else s.writer }) ∧
        (∀ r, f.msg = some r.msg → s.engine = some r → t.engine = none)) ∧
    ((f.cls = none ∨ f.cls = some .foreign) →
      (∀ c ∈ [Instr.abortSymbol, .symbolSilenceLimit], exec c s = .next { s with link := { s.link with rx := .idle } }) ∧
      exec (.badSymbol p) s = .next (if f.cls = some .foreign then s else { s with link := { s.link with rx := .idle } })) ∧
    ((f.cls = none ∨ f.cls = some .foreign) →
      exec .closingFlag s = .next { s with link := { s.link with rx := .idle } })

/-- A data symbol outside an open frame is ignored, one of another node's frame is only counted, and one of the first
three header bytes is kept, enters the CRC and, as the NODE byte, classes the frame (R42, R45, R47). -/
def Obligations.HeaderByteTaken : Prop :=
  ∀ (s : State) (b : Byte), s.resetAsserted = false → s.cmd.node ≠ .halted →
    ((∀ f, s.link.rx ≠ .receiving f) → exec (.dataSymbol b) s = .next s) ∧
    (∀ f, s.link.rx = .receiving f → f.cls = some .foreign →
      exec (.dataSymbol b) s = .next { s with link := { s.link with rx := .receiving { f with count := f.count + 1 } } }) ∧
    (∀ f, s.link.rx = .receiving f → f.cls ≠ some .foreign → f.count < 3 →
      exec (.dataSymbol b) s = .next { s with link := { s.link with rx := .receiving { f with
        header := f.header ++ [b]
        count := f.count + 1
        crc := crcByte f.crc b
        cls := if f.count = 1 then
            some (if b.toNat = s.host.nodeAddress.toNat then .addressed else if b = 63 then .broadcast else .foreign)
          else f.cls } } })

/-- R46: the fourth header byte of a frame of this node is checked against Table 3-6. -/
def Obligations.HeaderCheck : Prop :=
  ∀ (s : State) (f : Frame) (b0 b1 b2 b3 : Byte), s.AtFourthByte f b0 b1 b2 →
    ∀ kind : Nat, kind = (b0 &&& 0x7F).toNat →
    ((kind = 0 ∨ 5 < kind ∨ (kind = 3 ∧ f.cls = some .addressed) ∨ ((kind = 2 ∨ kind = 4) ∧ f.cls = some .broadcast) ∨
        ((kind = 1 ∨ kind = 2) ∧ 63 < b2.toNat) ∨ (kind = 3 ∧ b3 ≠ 2) ∨ ((kind = 4 ∨ kind = 5) ∧ b3 ≠ 0)) →
      ∃ t, exec (.dataSymbol b3) s = .next t ∧ t.link.rx = .idle ∧
        t.link.frameErrors.toNat = min 65535 (s.link.frameErrors.toNat + 1) ∧
        t.writer = (if s.host.linkErrorEnable then
          s.writer.take ⟨.linkError, 0xFF, 2, s.link.cycle, s.link.offset, t.link.frameErrors, 0⟩ else s.writer) ∧
        (∀ b, exec (.dataSymbol b) t = .next t ∧ (b ≠ 0x5A → exec (.badSymbol b) t = .next t)) ∧
        exec .closingFlag t = .next t ∧ exec .abortSymbol t = .next t ∧ exec .symbolSilenceLimit t = .next t) ∧
    (¬ (kind = 0 ∨ 5 < kind ∨ (kind = 3 ∧ f.cls = some .addressed) ∨ ((kind = 2 ∨ kind = 4) ∧ f.cls = some .broadcast) ∨
        ((kind = 1 ∨ kind = 2) ∧ 63 < b2.toNat) ∨ (kind = 3 ∧ b3 ≠ 2) ∨ ((kind = 4 ∨ kind = 5) ∧ b3 ≠ 0)) →
      ∃ t g, exec (.dataSymbol b3) s = .next t ∧ t.link.rx = .receiving g ∧ g.header = [b0, b1, b2, b3] ∧ g.count = 4 ∧
        g.cls = f.cls ∧ t.link.frameErrors = s.link.frameErrors)

/-- A PUT or GET header handed to an IDLE engine: a channel that is not FREE decides the request (R65, R79, R109), and a
FREE channel that misses waits in LOOKUP (R63, R88, R89): it asks for a fill when it has no entry, or an EVICTING one, and
no fill is pending, and for none while its entry is FILLING or a fill of it is pending. What is a pending fill is log 13's
reading, that a segment's next address is 0 until admission log 28's choice. -/
def Obligations.HeaderReadsHoldState : Prop :=
  ∀ (s : State) (f : Frame) (b0 b1 b2 len : Byte) (kind : MsgKind) (n : Channel), s.HeaderReaches f b0 b1 b2 kind →
    n.val = b2.toNat →
    ∃ t r g, exec (.dataSymbol len) s = .next t ∧ t.link.rx = .receiving g ∧ g.msg = some s.nextMsg ∧
      r.kind = kind ∧ r.broadcast = decide (f.cls = some .broadcast) ∧ r.channel = n ∧ r.seq = b0.getLsbD 7 ∧
      r.length = len ∧ r.closed = false ∧ r.overflow = false ∧ r.fault = .none ∧ r.ready = false ∧ r.msg = s.nextMsg ∧
      t.nextMsg = s.nextMsg + 1 ∧ t.mem = s.mem ∧ t.retire = s.retire ∧
      ((s.record n).hold ≠ .free → t.engine = some r ∧ r.phase = .awaitReady ∧ r.entry = none ∧
        (r.byHold = true ↔ (s.record n).hold = .holdWait) ∧
        t.cache = s.cache ∧ t.status = s.status ∧ t.writer = s.writer ∧
        r.verdict = (if r.broadcast then .dropped false
          else if (s.record n).hold = .faulted then .refuseFault .none else .busyHold)) ∧
      ((s.record n).hold = .free →
        let evicting := ∃ e, s.cache.find n = some e ∧ (s.cache.entry e).state = .evicting
        let filling := ∃ e, s.cache.find n = some e ∧ (s.cache.entry e).state = .filling
        s.cache.Absent n ∨ evicting ∨ filling →
        t.engine = some r ∧ r.phase = .lookup ∧ r.verdict = .undecided ∧ r.entry = none ∧ r.byHold = false ∧
        t.status = s.status ∧ t.writer = s.writer ∧ t.port = s.port ∧
        (s.cache.fillPending n = true ∨ filling → t.cache = s.cache) ∧
        (s.cache.fillPending n = false → s.cache.Absent n ∨ evicting →
          t.cache = { s.cache with fills := s.cache.fills ++ [n] }) ∧
        t.mover.segments = s.mover.segments ++ (if kind = .put then [⟨s.nextMsg, .waiting, 0, [], len.toNat, false, false⟩]
          else []))

/-- A PUT or GET header that hits (R66, R67, R68, R87, R88): the entry is touched, and the request's outcome is the one
the context decides (AdmissionOrder spells that out, with the ranges and the guard test). A PUT's segment opens (R128) and
follows the outcome (R129), with what the store client then presents (R130), and a GET's buffer is set to serve the
message or its duplicate, with the first fetch burst presented (R78, R134). That a segment
which is never admitted keeps the next store address 0 of its opening is the model's choice (log 28). An ALTERNATE GET
accepted with the returned flag set swaps first (R31): ACTIVE flips, the flag clears, and MILESTONE(SWAP) is raised when EV_MILESTONE
is set; nothing else changes a context, a record or the events here. -/
def Obligations.HeaderHitDecides : Prop :=
  ∀ (s : State) (f : Frame) (b0 b1 b2 len : Byte) (kind : MsgKind) (n : Channel) (e : EntryIx),
    s.HeaderReaches f b0 b1 b2 kind → n.val = b2.toNat → (s.record n).hold = .free → s.cache.find n = some e →
    (s.cache.entry e).state.answers = true →
    let stores (t : State) : Prop := t.port = { s.port with store := s.port.storeLook t.mover.segments }
    let fetches (t : State) : Prop := t.port = { s.port with fetch := s.port.fetchLook t.mover.staging }
    let discards (t : State) : Prop := kind = .put →
      Segment.mk s.nextMsg .discarding 0 [] len.toNat false false ∈ t.mover.segments ∧
        (s.port.store ≠ some s.nextMsg → stores t)
    ∃ t r, exec (.dataSymbol len) s = .next t ∧ t.engine = some r ∧ r.entry = some e ∧ r.channel = n ∧ r.length = len ∧
      r.kind = kind ∧ r.broadcast = decide (f.cls = some .broadcast) ∧ (t.cache.entry e).age = 0 ∧
      (t.cache.entry e).inUse = true ∧ t.mem = s.mem ∧ t.retire = s.retire ∧
      (let d := s.context e
        let swaps := d.decideRequest r.broadcast kind (b0.getLsbD 7) len (s.record n).seqValid s.mover.guards = .accept ∧
          kind = .get ∧ d.mode = .alternate ∧ (s.record n).returned = true
        (¬ swaps → t.context e = d ∧ (t.cache.entry e).state = (s.cache.entry e).state ∧ t.status = s.status ∧
          t.writer = s.writer) ∧
        (swaps → (t.context e).active = !d.active ∧ t.context e = { d with w6 := (t.context e).w6 } ∧
          (∀ i, i ≠ 1 → (t.context e).w6.getLsbD i = d.w6.getLsbD i) ∧
          ((s.cache.entry e).state = .clean ∨ (s.cache.entry e).state = .dirty → (t.cache.entry e).state = .dirty) ∧
          ((s.cache.entry e).state = .writing ∨ (s.cache.entry e).state = .writingDirty →
            (t.cache.entry e).state = .writingDirty) ∧
          (∀ m : Channel, t.record m = if m = n then { s.record m with returned := false } else s.record m) ∧
          t.writer = if d.evMilestone then s.writer.take ⟨.milestone, channelByte n, 2, s.link.cycle, s.link.offset,
            if d.active then 0 else 1, 0⟩ else s.writer)) ∧
      (match (s.context e).decideRequest r.broadcast kind (b0.getLsbD 7) len (s.record n).seqValid s.mover.guards with
        | .ignore => r.phase = .awaitReady ∧ r.verdict = .ignored ∧ discards t
        | .refuse reason =>
          r.phase = .awaitReady ∧ (r.verdict = if r.broadcast then .dropped true else .refuse reason) ∧ discards t
        | .duplicate => r.phase = .admitted ∧ r.verdict = .acceptDuplicate ∧ discards t ∧
            (kind = .get → fetches t ∧ t.mover.staging =
              some ⟨s.nextMsg, (s.context e).duplicateData, (s.context e).prevLen.toNat, []⟩)
        | .accept => r.phase = .admitted ∧ r.verdict = .acceptNew ∧
            r.ranges = some ((t.context e).newRanges len.toNat) ∧
            (kind = .put → stores t ∧ t.context e = s.context e ∧
              ⟨s.nextMsg, .storing, (s.context e).dataAddr len.toNat, [], len.toNat, false, false⟩ ∈ t.mover.segments ∧
              ∀ x ∈ t.mover.segments, x.msg = s.nextMsg → x.state = .storing ∧ x.next = (s.context e).dataAddr len.toNat) ∧
            (kind = .get → fetches t ∧
              t.mover.staging = some ⟨s.nextMsg, (t.context e).dataAddr len.toNat, len.toNat, []⟩))

/-- The steps of admission in order (R67, Table 4-4, with R6, R8, R77, R78, R79): the first that applies decides. The
ranges of Table 2-3 and their guard tests (R21, R33, R137, R138) are spelled out first. That a range
is tested from its start as a plain number, also where that passes 2^32, is log 16's reading. -/
def Obligations.AdmissionOrder : Prop :=
  (∀ (guards : Vector GuardWindow 4) (start len : Nat) (right : Right),
    guardPass guards start len right = true ↔ ∃ w : Fin 4, guards[w].enable = true ∧
      (right = .store → guards[w].store = true) ∧ (right = .fetch → guards[w].fetch = true) ∧
      guards[w].base.toNat ≤ start ∧ start + len ≤ guards[w].limit.toNat) ∧
  (∀ (d : Descriptor) (len : Nat),
    let X := if d.active then d.addrB else d.addrA
    (d.mode = .counted → d.dataAddr len = d.cursor + 8 ∧ d.recordAddr = d.cursor ∧ d.duplicateData = d.prev + 8) ∧
    (d.mode = .alternate → d.dataAddr len = X + 8 ∧ d.recordAddr = X ∧ d.duplicateData = X + 8) ∧
    (d.mode = .ring → d.recordAddr = d.recBase + BitVec.ofNat 32 (8 * d.recIdx.toNat) ∧
      d.dataAddr len = if (d.cursor + BitVec.ofNat 32 ((len + 3) / 4 * 4)).toNat ≤ d.addrB.toNat then d.cursor
        else d.addrA)) ∧
  (∀ (d : Descriptor) (kind : MsgKind) (len : Nat) (guards : Vector GuardWindow 4),
    let right : Right := if kind = .put then .store else .fetch
    let passes (data record : Nat) := guardPass guards data len right = true ∧ guardPass guards record 8 .store = true
    (d.mode = .alternate → kind = .get →
      (d.guardsPass kind len guards = true ↔ passes (d.addrA.toNat + 8) d.addrA.toNat ∧
        passes (d.addrB.toNat + 8) d.addrB.toNat)) ∧
    (d.mode = .alternate → kind = .put →
      let X := if d.active then d.addrB else d.addrA
      (d.guardsPass kind len guards = true ↔ passes (X.toNat + 8) X.toNat)) ∧
    (d.mode = .counted → (d.guardsPass kind len guards = true ↔ passes (d.cursor.toNat + 8) d.cursor.toNat)) ∧
    (d.mode = .ring → (d.guardsPass kind len guards = true ↔
      passes (d.dataAddr len).toNat (d.recBase.toNat + 8 * d.recIdx.toNat)))) ∧
  ∀ (d : Descriptor) (broadcast seq seqValid : Bool) (kind : MsgKind) (len : Byte) (guards : Vector GuardWindow 4),
    let decide_ := d.decideRequest broadcast kind seq len seqValid guards
    (broadcast = true → (d.mode = .off ∨ d.dir = .get ∨ d.bcast = false) → decide_ = .ignore) ∧
    (broadcast = false → d.mode = .off → decide_ = .refuse .noChannel) ∧
    (broadcast = false → d.mode ≠ .off → d.dir ≠ kind → decide_ = .refuse .direction) ∧
    ((broadcast = false ∨ d.bcast = true) → d.mode ≠ .off → d.dir = kind → (broadcast = true → kind = .put) →
      (len = 0 ∨ d.maxLen.toNat < len.toNat → decide_ = .refuse .length) ∧
      (len ≠ 0 → len.toNat ≤ d.maxLen.toNat →
        (broadcast = false → seqValid = true → seq = d.lastSeq → (kind = .get → len = d.prevLen) →
          decide_ = if kind = .get ∧ guardPass guards (8 + (if d.mode = .alternate then
              (if d.active then d.addrB else d.addrA) else d.prev).toNat) d.prevLen.toNat .fetch = false then .refuse .guard
            else .duplicate) ∧
        (broadcast = true ∨ seqValid = false ∨ seq ≠ d.lastSeq ∨ (kind = .get ∧ len ≠ d.prevLen) →
          (d.mode = .counted → d.quota = 0 → decide_ = .refuse .exhausted) ∧
          (d.mode ≠ .counted ∨ d.quota ≠ 0 →
            decide_ = if d.guardsPass kind len.toNat guards then .accept else .refuse .guard))))

/-- A body byte of a PUT handed to its segment (R128, R132, R72): staged while the buffer has room, otherwise an overflow
that discards what the segment holds outside a granted burst and turns an accepted request to BUSY or a drop. The store
client then presents what R130 gives. A byte for a segment in DISCARDING is dropped and counts for no occupancy (R128), and
a body byte of a frame that was not handed over (R55, R57, R128) stays with the receiver. -/
def Obligations.BodyByteStagedOrOverflows : Prop :=
  (∀ (s : State) (f : Frame) (h : RequestHeader) (b : Byte), s.resetAsserted = false → s.cmd.node ≠ .halted →
    s.link.rx = .receiving f → (f.cls = some .addressed ∨ f.cls = some .broadcast) → headerOf f.header = some h →
    4 ≤ f.count → f.count < 4 + h.kind.bodyLength h.length →
    let taken : Link := { s.link with rx := .receiving { f with
      count := f.count + 1, crc := crcByte f.crc b
      syncBody := if h.kind = .sync then f.syncBody ++ [b] else f.syncBody } }
    (f.msg = none → exec (.dataSymbol b) s = .next { s with link := taken }) ∧
    (∀ m x, f.msg = some m → s.mover.segment m = some x → x.state = .discarding →
      ∃ t, exec (.dataSymbol b) s = .next t ∧ t = { s with
        link := taken, mover := { s.mover with segments := t.mover.segments } } ∧
        t.mover.segment m = some { x with due := x.due - 1 } ∧ t.mover.occupancy = s.mover.occupancy ∧
        ∀ k, k ≠ m → t.mover.segment k = s.mover.segment k)) ∧
  ∀ (s : State) (f : Frame) (b0 b1 b2 b3 b : Byte) (r : Request) (x : Segment), s.resetAsserted = false →
    s.cmd.node ≠ .halted → s.link.rx = .receiving f → (f.cls = some .addressed ∨ f.cls = some .broadcast) →
    f.header = [b0, b1, b2, b3] → b0 &&& 0x7F = 1 → 4 ≤ f.count → f.count < 4 + b3.toNat → f.msg = some r.msg →
    s.engine = some r → r.kind = .put → r.closed = false → s.mover.segment r.msg = some x → x.state ≠ .discarding →
    x.frameEnded = false →
    ∃ t y, exec (.dataSymbol b) s = .next t ∧
      t.link = { s.link with rx := .receiving { f with count := f.count + 1, crc := crcByte f.crc b } } ∧
      t.mover.segment r.msg = some y ∧ t.mem = s.mem ∧ t.cache = s.cache ∧ t.status = s.status ∧ t.retire = s.retire ∧
      t.writer = s.writer ∧
      (s.mover.occupancy < 256 → y = { x with held := x.held ++ [b], due := x.due - 1 } ∧ t.engine = s.engine ∧
        t.port = { s.port with store := s.port.storeLook t.mover.segments }) ∧
      (256 ≤ s.mover.occupancy →
        y = { x with state := .discarding, held := x.held.take ((s.port.carried r.msg).getD 0), due := x.due - 1 } ∧
        t.port.store ≠ some r.msg ∧
        (let withdrawn : Port := { s.port with store := if s.port.store = some r.msg then none else s.port.store }
        t.port = { withdrawn with store := withdrawn.storeLook t.mover.segments }) ∧
        ∃ r1, t.engine = some r1 ∧ r1.overflow = true ∧
          (r.verdict = .acceptNew → r1.phase = .awaitReady ∧
            r1.verdict = if r.broadcast then .dropped true else .busyOverflow) ∧
          (r.verdict ≠ .acceptNew → r1 = { r with overflow := true }))

/-- The closing flag of a frame of this node (R49, R50, R42): one before the fourth header byte (R47) and one at a wrong
length are frame errors, as is a data symbol past the expected length when it is taken, and then a wrong CRC is a CRC
error, each reported as R50 gives, and the receiver goes to IDLE; a good close of a PUT or GET (R48, R55), of a broadcast
that was dropped or ignored (R81) and of a NODE_RESET (R60) is served. That LINK_RESET carries CYCLE 0 and OFFSET 0 is
the model's reading (log 17). -/
def Obligations.ClosingFlagServed : Prop :=
  (∀ (s : State) (f : Frame), s.resetAsserted = false → s.cmd.node ≠ .halted → s.link.rx = .receiving f →
    (f.cls = some .addressed ∨ f.cls = some .broadcast) → ∀ c : Instr,
    (c = .closingFlag ∧ f.header.length < 4) ∨ (∃ h b, c = .dataSymbol b ∧ headerOf f.header = some h ∧
      4 + h.kind.bodyLength h.length + 2 ≤ f.count) → ∃ t, exec c s = .next t ∧
    t.link = { s.link with rx := .idle, frameErrors := t.link.frameErrors } ∧
    t.link.frameErrors.toNat = min 65535 (s.link.frameErrors.toNat + 1) ∧ t.mem = s.mem ∧ t.status = s.status ∧
    t.retire = s.retire ∧ s.FrameErrorReported f 2 t.link.frameErrors t.writer ∧
    (f.msg = none → t = { s with link := t.link, writer := t.writer }) ∧
    (∀ r, f.msg = some r.msg → s.engine = some r → t.engine = none)) ∧
  (∀ (s : State) (f : Frame) (h : RequestHeader), s.resetAsserted = false → s.cmd.node ≠ .halted →
    s.link.rx = .receiving f → (f.cls = some .addressed ∨ f.cls = some .broadcast) → headerOf f.header = some h →
    (f.count ≠ 4 + h.kind.bodyLength h.length + 2 → ∃ t, exec .closingFlag s = .next t ∧
      t.link = { s.link with rx := .idle, frameErrors := t.link.frameErrors } ∧
      t.link.frameErrors.toNat = min 65535 (s.link.frameErrors.toNat + 1) ∧ t.mem = s.mem ∧ t.status = s.status ∧
      t.retire = s.retire ∧ s.FrameErrorReported f 2 t.link.frameErrors t.writer ∧
      (∀ r, f.msg = some r.msg → s.engine = some r → t.engine = none)) ∧
    (f.count = 4 + h.kind.bodyLength h.length + 2 →
      f.crcBytes ≠ [f.crc.extractLsb' 0 8, f.crc.extractLsb' 8 8] → ∃ t, exec .closingFlag s = .next t ∧
      t.link = { s.link with rx := .idle, crcErrors := t.link.crcErrors } ∧
      t.link.crcErrors.toNat = min 65535 (s.link.crcErrors.toNat + 1) ∧ t.mem = s.mem ∧ t.status = s.status ∧
      t.retire = s.retire ∧ s.FrameErrorReported f 1 t.link.crcErrors t.writer ∧
      (∀ r, f.msg = some r.msg → s.engine = some r → t.engine = none))) ∧
  ∀ (s : State) (f : Frame) (h : RequestHeader), s.resetAsserted = false → s.cmd.node ≠ .halted →
    s.link.rx = .receiving f → headerOf f.header = some h → f.count = 4 + h.kind.bodyLength h.length + 2 →
    f.crcBytes = [f.crc.extractLsb' 0 8, f.crc.extractLsb' 8 8] →
    (∀ r, (h.kind = .put ∨ h.kind = .get) → f.cls = some .addressed → f.msg = some r.msg → s.engine = some r →
      r.broadcast = false → ∃ t, exec .closingFlag s = .next t ∧
        t.link = { s.link with rx := .replyWait ⟨.engine, h.seq, h.channel⟩ .closed } ∧
        t.engine = some { r with closed := true } ∧ t.mem = s.mem ∧ t.cache = s.cache ∧ t.status = s.status ∧
        t.retire = s.retire ∧ t.writer = s.writer) ∧
    (∀ r, h.kind = .put → f.cls = some .broadcast → f.msg = some r.msg → s.engine = some r → r.broadcast = true →
      ∃ t, exec .closingFlag s = .next t ∧ t.link = { s.link with rx := .idle } ∧ t.mem = s.mem ∧ t.status = s.status ∧
        t.retire = s.retire ∧
        (r.phase ≠ .awaitReady →
          t.engine = some { r with closed := true } ∧ t.cache = s.cache ∧ t.writer = s.writer) ∧
        (r.phase = .awaitReady → t.engine = none ∧
          (∀ e, r.verdict = .dropped true → r.entry = some e →
            t.context e = (s.context e).setErrCount ((s.context e).errCount + 1) ∧
            t.writer = if (s.context e).evError then s.writer.take ⟨.messageError, channelByte r.channel, 8, s.link.cycle,
              s.link.offset, r.length.setWidth 16, 0⟩ else s.writer) ∧
          (r.verdict ≠ .dropped true → t.writer = s.writer ∧ ∀ e : EntryIx, t.context e = s.context e))) ∧
    ((h.kind = .put ∨ h.kind = .get) → f.msg = none →
      (f.cls = some .addressed → exec .closingFlag s = .next { s with link := { s.link with
        rx := .replyWait ⟨.stoppingBusy, h.seq, h.channel⟩ .closed } }) ∧
      (f.cls = some .broadcast → exec .closingFlag s = .next { s with link := { s.link with rx := .idle } })) ∧
    (h.kind = .nodeReset → (f.cls = some .addressed ∨ f.cls = some .broadcast) → ∃ t, exec .closingFlag s = .next t ∧
      t.link.rx = (if f.cls = some .addressed then .replyWait ⟨.nodeReset, h.seq, h.channel⟩ .closed else .idle) ∧
      t = { s with
        link := { s.link with cycle := 0, offset := 0, rx := t.link.rx }
        status := t.status
        writer := if s.host.linkResetEnable then
          s.writer.take ⟨.linkReset, 0xFF, if f.cls = some .addressed then 1 else 2, 0, 0, 0, 0⟩ else s.writer } ∧
      ∀ n : Channel, t.record n = { s.record n with seqValid := false })

/-- A whole SYNC frame, symbol by symbol (R39 to R49, R57): the cycle number takes its body, low byte first, the offset
becomes 0, and nothing else changes. -/
def Obligations.SyncFrameLoadsCycle : Prop :=
  ∀ (s : State) (rest : List Instr) (seq : Bool) (channel lo hi : Byte), s.resetAsserted = false →
    s.cmd.node ≠ .halted → s.link.rx = .idle → s.host.nodeAddress ≠ 63 →
    let body : List Byte := [BitVec.ofBool seq ++ 0x03#7, 63, channel, 2, lo, hi]
    let symbols := [Instr.openingFlag] ++
      (body ++ [(crcOf body).extractLsb' 0 8, (crcOf body).extractLsb' 8 8]).map Instr.dataSymbol ++ [.closingFlag]
    Sys2Proof.core.run 10 { s with pending := symbols ++ rest } = .next { s with link := { s.link with cycle := hi ++ lo, offset := 0 }, pending := rest }

/-- A whole PROBE exchange, symbol by symbol (R39 to R49, R52 to R54, R56, R59): the STATUS reply that goes on the line,
after which only the symbols on the line have changed. The timer's points as commands are log 10, the symbols kept in
`lineOut` log 11. -/
def Obligations.ProbeIsAnswered : Prop :=
  ∀ (s : State) (rest : List Instr) (seq : Bool) (channel : Byte), s.resetAsserted = false →
    s.cmd.node ≠ .halted → s.link.rx = .idle → s.host.nodeAddress ≠ 63 →
    let request : List Byte := [BitVec.ofBool seq ++ 0x04#7, s.host.nodeAddress.setWidth 8, channel, 0]
    let commands := [Instr.openingFlag] ++
      (request ++ [(crcOf request).extractLsb' 0 8, (crcOf request).extractLsb' 8 8]).map Instr.dataSymbol ++
      [.closingFlag, .earliestStart, .replyStart, .replyEnd, .recoveryEnd]
    ∃ status : Byte,
      let reply : List Byte := [BitVec.ofBool seq ++ 0x03#7, s.host.nodeAddress.setWidth 8, channel, 2, status, 0]
      (status.getLsbD 0 = decide (s.cmd.node = .stopping)) ∧ (status.getLsbD 1 = s.host.serviceRequest) ∧
      (status.getLsbD 2 = s.writer.showsFull) ∧
      (status.getLsbD 3 = true ↔ ∃ n : Channel, (s.record n).hold = .faulted) ∧
      (status.getLsbD 4 = true ↔ ∃ n : Channel, (s.record n).hold = .holdWait ∨ (s.record n).hold = .held) ∧
      status.toNat < 32 ∧
      let sent := [LineSymbol.control 0x5A] ++
        (reply ++ [(crcOf reply).extractLsb' 0 8, (crcOf reply).extractLsb' 8 8]).map LineSymbol.data ++ [.control 0xA5]
      Sys2Proof.core.run 12 { s with pending := commands ++ rest } =
        .next { s with link := { s.link with lineOut := sent }, pending := rest }

/-! ### Replies -/

/-- EARLIEST_START and RECOVERY_END move the receiver (R52, R54), and CYCLE_OFFSET_TICK the offset, which holds in HALTED
and stays at 65535 (R58). The timer's points are log 10; that an event which is not due changes nothing is log 8. -/
def Obligations.TimersPass : Prop :=
  ∀ s : State, s.resetAsserted = false →
    (∀ o, s.link.rx = .replyWait o .closed →
      exec .earliestStart s = .next { s with link := { s.link with rx := .replyWait o .earliest } }) ∧
    ((∀ o, s.link.rx ≠ .replyWait o .closed) → exec .earliestStart s = .next s) ∧
    (s.link.rx = .recovery → exec .recoveryEnd s = .next { s with link := { s.link with rx := .idle } }) ∧
    (s.link.rx ≠ .recovery → exec .recoveryEnd s = .next s) ∧
    (s.cmd.node = .halted → exec .cycleOffsetTick s = .next s) ∧
    (s.cmd.node ≠ .halted → ∃ n : Half, n.toNat = min 65535 (s.link.offset.toNat + 1) ∧
      exec .cycleOffsetTick s = .next { s with link := { s.link with offset := n } })

/-- REPLY_READY (R69, Table 4-5): an addressed request that has closed good and whose conditions hold is declared ready;
otherwise nothing changes. -/
def Obligations.ReadinessDeclared : Prop :=
  ∀ (s : State) (r : Request), s.resetAsserted = false → s.engine = some r →
    let enough := min r.length.toNat 32 ≤ s.mover.stagedFor r.msg
    let room := s.retire.queue.length < 4
    let holds :=
      (∃ reason, r.verdict = .refuse reason) ∨ (∃ mark, r.verdict = .refuseFault mark) ∨ r.verdict = .busyHold ∨
      r.verdict = .busyOverflow ∨
      (r.verdict = .acceptNew ∧ r.kind = .put ∧ room ∧ r.overflow = false ∧ r.fault = .none) ∨
      (r.verdict = .acceptNew ∧ r.kind = .get ∧ room ∧ r.fault = .none ∧ enough) ∨
      (r.verdict = .acceptDuplicate ∧ r.kind = .put) ∨
      (r.verdict = .acceptDuplicate ∧ r.kind = .get ∧ r.fault = .none ∧ enough)
    (r.broadcast = false ∧ r.closed = true ∧ r.phase ≠ .replying ∧ holds →
      exec .replyReady s = .next { s with engine := some { r with ready := true } }) ∧
    (¬ (r.broadcast = false ∧ r.closed = true ∧ r.phase ≠ .replying ∧ holds) → exec .replyReady s = .next s)

/-- The commit of an accepted PUT at its reply start (R71, R20, R94, R141): the context and the channel's record advance,
its completion entry is entered at the tail, the request ends, and ACCEPT goes on the line. -/
def Obligations.PutCommits : Prop :=
  ∀ (s : State) (o : OwedReply) (r : Request) (e : EntryIx) (rg : Ranges), s.ReplyMayStart o r → r.verdict = .acceptNew →
    r.kind = .put → r.entry = some e → r.ranges = some rg →
    let d := s.context e
    let a := d.commit .put r.seq r.length rg (s.record r.channel).returned
    ∃ t c, exec .replyStart s = .next t ∧
      t = { s with
        engine := none
        link := { s.link with
          rx := .replying ⟨false, 0, 0, false⟩
          lineOut := replyHead 0x01 o.seq s.host.nodeAddress o.channel 0 }
        cache := s.cache.modify e fun x => { x with context := a.context, state := x.state.changed, inUse := false }
        status := modifyAt s.status r.channel fun x => { x with returned := a.returned, seqValid := true }
        retire := { s.retire with queue := s.retire.queue ++ [c] } } ∧
      s.EntersCompletion c r rg d a

/-- Replies that accept nothing (R65, R72, R73, R82, Table 4-6), and a duplicate PUT's (R78): the code on the line, the
count and the event each makes as it starts, after which the engine is IDLE. A BUSY or REFUSE(FAULT) of the hold state,
and one of a lookup fault or a lost context, has no entry and changes no context (R65, R66, R83). -/
def Obligations.RefusalsCountAndReport : Prop :=
  (∀ (s : State) (o : OwedReply) (r : Request), s.ReplyMayStart o r →
    ∀ p ∈ [(Verdict.busyHold, 0x02#7), (.busyOverflow, 0x02), (.refuse .noChannel, 0x11), (.refuse .direction, 0x12),
        (.refuse .length, 0x13), (.refuse .exhausted, 0x14), (.refuse .guard, 0x15), (.refuseFault .none, 0x16),
        (.refuseFault .storeFault, 0x16), (.refuseFault .fetchFault, 0x16)], r.verdict = p.1 →
      ∃ t, exec .replyStart s = .next t ∧ t.engine = none ∧ t.status = s.status ∧ t.retire = s.retire ∧ t.mem = s.mem ∧
        t.link = { s.link with
          rx := .replying ⟨false, 0, 0, false⟩, lineOut := replyHead p.2 o.seq s.host.nodeAddress o.channel 0 } ∧
        (r.entry = none → t.cache = s.cache ∧ t.writer = s.writer)) ∧
  ∀ (s : State) (o : OwedReply) (r : Request) (e : EntryIx), s.ReplyMayStart o r → r.entry = some e →
    let report (kind : EventKind) (detail : Byte) (aux : Word) (enable : Bool) :=
      if enable then s.writer.take ⟨kind, channelByte r.channel, detail, s.link.cycle, s.link.offset,
        r.length.setWidth 16, aux⟩ else s.writer
    let d := s.context e
    ∃ t, exec .replyStart s = .next t ∧
      (r.verdict = .busyHold ∨ r.verdict = .busyOverflow ∨ (∃ reason, r.verdict = .refuse reason) ∨
          (∃ mark, r.verdict = .refuseFault mark) →
        t.engine = none ∧ (t.cache.entry e).inUse = false ∧ ∀ g : EntryIx, g ≠ e → t.cache.entry g = s.cache.entry g) ∧
      (r.verdict = .busyOverflow → t.context e = d.setErrCount (d.errCount + 1) ∧
        t.writer = report .messageError 4 0 d.evError) ∧
      (r.verdict = .refuse .guard → t.context e = d.setErrCount (d.errCount + 1) ∧
        t.writer = report .messageError 2 0 d.evError) ∧
      (∀ p ∈ [(RefuseReason.noChannel, 1#8), (.direction, 2), (.length, 3), (.exhausted, 4)], r.verdict = .refuse p.1 →
        t.context e = d ∧ t.writer = report .refusal p.2 0 d.evRefusal) ∧
      (r.verdict = .refuseFault .storeFault → t.context e = d ∧
        t.writer = report .messageError 5 r.recordAddr d.evError) ∧
      (r.verdict = .refuseFault .fetchFault → t.context e = d ∧ t.writer = report .messageError 6 0 d.evError) ∧
      (r.verdict = .refuseFault .none ∨ r.verdict = .busyHold → t.context e = d ∧ t.writer = s.writer) ∧
      (r.verdict = .acceptDuplicate → r.kind = .put → t.context e = d.setDupCount (d.dupCount + 1) ∧
        t.writer = s.writer ∧ t.engine = none ∧ t.retire = s.retire ∧ t.status = s.status ∧
        t.link.lineOut = replyHead 0x01 o.seq s.host.nodeAddress o.channel 0)

/-- A GET answered ACCEPT (R74, R53, R76, R83, R134, R135): the reservation at the reply start, which a duplicate does
without (R78), a staged byte going out as it falls due, its room letting the next fetch burst go, and the abort when none
is staged, after a fetch fault, and when the context is lost, which counts nothing. With no data byte due nothing changes
(log 8). -/
def Obligations.GetReplySendsBytes : Prop :=
  (∀ (s : State) (o : OwedReply) (r : Request), s.ReplyMayStart o r → r.verdict = .acceptNew → r.kind = .get →
    ∃ t c, exec .replyStart s = .next t ∧
      t = { s with
        engine := some { r with phase := .replying }
        link := { s.link with
          rx := .replying ⟨true, r.length.toNat, 0, false⟩
          lineOut := replyHead 0x01 o.seq s.host.nodeAddress o.channel r.length }
        retire := { s.retire with queue := s.retire.queue ++ [c] } } ∧
      c.msg = r.msg ∧ c.channel = r.channel ∧ c.filled = false) ∧
  (∀ (s : State) (o : OwedReply) (r : Request), s.ReplyMayStart o r → r.verdict = .acceptDuplicate → r.kind = .get →
    exec .replyStart s = .next { s with
      engine := some { r with phase := .replying }
      link := { s.link with
        rx := .replying ⟨true, r.length.toNat, 0, false⟩
        lineOut := replyHead 0x01 o.seq s.host.nodeAddress o.channel r.length } }) ∧
  (∀ (s : State) (r : Request) (left sent : Nat), s.resetAsserted = false →
    s.link.rx = .replying ⟨true, left + 1, sent, false⟩ → s.engine = some r → r.lost = false → r.fault ≠ .fetchFault →
    (∀ t b rest, s.mover.staging = some t → t.msg = r.msg → t.held = b :: rest →
      ∃ u, exec .transmitByteDue s = .next u ∧
        u = { s with
          link := { s.link with rx := .replying ⟨true, left, sent + 1, false⟩, lineOut := s.link.lineOut ++ [.data b] }
          mover := { s.mover with staging := some { t with held := rest } }
          port := { s.port with fetch := s.port.fetchLook (some { t with held := rest }) } }) ∧
    (∀ e, r.entry = some e → r.kind = .get → (s.mover.staging = none ∨ ∃ t, s.mover.staging = some t ∧ t.held = []) →
      ∃ u, exec .transmitByteDue s = .next u ∧ u.engine = none ∧
        u.link = { s.link with rx := .replying ⟨true, left + 1, sent, true⟩, lineOut := s.link.lineOut ++ [.control 0x00] } ∧
        u.context e = (s.context e).setErrCount ((s.context e).errCount + 1) ∧ u.status = s.status ∧ u.mem = s.mem ∧
        u.retire = { s.retire with queue := s.retire.queue.filter fun x => x.filled || decide (x.msg ≠ r.msg) } ∧
        u.writer = (if (s.context e).evError then s.writer.take ⟨.messageError, channelByte r.channel, 3, s.link.cycle,
          s.link.offset, r.length.setWidth 16, BitVec.ofNat 32 sent⟩ else s.writer))) ∧
  (∀ (s : State) (r : Request) (left sent : Nat), s.resetAsserted = false →
    s.link.rx = .replying ⟨true, left + 1, sent, false⟩ → s.engine = some r → r.kind = .get →
    let aborted (u : State) : Prop := u.engine = none ∧
      u.link = { s.link with rx := .replying ⟨true, left + 1, sent, true⟩, lineOut := s.link.lineOut ++ [.control 0x00] } ∧
      u.status = s.status ∧ u.mem = s.mem ∧ (∀ t, u.mover.staging = some t → t.msg ≠ r.msg) ∧
      u.retire = { s.retire with queue := s.retire.queue.filter fun x => x.filled || decide (x.msg ≠ r.msg) }
    (∀ e, r.lost = false → r.fault = .fetchFault → r.entry = some e →
      ∃ u, exec .transmitByteDue s = .next u ∧ aborted u ∧
        u.context e = (s.context e).setErrCount ((s.context e).errCount + 1) ∧
        u.writer = (if (s.context e).evError then s.writer.take ⟨.messageError, channelByte r.channel, 6, s.link.cycle,
          s.link.offset, r.length.setWidth 16, BitVec.ofNat 32 sent⟩ else s.writer)) ∧
    (r.lost = true → ∃ u, exec .transmitByteDue s = .next u ∧ aborted u ∧ u.writer = s.writer ∧
      ∀ e : EntryIx, u.context e = s.context e ∧ (u.cache.entry e).state = (s.cache.entry e).state)) ∧
  ∀ s : State, s.resetAsserted = false →
    (∀ tx, s.link.rx = .replying tx → tx.data = false ∨ tx.aborted = true ∨ tx.left = 0) →
    exec .transmitByteDue s = .next s

/-- The end of a reply (R41, R42, R53, R54): a reply without data bytes, a BUSY, a REFUSE, a STATUS or an ACCEPT of a PUT or
NODE_RESET, ends with its CRC and closing flag, an aborted one with neither, and the receiver enters RECOVERY; nothing else
changes, and while a data byte is still due, or with no reply on the line, nothing does (log 8). The closing flag of a
GET's ACCEPT (R75, R78) brings the completion of a new message in its reserved entry, or the count of a duplicate. With the context lost (R83) the abort symbol goes out in place of a CRC
byte or of the flag, which of them left open (log 12), and nothing is counted. -/
def Obligations.ReplyEndsAndGetCompletes : Prop :=
  (∀ s : State, s.resetAsserted = false → ((∀ tx, s.link.rx ≠ .replying tx) → exec .replyEnd s = .next s) ∧
    ∀ tx, s.link.rx = .replying tx →
      (tx.aborted = true → exec .replyEnd s = .next { s with link := { s.link with rx := .recovery } }) ∧
      (tx.aborted = false → tx.data = false → exec .replyEnd s = .next { s with link := { s.link with
        rx := .recovery, lineOut := s.link.lineOut ++
          (crcBytesOf (crcOf (lineBytes s.link.lineOut))).map LineSymbol.data ++ [.control 0xA5] } }) ∧
      (tx.aborted = false → tx.data = true → tx.left ≠ 0 → exec .replyEnd s = .next s)) ∧
  (∀ (s : State) (r : Request) (sent : Nat), s.resetAsserted = false → s.link.rx = .replying ⟨true, 0, sent, false⟩ →
    s.engine = some r → r.lost = true →
    ∃ t k, exec .replyEnd s = .next t ∧ k ≤ 2 ∧ t.engine = none ∧ t.mem = s.mem ∧ t.writer = s.writer ∧
      t.status = s.status ∧
      t.link = { s.link with rx := .recovery, lineOut := s.link.lineOut ++
        ((crcBytesOf (crcOf (lineBytes s.link.lineOut))).take k).map LineSymbol.data ++ [.control 0x00] } ∧
      t.retire = { s.retire with queue := s.retire.queue.filter fun x => x.filled || decide (x.msg ≠ r.msg) } ∧
      ∀ e : EntryIx, t.context e = s.context e ∧ (t.cache.entry e).state = (s.cache.entry e).state) ∧
  ∀ (s : State) (r : Request) (sent : Nat) (e : EntryIx), s.resetAsserted = false →
    s.link.rx = .replying ⟨true, 0, sent, false⟩ → s.engine = some r → r.lost = false → r.kind = .get →
    r.entry = some e →
    ∃ t, exec .replyEnd s = .next t ∧ t.engine = none ∧ t.mem = s.mem ∧ t.writer = s.writer ∧
      t.link = { s.link with rx := .recovery, lineOut := s.link.lineOut ++
        (crcBytesOf (crcOf (lineBytes s.link.lineOut))).map LineSymbol.data ++ [.control 0xA5] } ∧
      (∀ rg, r.verdict = .acceptNew → r.ranges = some rg →
        let a := (s.context e).commit .get r.seq r.length rg (s.record r.channel).returned
        t.context e = a.context ∧
        (∀ n : Channel, t.record n = if n = r.channel then { s.record n with returned := a.returned, seqValid := true }
          else s.record n) ∧
        ∃ c : Completion, s.EntersCompletion c r rg (s.context e) a ∧ c.storesPending = false ∧
          t.retire.step = s.retire.step ∧ t.retire.queue = s.retire.queue.map fun x => if x.msg = r.msg ∧ x.filled = false then c else x) ∧
      (r.verdict = .acceptDuplicate →
        t.context e = (s.context e).setDupCount ((s.context e).dupCount + 1) ∧ t.status = s.status ∧
        t.retire = s.retire)

/-- COMMIT_EXPIRY (R52, R70, R64): a request that is not ready is closed and answered BUSY with nothing counted; a ready
one is left. -/
def Obligations.ExpiryAnswersBusy : Prop :=
  ∀ (s : State) (o : OwedReply) (r : Request), s.resetAsserted = false → s.link.rx = .replyWait o .earliest →
    o.source = .engine → s.engine = some r →
    (r.ready = true → exec .commitExpiry s = .next s) ∧
    (r.ready = false → ∃ t, exec .commitExpiry s = .next t ∧ t.engine = none ∧
      t.link = { s.link with
        rx := .replying ⟨false, 0, 0, false⟩, lineOut := replyHead 0x02 o.seq s.host.nodeAddress o.channel 0 } ∧
      t.writer = s.writer ∧ t.status = s.status ∧ t.retire = s.retire ∧ t.mem = s.mem ∧
      (∀ e : EntryIx, t.context e = s.context e ∧ (t.cache.entry e).state = (s.cache.entry e).state))

/-- BROADCAST_COMMIT (R80, R71): a broadcast PUT that is ready commits as an addressed one does, with BCAST set and no
reply; one that is not ready waits. One still in progress when the next header is handed over is dropped (R80, R81): it
counts and is reported once it was admitted, not while its lookup waited (log 18), and the header is then taken as by an
IDLE engine. -/
def Obligations.BroadcastCommits : Prop :=
  (∀ (s : State) (f : Frame) (b0 b1 b2 len : Byte) (r : Request), s.AtFourthByte f b0 b1 b2 →
    s.cmd.node = .running → b2.toNat ≤ 63 →
    (b0 &&& 0x7F = 1 ∨ b0 &&& 0x7F = 2 ∧ f.cls = some .addressed) → s.engine = some r → r.broadcast = true →
    r.kind = .put →
    ∃ u, exec (.dataSymbol len) s = exec (.dataSymbol len) u ∧ u.engine = none ∧ u.link = s.link ∧ u.cmd = s.cmd ∧
      u.host = s.host ∧ u.status = s.status ∧ u.retire = s.retire ∧ u.mem = s.mem ∧ u.nextMsg = s.nextMsg ∧
      (∀ x ∈ s.mover.segments, x.msg ≠ r.msg → x.stays (s.port.carried x.msg).isSome = true → x ∈ u.mover.segments) ∧
      (∀ e, r.verdict = .acceptNew → r.entry = some e →
        u.cache = s.cache.modify e (fun x => { x with
          context := x.context.setErrCount (x.context.errCount + 1), state := x.state.changed, inUse := false }) ∧
        u.writer = if (s.context e).evError then s.writer.take ⟨.messageError, channelByte r.channel, 8, s.link.cycle,
          s.link.offset, r.length.setWidth 16, 0⟩ else s.writer) ∧
      (r.phase = .lookup → r.verdict = .undecided → r.entry = none → u.cache = s.cache ∧ u.writer = s.writer)) ∧
  ∀ (s : State) (r : Request) (e : EntryIx) (rg : Ranges), s.resetAsserted = false → s.engine = some r →
    r.broadcast = true → r.kind = .put → r.verdict = .acceptNew → r.entry = some e → r.ranges = some rg →
    let a := (s.context e).commit .put r.seq r.length rg (s.record r.channel).returned
    (r.closed = true ∧ s.retire.queue.length < 4 ∧ r.overflow = false ∧ r.fault = .none →
      ∃ t c, exec .broadcastCommit s = .next t ∧
        t = { s with
          engine := none
          cache := s.cache.modify e fun x => { x with context := a.context, state := x.state.changed, inUse := false }
          status := modifyAt s.status r.channel fun x => { x with returned := a.returned, seqValid := true }
          retire := { s.retire with queue := s.retire.queue ++ [c] } } ∧
        s.EntersCompletion c r rg (s.context e) a ∧ c.fields.bcast = true) ∧
    (¬ (r.closed = true ∧ s.retire.queue.length < 4 ∧ r.overflow = false ∧ r.fault = .none) →
      exec .broadcastCommit s = .next s)

/-- The advance of a commit in each scheme (R20, R10, R25, R26, R29, R32, R33, R34): the fields it changes, in the words
they lie in; every other bit of the descriptor stays. -/
def Obligations.SchemesAdvance : Prop :=
  ∀ (d : Descriptor) (kind : MsgKind) (seq returned : Bool) (len : Byte) (rg : Ranges),
    let a := d.commit kind seq len rg returned
    let c := a.context
    c.lastSeq = seq ∧ c.msgCount = d.msgCount + 1 ∧ c.errCount = d.errCount ∧ c.dupCount = d.dupCount ∧ c.w0 = d.w0 ∧
    c.w1 = d.w1 ∧ c.w2 = d.w2 ∧ c.w7 = d.w7 ∧ c.w6.extractLsb' 2 6 = d.w6.extractLsb' 2 6 ∧
    (d.mode = .counted → c.cursor = d.cursor + BitVec.ofNat 32 (8 + (len.toNat + 3) / 4 * 4) ∧ c.quota = d.quota - 1 ∧
      (a.milestone = if d.quota = 1 then some .quotaZero else none) ∧ a.returned = returned ∧ c.active = d.active ∧
      c.w5.extractLsb' 16 16 = d.w5.extractLsb' 16 16 ∧
      (kind = .get → c.prev = rg.record ∧ c.prevLen = len) ∧ (kind = .put → c.prev = d.prev ∧ c.prevLen = d.prevLen)) ∧
    (d.mode = .alternate → c.cursor = d.cursor ∧ c.w4 = d.w4 ∧ c.w5 = d.w5 ∧
      (kind = .put → c.prevLen = d.prevLen ∧ a.returned = false ∧ c.active = (d.active ^^ returned) ∧
        a.milestone = some (if returned then .swap else .overwrite)) ∧
      (kind = .get → c.prevLen = len ∧ a.returned = returned ∧ c.active = d.active ∧ a.milestone = none)) ∧
    (d.mode = .ring → c.w4 = d.w4 ∧ c.prevLen = d.prevLen ∧ c.active = d.active ∧ a.returned = returned ∧
      c.w5.extractLsb' 9 23 = d.w5.extractLsb' 9 23 ∧
      c.cursor = (let next := rg.data + BitVec.ofNat 32 ((len.toNat + 3) / 4 * 4)
        if next = d.addrB then d.addrA else next) ∧
      (d.recIdx = d.recCountLess1 → c.recIdx = 0 ∧ c.gen = !d.gen ∧ a.milestone = some .ringWrap) ∧
      (d.recIdx ≠ d.recCountLess1 → c.recIdx = d.recIdx + 1 ∧ c.gen = d.gen ∧ a.milestone = none))

/-! ### The cache, the master port and the data mover -/

/-- FILL_TAKES_ENTRY (R89, R90, R91): the first pending fill whose channel is not being cast out takes the oldest INVALID
entry, or else the oldest eligible one, which is cast out first when it is DIRTY. The burst that becomes due, a linefill
or the victim's castout, is at TABLE_BASE + 32 n of the channel it is for (R1, R92, R96); an entry that begins to fill is
no member of PURGE's second set any more (R103). -/
def Obligations.FillTakesOldestEntry : Prop :=
  ∀ (s : State) (before after : List Channel) (n : Channel), s.resetAsserted = false →
    s.cache.fills = before ++ n :: after → s.cache.fills.Nodup →
    (∀ m ∈ before, ∃ e, s.cache.find m = some e ∧ (s.cache.entry e).state = .evicting) →
    (∀ e, s.cache.find n = some e → (s.cache.entry e).state ≠ .evicting) →
    (∃ e : EntryIx, (s.cache.entry e).state = .invalid ∨
      (s.cache.entry e).eligible (s.record (s.cache.entry e).tag).pinned = true) →
    ∃ e t, exec .fillTakesEntry s = .next t ∧
      ((∃ f : EntryIx, (s.cache.entry f).state = .invalid) → (s.cache.entry e).state = .invalid ∧
        ∀ f : EntryIx, (s.cache.entry f).state = .invalid → (s.cache.entry f).age ≤ (s.cache.entry e).age) ∧
      ((∀ f : EntryIx, (s.cache.entry f).state ≠ .invalid) →
        ((s.cache.entry e).state = .clean ∨ (s.cache.entry e).state = .dirty) ∧ (s.cache.entry e).inUse = false ∧
        (s.record (s.cache.entry e).tag).pinned = false ∧
        ∀ f : EntryIx, (s.cache.entry f).eligible (s.record (s.cache.entry f).tag).pinned = true →
          (s.cache.entry f).age ≤ (s.cache.entry e).age) ∧
      t.cache.fills = before ++ after ∧ t.mem = s.mem ∧ t.status = s.status ∧
      (∀ f : EntryIx, f ≠ e → (t.cache.entry f).state = (s.cache.entry f).state ∧
        (t.cache.entry f).tag = (s.cache.entry f).tag ∧ t.context f = s.context f) ∧
      ((s.cache.entry e).state = .dirty → t.cache.entry e = { s.cache.entry e with
        state := .evicting, snapshot := s.context e, next := some n }) ∧
      ((s.cache.entry e).state ≠ .dirty → (t.cache.entry e).tag = n ∧ (t.cache.entry e).state = .filling) ∧
      (s.CachePortFree → t.cache.due = [] ∧
        t.port = { s.port with cache := some (if (s.cache.entry e).state = .dirty then
          s.writeOf (.cache (.eviction e)) (s.cache.entry e).tag (s.context e) else s.linefillOf e n) }) ∧
      (s.port.cache ≠ none ∨ (∃ b x, s.port.inFlight = some b ∧ b.kind = .cache x) → t.port = s.port ∧
        t.cache.due = s.cache.due ++ [if (s.cache.entry e).state = .dirty then .eviction e else .linefill e]) ∧
      (∀ j k f, s.cmd.work = .purge j k f → (s.cache.entry e).state ≠ .dirty →
        t.cmd = { s.cmd with work := .purge j { k with members := k.members.filter fun m => decide (m.1 ≠ e) } f }) ∧
      ((∀ j k f, s.cmd.work ≠ .purge j k f) ∨ (s.cache.entry e).state = .dirty → t.cmd = s.cmd)

/-- BURST_GRANT (R125, Table 7-2): with no burst in flight the waiting request of highest priority flies; with one in
flight, or none waiting, nothing changes. The words of a store are the segment's at the grant (R130): its first
bytes up to the end of the block, whole words while more are due, each byte enabled at its place and no other. -/
def Obligations.GrantByPriority : Prop :=
  ∀ s : State, s.resetAsserted = false →
    (∀ b, s.port.inFlight = some b → exec .burstGrant s = .next s) ∧
    (s.port.inFlight = none →
      (∀ b, s.port.fetch = some b →
        exec .burstGrant s = .next { s with port := { s.port with fetch := none, inFlight := some b } }) ∧
      (∀ b, s.port.fetch = none → s.port.cache = some b →
        exec .burstGrant s = .next { s with port := { s.port with cache := none, inFlight := some b } }) ∧
      (∀ m x, s.port.fetch = none → s.port.cache = none → s.port.store = some m → s.mover.segment m = some x →
        ∃ b : Burst, exec .burstGrant s = .next { s with port := { s.port with store := none, inFlight := some b } } ∧
          b.addr = x.next ∧ b.words = b.data.length ∧
          (let room := 32 - x.next.toNat % 32
            let k := if x.due = 0 then min x.held.length room else min (x.held.length / 4 * 4) room
            b.kind = .store m k ∧ b.words = (k + 3) / 4 ∧
            ∀ j w, b.data[j / 4]? = some w →
              (j < k → some (w.value.extractLsb' (8 * (j % 4)) 8) = x.held[j]? ∧ w.enables.getLsbD (j % 4) = true) ∧
              (k ≤ j → w.enables.getLsbD (j % 4) = false)) ∧
          (4 ≤ x.held.length ∨ x.due = 0 → x.held ≠ [] → x.next.toNat % 4 = 0 → 1 ≤ b.words ∧ b.words ≤ 8 ∧
            x.next.toNat / 32 = (x.next.toNat + 4 * b.words - 1) / 32)) ∧
      (∀ b, s.port.fetch = none → s.port.cache = none → s.port.store = none → s.port.retire = some b →
        exec .burstGrant s = .next { s with port := { s.port with retire := none, inFlight := some b } }) ∧
      (∀ b, s.port.fetch = none → s.port.cache = none → s.port.store = none → s.port.retire = none →
        s.port.writer = some b →
        exec .burstGrant s = .next { s with port := { s.port with writer := none, inFlight := some b } }) ∧
      (s.port.fetch = none → s.port.cache = none → s.port.store = none → s.port.retire = none → s.port.writer = none →
        exec .burstGrant s = .next s))

/-- LINEFILL_END (R92, R93, R114, R15): a valid descriptor becomes the context of a CLEAN entry of age 0; a bus error or
an invalid descriptor leaves it INVALID and reports the channel's fault. The sub-code is the first condition of Table 1-5
that holds (R14, R15, R16), spelled out on the words. That the host's writes come with the completion, before the read, is
the model's choice (log 7); the engine is IDLE here, and a request in progress is LinefillAnswersLookup's. With any engine
the cache's next due burst is presented as the linefill ends (R96). -/
def Obligations.LinefillEndsOrFaults : Prop :=
  (∀ d : Descriptor,
    let mode := d.w0.extractLsb' 0 2
    let maxLen := (d.w0.extractLsb' 16 8).toNat
    d.subCode = if mode = 0 then 0
      else if d.w0 &&& 0xFF00F0C0#32 ≠ 0 ∨ d.w5 &&& 0xFF000000#32 ≠ 0 ∨ d.w6 &&& 0xFC#32 ≠ 0 then 1
      else if d.w0.extractLsb' 3 2 = 3 then 2
      else if maxLen = 0 ∨ 128 < maxLen then 3
      else if mode = 3 ∧ d.w0.getLsbD 2 = true then 4
      else if d.w1.toNat % 4 ≠ 0 ∨ d.w2.toNat % 4 ≠ 0 ∨ d.w3.toNat % 4 ≠ 0 ∨ mode = 3 ∧ d.w4.toNat % 8 ≠ 0 then 5
      else if mode = 3 ∧ (d.w2.toNat ≤ d.w1.toNat ∨ d.w2.toNat - d.w1.toNat < (maxLen + 3) / 4 * 4) then 6
      else if mode = 3 ∧ (d.w3.toNat < d.w1.toNat ∨ d.w2.toNat ≤ d.w3.toNat) then 7
      else if mode = 3 ∧ (d.w5.extractLsb' 16 8).toNat < (d.w5.extractLsb' 0 8).toNat then 8
      else 0) ∧
  (∀ (m : Memory) (a : Addr) (k : Fin 8) (j : Fin 4), (Descriptor.readFrom m a).toWords[k.val]?.map
    (fun w => w.extractLsb' (8 * j.val) 8) = some (Memory.readByte m (a + BitVec.ofNat 32 (4 * k.val + j.val)))) ∧
  (∀ (s : State) (b : Burst) (e : EntryIx) (end_ : ReadEnd), s.resetAsserted = false → s.port.inFlight = some b →
    b.kind = .cache (.linefill e) → (s.cache.entry e).state = .filling →
    ∃ t, exec (.linefillEnd end_) s = .next t ∧ s.CacheTurn t s.cache.due fun g => (s.cache.entry g).tag) ∧
  ∀ (s : State) (b : Burst) (e : EntryIx) (n : Channel), s.resetAsserted = false → s.port.inFlight = some b →
    b.kind = .cache (.linefill e) → (s.cache.entry e).state = .filling → (s.cache.entry e).tag = n → s.engine = none →
    (∀ ws, (Descriptor.readFrom (Memory.hostWrites s.mem ws) b.addr).subCode = 0 →
      ∃ t, exec (.linefillEnd (.completion ws)) s = .next t ∧ t.mem = Memory.hostWrites s.mem ws ∧
        t.port.inFlight = none ∧ t.status = s.status ∧ t.writer = s.writer ∧
        t.context e = Descriptor.readFrom t.mem b.addr ∧ (t.cache.entry e).state = .clean ∧
        (t.cache.entry e).tag = n ∧ (t.cache.entry e).age = 0 ∧
        ∀ f : EntryIx, f ≠ e → t.context f = s.context f ∧ (t.cache.entry f).state = (s.cache.entry f).state) ∧
    (∀ end_ reason sub,
      (end_ = .busError ∧ reason = .linefillFault ∧ sub = 0#4) ∨
      (∃ ws, end_ = .completion ws ∧ reason = .badDescriptor ∧ sub ≠ 0 ∧
        sub = (Descriptor.readFrom (Memory.hostWrites s.mem ws) b.addr).subCode) →
      ∃ t, exec (.linefillEnd end_) s = .next t ∧ t.port.inFlight = none ∧ (t.cache.entry e).state = .invalid ∧
        (t.cache.entry e).age = 15 ∧ n ∉ t.cache.fills ∧
        t.writer = s.writer.take ⟨.channelFault, channelByte n, reason.code, s.link.cycle, s.link.offset,
          sub.setWidth 16, s.host.tableBase + BitVec.ofNat 32 (32 * n.val)⟩ ∧
        ((s.record n).hold = .free → t.record n = { s.record n with
          hold := .faulted, reason := reason, subCode := sub, seqValid := false }) ∧
        ((s.record n).hold = .holdWait → (s.record n).reason = .none →
          t.record n = { s.record n with reason := reason, subCode := sub }) ∧
        ∀ m : Channel, m ≠ n → t.record m = s.record m)

/-- A lookup that waits for a linefill is answered as it ends (R92, R66, R79): with the context, on which the request is
then decided (AdmissionOrder), or with a fault, a bus error or an invalid descriptor, which refuses an addressed request
and drops a broadcast uncounted. That the host's writes come with the completion, before the read, is the model's choice
(log 7). -/
def Obligations.LinefillAnswersLookup : Prop :=
  ∀ (s : State) (b : Burst) (e : EntryIx) (n : Channel) (r : Request), s.resetAsserted = false →
    s.port.inFlight = some b → b.kind = .cache (.linefill e) → (s.cache.entry e).state = .filling →
    (s.cache.entry e).tag = n → s.engine = some r → r.channel = n → r.phase = .lookup →
    (∀ ws, let d := Descriptor.readFrom (Memory.hostWrites s.mem ws) b.addr
      d.subCode = 0 → ∃ t, exec (.linefillEnd (.completion ws)) s = .next t ∧ t.mem = Memory.hostWrites s.mem ws ∧
        (t.cache.entry e).inUse = decide (t.engine ≠ none) ∧
        (match d.decideRequest r.broadcast r.kind r.seq r.length (s.record n).seqValid s.mover.guards with
          | .ignore => t.Concluded r (some e) .ignored ∧ t.context e = d ∧ t.writer = s.writer
          | .refuse reason => t.Concluded r (some e) (if r.broadcast then .dropped true else .refuse reason)
          | .duplicate =>
            t.engine = some { r with entry := some e, phase := .admitted, verdict := .acceptDuplicate } ∧ t.context e = d
          | .accept =>
            (r.kind = .put → r.overflow = true →
              t.Concluded r (some e) (if r.broadcast then .dropped true else .busyOverflow)) ∧
            (r.kind = .get ∨ r.overflow = false → t.engine = some { r with
              entry := some e, phase := .admitted, verdict := .acceptNew,
              ranges := some ((t.context e).newRanges r.length.toNat) }))) ∧
    (∀ end_, end_ = .busError ∨ (∃ ws, end_ = .completion ws ∧
        (Descriptor.readFrom (Memory.hostWrites s.mem ws) b.addr).subCode ≠ 0) →
      ∃ t, exec (.linefillEnd end_) s = .next t ∧
        (r.entry = none → t.Concluded r none (if r.broadcast then .dropped false else .refuseFault .none)) ∧
        (t.cache.entry e).state = .invalid ∧ (end_ = .busError → t.mem = s.mem))

/-- EVICTION_CASTOUT_END (R91) and INVALIDATION_CASTOUT_END (R104): on completion host memory holds the burst's words;
either way the entry goes on to its new tag, whose linefill becomes due, and is no member of PURGE's second set any more
(R103), or becomes INVALID, which ends the castout that PURGE waits for; the burst that became due first is presented
(R96). A bus error reports CASTOUT_FAULT with its
CHANNEL_FAULT event (R93, R114), answers a lookup that waits for the channel with a fault (R88), and counts for the member
of FLUSH or PURGE that the entry was (log 15) and for STOP (R169). A head that waits in its descriptor step looks again
(R97). -/
def Obligations.CastoutsEnd : Prop :=
  ∀ (s : State) (b : Burst) (e : EntryIx) (result : WriteEnd), s.resetAsserted = false → s.port.inFlight = some b →
    (s.cache.entry e).state = .evicting →
    let n := (s.cache.entry e).tag
    let faulted := decide (result = .busError)
    let hits (j : CastJob) : Bool := faulted && decide ((e, n) ∈ j.members)
    let w := if faulted then s.writer.take (s.castoutFaultEvent n) else s.writer
    let ends (t : State) : Prop :=
      t.port.inFlight = none ∧ (∀ a : Addr, b.Misses a → Memory.readByte t.mem a = Memory.readByte s.mem a) ∧
      (∀ f : EntryIx, f ≠ e → t.context f = s.context f) ∧
      (s.retire.step ≠ .descriptorWait → t.retire = s.retire ∧ t.writer = w) ∧
      (s.cache.ResidencyLaw → s.HeadLooksAgain t w (s.cache.foundAfter e none)) ∧
      (result = .completion → t.mem = Memory.writeWords s.mem b.addr b.data ∧ t.status = s.status ∧
        t.engine = s.engine) ∧
      (result = .busError → s.CastoutFaultNoted t n ∧
        (∀ r, s.engine = some r → r.entry = none → r.channel = n → r.phase = .lookup →
          t.Concluded r none (if r.broadcast then .dropped false else .refuseFault .none)) ∧
        ((∀ r, s.engine = some r → r.entry ≠ some e ∧ (r.channel ≠ n ∨ r.phase ≠ .lookup)) → t.engine = s.engine))
    (∀ m, b.kind = .cache (.eviction e) → (s.cache.entry e).next = some m →
      ∃ t, exec (.evictionCastoutEnd result) s = .next t ∧ ends t ∧ (t.cache.entry e).tag = m ∧
        (t.cache.entry e).state = .filling ∧ (t.cache.entry e).next = none ∧
        (s.CacheTurn t (s.cache.due ++ [.linefill e]) fun g => if g = e then m else (s.cache.entry g).tag) ∧
        t.cmd = { s.cmd with work := match s.cmd.work with
          | .flush j f => .flush j (f || hits j)
          | .purge j k f => .purge j { k with members := k.members.filter fun x => decide (x.1 ≠ e) }
              (f || hits j || hits k)
          | .stop step f => .stop step (f || faulted)
          | work => work }) ∧
    (b.kind = .cache (.invalidation e) →
      ∃ t, exec (.invalidationCastoutEnd result) s = .next t ∧ ends t ∧ (t.cache.entry e).state = .invalid ∧
        (t.cache.entry e).age = 15 ∧ t.cmd = { s.cmd with work := s.cmd.work.afterEnd e n faulted } ∧
        s.CacheTurn t s.cache.due fun g => (s.cache.entry g).tag)

/-- WRITE_END (R95, R98): WRITING becomes CLEAN and WRITING_DIRTY becomes DIRTY with the snapshot in memory; a bus error
leaves the entry INVALID and faults the channel with its CHANNEL_FAULT event (R93, R114), and a request that worked on it
is refused, dropped uncounted or has its reply's context lost (R83). The end of a FLUSH castout lets a head that waits in
its descriptor step look again (R97) and the cache's next due burst go (R96), and the retire unit's own write-through
releases the head (R145). Either ends the
castout that FLUSH or PURGE waits for, and a bus error counts for the member that the entry was (R102, R103; log 15). -/
def Obligations.WriteEndSettlesEntry : Prop :=
  ∀ (s : State) (b : Burst) (e : EntryIx), s.resetAsserted = false → s.port.inFlight = some b →
    ((s.cache.entry e).state = .writing ∨ (s.cache.entry e).state = .writingDirty) →
    b.kind = .cache (.flushCastout e) ∨ b.kind = .writeThrough e →
    let n := (s.cache.entry e).tag
    let after : EntryState := if (s.cache.entry e).state = .writing then .clean else .dirty
    let fault := s.writer.take (s.castoutFaultEvent n)
    let headGoes (t : State) (w : Writer) : Prop := t.retire = { s.retire with
        queue := s.retire.queue.tail, step := if s.retire.queue = [] then s.retire.step else .stores } ∧
      (s.retire.queue = [] → t.writer = w) ∧ ∀ c, s.retire.queue.head? = some c → t.writer = w.takeAll c.events
    (∃ t, exec (.writeEnd .completion) s = .next t ∧ t.mem = Memory.writeWords s.mem b.addr b.data ∧
      t.port.inFlight = none ∧ t.context e = s.context e ∧ t.status = s.status ∧ t.engine = s.engine ∧
      t.cmd = { s.cmd with work := s.cmd.work.afterEnd e n false } ∧
      (b.kind = .writeThrough e → (t.cache.entry e).state = after ∧ headGoes t s.writer ∧
        t.port.cache = s.port.cache ∧ t.cache.due = s.cache.due) ∧
      (b.kind = .cache (.flushCastout e) →
        s.CacheTurn t s.cache.due (fun g => (s.cache.entry g).tag) ∧
        (s.retire.step ≠ .descriptorWait → (t.cache.entry e).state = after ∧ t.writer = s.writer ∧ t.retire = s.retire) ∧
        (s.cache.ResidencyLaw → s.HeadLooksAgain t s.writer (s.cache.foundAfter e (some after)) ∧
          (after = .clean ∨ (∀ c, s.retire.queue.head? = some c → c.channel ≠ n) →
            (t.cache.entry e).state = after)))) ∧
    (∃ t, exec (.writeEnd .busError) s = .next t ∧ (t.cache.entry e).state = .invalid ∧ t.port.inFlight = none ∧
      s.CastoutFaultNoted t n ∧ t.cmd = { s.cmd with work := s.cmd.work.afterEnd e n true } ∧
      (b.kind = .writeThrough e → headGoes t fault ∧ t.port.cache = s.port.cache ∧ t.cache.due = s.cache.due) ∧
      (b.kind = .cache (.flushCastout e) → s.CacheTurn t s.cache.due (fun g => (s.cache.entry g).tag) ∧
        (s.retire.step ≠ .descriptorWait → t.retire = s.retire ∧ t.writer = fault) ∧
        (s.cache.ResidencyLaw → s.HeadLooksAgain t fault (s.cache.foundAfter e none))) ∧
      (∀ r, s.engine = some r → r.entry = some e → r.phase ≠ .lookup →
        (r.phase ≠ .replying → t.Concluded r none (if r.broadcast then .dropped false else .refuseFault .none)) ∧
        (r.phase = .replying → t.engine = some { r with entry := none, lost := true })) ∧
      (∀ r, s.engine = some r → r.entry = none → r.channel = n → r.phase = .lookup →
        t.Concluded r none (if r.broadcast then .dropped false else .refuseFault .none)) ∧
      ((∀ r, s.engine = some r → r.entry ≠ some e ∧ (r.channel ≠ n ∨ r.phase ≠ .lookup)) → t.engine = s.engine) ∧
      (∀ a : Addr, b.Misses a → Memory.readByte t.mem a = Memory.readByte s.mem a))

/-- A store burst granted for a segment and completed (R123, R130, R131, R142, R174): each byte it carries lies in host
memory at its place in the data range, every other byte of memory stays, the bytes leave the segment, and the last of a
message clears its entry's stores-pending mark. The store client then looks again at the oldest STORING segment. -/
def Obligations.StoredBytesReachMemory : Prop :=
  ∀ (s : State) (x : Segment), s.resetAsserted = false → s.MemoryLaw →
    s.mover.segment x.msg = some x → (∀ y ∈ s.mover.segments, y.msg = x.msg → y = x) → x.state = .storing →
    s.port.inFlight = some x.burst →
    let ended : Port := { s.port with inFlight := none }
    ∃ t, exec (.storeBurstEnd .completion) s = .next t ∧
      t.port = { ended with store := ended.storeLook t.mover.segments } ∧
      (∀ k < x.burstBytes, some (Memory.readByte t.mem (x.next + BitVec.ofNat 32 k)) = x.held[k]?) ∧
      (∀ a : Addr, x.burstBytes ≤ (a - x.next).toNat → Memory.readByte t.mem a = Memory.readByte s.mem a) ∧
      t.cache = s.cache ∧ t.status = s.status ∧ t.writer = s.writer ∧ t.engine = s.engine ∧
      (x.held.length ≤ x.burstBytes → x.due = 0 → t.mover.segment x.msg = none ∧
        t.retire = { s.retire with queue := s.retire.queue.map fun c =>
          if c.msg = x.msg ∧ c.storesPending = true then { c with storesPending := false } else c }) ∧
      (x.burstBytes < x.held.length ∨ x.due ≠ 0 → t.retire = s.retire ∧ t.mover.segment x.msg = some { x with
        held := x.held.drop x.burstBytes, next := x.next + BitVec.ofNat 32 x.burstBytes })

/-- A store burst that ends in bus error (R133, R73, R142): the segment is emptied and discarded, an ACCEPT not yet
declared ready turns to REFUSE(FAULT), and a committed message's entry takes STATUS STORE_FAULT. A broadcast that has not
committed is dropped (R81): it counts and is reported at once when its frame has closed good, and at its close otherwise.
The store client looks again at the oldest STORING segment (R130). -/
def Obligations.StoreFaultReported : Prop :=
  ∀ (s : State) (b : Burst) (msg bytes : Nat), s.resetAsserted = false → s.port.inFlight = some b →
    b.kind = .store msg bytes →
    ∃ t, exec (.storeBurstEnd .busError) s = .next t ∧
      (∀ x ∈ t.mover.segments, x.msg = msg → x.state = .discarding ∧ x.held = [] ∧ x.fault = true) ∧
      (∀ a : Addr, b.Misses a → Memory.readByte t.mem a = Memory.readByte s.mem a) ∧
      (∀ r, s.engine = some r → r.msg = msg → r.broadcast = false →
        ∃ r1, t.engine = some r1 ∧ r1.fault = .storeFault ∧
          (r.verdict = .acceptNew → r.ready = false → r1.phase = .awaitReady ∧ r1.verdict = .refuseFault .storeFault) ∧
          (r.verdict ≠ .acceptNew ∨ r.ready = true → r1 = { r with fault := .storeFault })) ∧
      (∀ r, s.engine = some r → r.msg = msg → r.broadcast = true → r.kind = .put →
        (∀ e, r.verdict = .acceptNew → r.ready = false → r.entry = some e →
          (r.closed = false → t.cache = s.cache ∧ t.writer = s.writer ∧
            t.engine = some { r with fault := .storeFault, phase := .awaitReady, verdict := .dropped true }) ∧
          (r.closed = true → t.engine = none ∧ (t.cache.entry e).inUse = false ∧
            t.context e = (s.context e).setErrCount ((s.context e).errCount + 1) ∧
            t.writer = if (s.context e).evError then s.writer.take ⟨.messageError, channelByte r.channel, 8, s.link.cycle,
              s.link.offset, r.length.setWidth 16, 0⟩ else s.writer)) ∧
        (r.verdict ≠ .acceptNew ∨ r.ready = true →
          t.engine = some { r with fault := .storeFault } ∧ t.cache = s.cache ∧ t.writer = s.writer)) ∧
      (s.port.store = none → t.port.store = ({ s.port with inFlight := none } : Port).storeLook t.mover.segments) ∧
      t.retire = { s.retire with queue := s.retire.queue.map fun c =>
        if c.msg = msg ∧ c.storesPending = true then
          { c with storesPending := false, storeFault := true, events := if c.errorEnable then c.events ++
            [⟨.messageError, channelByte c.channel, 5, c.fields.cycle, c.fields.offset, c.fields.length.setWidth 16,
              c.record⟩] else c.events }
        else c }

/-- FETCH_BURST_END (R134, R136, R74): the bytes read join those held, the next address advances and the next burst is
presented when there is room for it; a bus error empties the buffer, ends the fetch and marks the request. A burst whose
message was abandoned ends with its data discarded (R135), and the buffer of the message served since goes on.
That the host's writes come with the completion, before the read, is the model's choice (log 7). -/
def Obligations.FetchedBytesJoinBuffer : Prop :=
  (∀ (s : State) (b : Burst) (msg bytes : Nat), s.resetAsserted = false → s.port.inFlight = some b →
    b.kind = .fetch msg bytes → (∀ t, s.mover.staging = some t → t.msg ≠ msg) → ∀ end_, ∃ u,
      exec (.fetchBurstEnd end_) s = .next u ∧
      u = { s with
        mem := match end_ with
          | .completion ws => Memory.hostWrites s.mem ws
          | .busError => s.mem
        port := { s.port with
          inFlight := none, fetch := ({ s.port with inFlight := none } : Port).fetchLook s.mover.staging } }) ∧
  ∀ (s : State) (b : Burst) (t : Staging) (bytes : Nat), s.resetAsserted = false → s.port.inFlight = some b →
    b.kind = .fetch t.msg bytes → s.mover.staging = some t →
    let ended : Port := { s.port with inFlight := none }
    (∀ ws, ∃ u v, exec (.fetchBurstEnd (.completion ws)) s = .next u ∧ u.mem = Memory.hostWrites s.mem ws ∧
      u.port = { ended with fetch := ended.fetchLook (some v) } ∧ u.mover.staging = some v ∧ v.msg = t.msg ∧ v.left = t.left - bytes ∧
      v.next = t.next + BitVec.ofNat 32 (4 * b.words) ∧ v.held.length = t.held.length + bytes ∧
      v.held.take t.held.length = t.held ∧
      (∀ k < bytes, v.held[t.held.length + k]? = some (Memory.readByte u.mem (b.addr + BitVec.ofNat 32 k))) ∧
      u.engine = s.engine ∧ u.cache = s.cache ∧ u.status = s.status ∧ u.retire = s.retire ∧ u.writer = s.writer) ∧
    (∀ r, s.engine = some r → r.msg = t.msg → r.broadcast = false → r.kind = .get →
      ∃ u r1, exec (.fetchBurstEnd .busError) s = .next u ∧ u.engine = some r1 ∧ r1.fault = .fetchFault ∧ u.mem = s.mem ∧
        u.port.inFlight = none ∧ (∀ v, u.mover.staging = some v → v.held = [] ∧ v.left = 0) ∧
        ((r.verdict = .acceptNew ∨ r.verdict = .acceptDuplicate) → r.ready = false →
          r1.phase = .awaitReady ∧ r1.verdict = .refuseFault .fetchFault ∧ u.mover.staging = none ∧
          u.port = { ended with fetch := none }) ∧
        (r.ready = true → r1 = { r with fault := .fetchFault } ∧ u.port = ended))

/-! ### Retirement and events -/

/-- RETIRE_RECORD_STEP and RECORD_WORD_END (R143, R144, R145, R19): word 1 and then word 0 of the head's record, then the
release of an entry that needs no descriptor write; a bus error adds RECORD_FAULT once, as enabled. -/
def Obligations.RecordWordsWritten : Prop :=
  ∀ (s : State) (c : Completion) (rest : List Completion), s.resetAsserted = false → s.retire.queue = c :: rest →
    (s.retire.step = .stores → c.filled = true → c.storesPending = false →
      exec .retireRecordStep s = .next { s with
        retire := { s.retire with step := .word1 }
        port := { s.port with
          retire := some ⟨.recordWord, c.record + 4, 1, [⟨c.fields.offset ++ c.fields.cycle, 0xF⟩]⟩ } }) ∧
    (s.retire.step ≠ .stores ∨ c.filled = false ∨ c.storesPending = true → exec .retireRecordStep s = .next s) ∧
    (∀ b, s.port.inFlight = some b → b.kind = .recordWord → ∀ result, ∃ t c1, exec (.recordWordEnd result) s = .next t ∧
      t.port.inFlight = none ∧ t.status = s.status ∧ t.engine = s.engine ∧
      (result = .completion → t.mem = Memory.writeWords s.mem b.addr b.data) ∧
      (∀ a : Addr, b.Misses a → Memory.readByte t.mem a = Memory.readByte s.mem a) ∧
      c1.events = c.events ++ (if result = .busError ∧ c.errorEnable = true ∧ c.recordFault = false then
        [⟨.messageError, channelByte c.channel, 7, c.fields.cycle, c.fields.offset, c.fields.length.setWidth 16, c.record⟩]
        else []) ∧
      c1 = { c with events := c1.events, recordFault := c1.recordFault } ∧
      (c1.recordFault = true ↔ c.recordFault = true ∨ (result = .busError ∧ c.errorEnable = true)) ∧
      (s.retire.step = .word1 → t.retire = ⟨c1 :: rest, .word0⟩ ∧ t.cache = s.cache ∧ t.writer = s.writer ∧
        t.port.retire = some ⟨.recordWord, c.record, 1,
          [⟨c.fields.dataOffset ++ c.fields.length ++ BitVec.ofBool c.fields.gen ++ BitVec.ofBool c.fields.seq ++
            BitVec.ofBool c.fields.bcast ++ BitVec.ofBool c.storeFault, 0xF⟩]⟩) ∧
      (s.retire.step = .word0 → c.descriptorWrite = false ∨ s.cache.Absent c.channel →
        t.retire = ⟨rest, .stores⟩ ∧ t.writer = s.writer.takeAll c1.events ∧ t.cache = s.cache))

/-- The descriptor step (R97, R144): a DIRTY entry enters WRITING with a snapshot and its eight-word write-through is
presented; an entry whose write or castout is in flight makes the step wait; a CLEAN one lets the head go. -/
def Obligations.DescriptorWriteAnswered : Prop :=
  ∀ (s : State) (b : Burst) (c : Completion) (rest : List Completion) (e : EntryIx), s.resetAsserted = false →
    s.port.inFlight = some b → b.kind = .recordWord → s.retire = ⟨c :: rest, .word0⟩ → c.descriptorWrite = true →
    s.cache.find c.channel = some e →
    ∃ t, exec (.recordWordEnd .completion) s = .next t ∧ t.mem = Memory.writeWords s.mem b.addr b.data ∧
      ((s.cache.entry e).state = .dirty →
        t.cache = s.cache.modify e (fun x => { x with state := .writing, snapshot := s.context e }) ∧
        t.retire = ⟨c :: rest, .descriptorWrite⟩ ∧ t.writer = s.writer ∧
        t.port.retire = some (Burst.mk (.writeThrough e)
          (s.host.tableBase + BitVec.ofNat 32 (32 * (s.cache.entry e).tag.val)) 8
          ((s.context e).toWords.map fun w => WriteWord.mk w 0xF))) ∧
      ((s.cache.entry e).state = .writing ∨ (s.cache.entry e).state = .writingDirty ∨
          (s.cache.entry e).state = .evicting →
        t.retire = ⟨c :: rest, .descriptorWait⟩ ∧ t.cache = s.cache ∧ t.writer = s.writer) ∧
      ((s.cache.entry e).state = .clean →
        t.retire = ⟨rest, .stores⟩ ∧ t.cache = s.cache ∧ t.writer = s.writer.takeAll c.events)

/-- Taking an event (R147), and EVENT_ENTRY_WRITE (R149, R151, R152, R156, R146): an ACTIVE writer whose queue has room
takes an event at the tail, otherwise it is dropped and counted; the ACTIVE writer with an event at the head presents it, or a GAP
while drops are outstanding; at a full ring it begins a full period, and in STOP's step it drops what is pending; with
no event pending it does nothing. That a GAP is stamped as it is formed is log 17, that EVENT_ENTRY_WRITE is the writer's
look log 22, and that a look makes no ring test while an entry write is in flight log 29. -/
def Obligations.EventTakenAndPresented : Prop :=
  (∀ (w : Writer) (ev : Event),
    (w.active = true → w.queue.length < 8 → w.take ev = { w with queue := w.queue ++ [ev] }) ∧
    (w.active = false ∨ 8 ≤ w.queue.length → ∃ n : Half, n.toNat = min 65535 (w.dropped.toNat + 1) ∧
      w.take ev = { w with dropped := n })) ∧
  (∀ s : State, s.writer.queue = [] → exec .eventEntryWrite s = .next s) ∧
  ∀ (s : State) (ev : Event) (rest : List Event), s.resetAsserted = false → s.writer.queue = ev :: rest →
    let P := s.writer.producer.toNat
    let C := 2 ^ s.writer.eqSize.toNat
    let full := (P % C + C - s.writer.consumer.toNat % C) % C = C - 1
    let entry : Event := if s.writer.dropped = 0 then ev
      else ⟨.gap, 0xFF, 0, s.link.cycle, s.link.offset, s.writer.dropped, 0⟩
    (s.writer.active = false ∨ s.writer.writing ≠ none → exec .eventEntryWrite s = .next s) ∧
    (s.writer.active = true → s.writer.writing = none →
      (¬ full → exec .eventEntryWrite s = .next { s with
        writer := { s.writer with
          writing := some (if s.writer.dropped = 0 then .event else .gap s.writer.dropped), fullPeriod := false }
        port := { s.port with
          writer := some ⟨.event, s.writer.eqBase + BitVec.ofNat 32 (16 * P), 4,
            [⟨0#8 ++ entry.detail ++ entry.channel ++ entry.kind.code, 0xF⟩, ⟨entry.aux16 ++ s.writer.serial, 0xF⟩,
              ⟨entry.offset ++ entry.cycle, 0xF⟩, ⟨entry.aux32, 0xF⟩]⟩ } }) ∧
      (full → s.cmd.work.stopsEvents = false → exec .eventEntryWrite s = .next { s with
        writer := { s.writer with fullPeriod := true }
        host := { s.host with intPending := if s.writer.fullPeriod then s.host.intPending
          else s.host.intPending ||| 0x2#4 } }) ∧
      (full → s.cmd.work.stopsEvents = true → ∃ t, exec .eventEntryWrite s = .next t ∧
        t = { s with
          writer := { s.writer with queue := [], dropped := t.writer.dropped, fullPeriod := false }
          host := { s.host with intPending := if s.writer.fullPeriod then s.host.intPending
            else s.host.intPending ||| 0x2#4 } } ∧
        t.writer.dropped.toNat = min 65535 (s.writer.dropped.toNat + s.writer.queue.length)))

/-- EVENT_ENTRY_WRITE_END (R150, R152, R153, R155): a completed write advances P and SERIAL and sets EVENT_WRITTEN, and
takes its event from the queue or its GAP's number from the dropped count; a bus error halts the writer. The completed
write is followed by the writer's look (R149), which is EVENT_ENTRY_WRITE (log 22); in STOP's step that look drops what is
pending when the ring is then full (R156). -/
def Obligations.EventEntryEnds : Prop :=
  ∀ (s : State) (b : Burst) (x : EntryWrite), s.resetAsserted = false → s.port.inFlight = some b → b.kind = .event →
    s.writer.writing = some x →
    (∃ t u, exec (.eventEntryWriteEnd .completion) s = .next t ∧ exec .eventEntryWrite u = .next t ∧
      u = { s with
        mem := Memory.writeWords s.mem b.addr b.data
        port := { s.port with inFlight := none }
        host := { s.host with intPending := s.host.intPending ||| 0x1#4 }
        writer := { s.writer with
          producer := u.writer.producer, serial := s.writer.serial + 1, writing := none
          queue := u.writer.queue, dropped := u.writer.dropped } } ∧
      (x = .event → u.writer.queue = s.writer.queue.tail ∧ u.writer.dropped = s.writer.dropped) ∧
      (∀ n, x = .gap n → u.writer.queue = s.writer.queue ∧ u.writer.dropped = s.writer.dropped - n) ∧
      u.writer.producer.toNat = (s.writer.producer.toNat + 1) % 2 ^ s.writer.eqSize.toNat % 4096 ∧
      t.mem = u.mem ∧ t.writer.producer = u.writer.producer ∧ t.writer.serial = u.writer.serial ∧
      t.host.intPending.getLsbD 0 = true ∧
      (let C := 2 ^ s.writer.eqSize.toNat
        let full := (u.writer.producer.toNat % C + C - s.writer.consumer.toNat % C) % C = C - 1
        (s.cmd.work.stopsEvents = false ∨ s.writer.active = false ∨ u.writer.queue = [] ∨ ¬ full →
          t.writer.queue = u.writer.queue ∧ t.writer.dropped = u.writer.dropped) ∧
        (s.cmd.work.stopsEvents = true → s.writer.active = true → u.writer.queue ≠ [] → full →
          t.writer.queue = [] ∧
            t.writer.dropped.toNat = min 65535 (u.writer.dropped.toNat + u.writer.queue.length))) ∧
      t.writer.active = s.writer.active ∧ t.writer.consumer = s.writer.consumer ∧ t.cache = s.cache ∧
      t.status = s.status ∧ t.retire = s.retire) ∧
    (∃ t, exec (.eventEntryWriteEnd .busError) s = .next t ∧
      t.writer = { s.writer with active := false, queue := [], writing := none, dropped := t.writer.dropped } ∧
      t.writer.dropped.toNat = min 65535 (s.writer.dropped.toNat + s.writer.queue.length) ∧
      t.host = { s.host with intPending := s.host.intPending ||| 0x8#4 } ∧
      (∀ a : Addr, b.Misses a → Memory.readByte t.mem a = Memory.readByte s.mem a) ∧ t.cache = s.cache ∧
      t.status = s.status ∧ t.retire = s.retire)

/-! ### The commands that wait -/

/-- HOLD_END (R111, R112, R113): while a condition of R111 fails nothing changes; then a DIRTY entry leaves by an
invalidation castout, and with the entry CLEAN or absent the HOLD ends HELD with DONE, or FAULTED with FAULT. A request
whose header came in the HOLD_WAIT that stands holds nothing up, one answered for an earlier hold state does (R62, R111;
log 27). That a fill which waits for its victim's castout is
pending is log 13's reading, and that the HOLD ends at a HOLD_END after the castout log 23's. -/
def Obligations.HoldEndsOnceIdle : Prop :=
  ∀ (s : State) (n : Channel), s.resetAsserted = false → s.cmd.work = .hold n →
    let ended (x : ChannelRecord) : ChannelRecord := if x.reason = .none then
      { x with hold := .held, subCode := 0, returned := false, seqValid := false }
      else { x with hold := .faulted, returned := false, seqValid := false }
    let finished (cache : Cache) : State := { s with
      cache := cache
      status := modifyAt s.status n ended
      cmd := { s.cmd with
        busy := false, work := .none, result := if (s.record n).reason = .none then .done else .fault }
      host := { s.host with intPending := s.host.intPending ||| 0x4#4 } }
    ((∃ r, s.engine = some r ∧ r.channel = n ∧ r.byHold = false) ∨ (∃ c ∈ s.retire.queue, c.channel = n) ∨
        s.cache.fillPending n = true ∨ (∃ e, s.cache.find n = some e ∧ ((s.cache.entry e).state = .filling ∨
          (s.cache.entry e).state = .writing ∨ (s.cache.entry e).state = .writingDirty ∨
          (s.cache.entry e).state = .evicting)) →
      exec .holdEnd s = .next s) ∧
    ((∀ r, s.engine = some r → r.channel ≠ n ∨ r.byHold = true) → (∀ c ∈ s.retire.queue, c.channel ≠ n) →
        s.cache.fillPending n = false →
      (s.cache.Absent n → exec .holdEnd s = .next (finished s.cache)) ∧
      (∀ e, s.cache.find n = some e →
        ((s.cache.entry e).state = .clean → exec .holdEnd s = .next (finished (s.cache.invalidate e))) ∧
        ((s.cache.entry e).state = .dirty → ∃ t, exec .holdEnd s = .next t ∧
          t.cache.entry e = { s.cache.entry e with state := .evicting, snapshot := s.context e, next := none } ∧
          (s.CachePortFree → t.port = { s.port with cache := some (s.writeOf (.cache (.invalidation e)) n (s.context e)) }) ∧
          t.cmd = s.cmd ∧ t.status = s.status ∧ t.mem = s.mem)))

/-- FLUSH_MEMBER (R102) and PURGE_MEMBER (R103) on the member at the head: what makes each wait, what it casts out or
invalidates, and the end of the command after the last member. PURGE's first set is dealt with as FLUSH's, before the
second. An entry that has left its tag, or that a fill has taken since, is no member of the second set, even while it has
a burst in flight: that reading is log 15. -/
def Obligations.MembersDealtWith : Prop :=
  ∀ (s : State) (e : EntryIx) (n : Channel) (rest all_ : List (EntryIx × Channel)) (f : Bool), s.resetAsserted = false →
    let x := s.cache.entry e
    let doneWith (t : State) : State := { t with
      cmd := { t.cmd with busy := false, work := .none, result := if f then .doneWithFaults else .done }
      host := { t.host with intPending := t.host.intPending ||| 0x4#4 } }
    let leave (last : Prop) [Decidable last] (t : State) (w : Work) : State :=
      if last then doneWith t else { t with cmd := { t.cmd with work := w } }
    (∀ (work : CastJob → Work) (last : Prop) [Decidable last],
      (work = (fun j => .flush j f) ∧ (last ↔ rest = []) ∨
        ∃ second, work = (fun j => .purge j second f) ∧ (last ↔ rest = [] ∧ second.todo = [])) →
      (s.cmd.work = work ⟨all_, (e, n) :: rest, .waiting⟩ →
        (x.state = .writing ∨ x.state = .writingDirty ∨ x.state = .evicting → exec .flushMember s = .next s) ∧
        (x.state = .dirty → x.tag = n → ∃ t, exec .flushMember s = .next t ∧
          t.cmd = { s.cmd with work := work ⟨all_, (e, n) :: rest, .casting⟩ } ∧
          t.cache.entry e = { x with state := .writing, snapshot := x.context } ∧
          (s.CachePortFree → t.port = { s.port with cache := some (s.writeOf (.cache (.flushCastout e)) n x.context) }) ∧
          t.mem = s.mem ∧ t.status = s.status) ∧
        (x.state = .invalid ∨ x.state = .clean ∨ x.state = .filling ∨ (x.state = .dirty ∧ x.tag ≠ n) →
          exec .flushMember s = .next (leave last s (work ⟨all_, rest, .waiting⟩)))) ∧
      (s.cmd.work = work ⟨all_, (e, n) :: rest, .casting⟩ → exec .flushMember s = .next s) ∧
      (s.cmd.work = work ⟨all_, (e, n) :: rest, .cast⟩ →
        exec .flushMember s = .next (leave last s (work ⟨all_, rest, .waiting⟩)))) ∧
    (∀ first second, s.cmd.work = .purge first second f → first.todo ≠ [] → exec .purgeMember s = .next s) ∧
    (∀ first : CastJob, first.todo = [] →
      let go (t : State) : State := leave (rest = []) t (.purge first ⟨all_, rest, .waiting⟩ f)
      (s.cmd.work = .purge first ⟨all_, (e, n) :: rest, .waiting⟩ f →
        ((∃ r, s.engine = some r ∧ r.channel = n) ∨ (∃ c ∈ s.retire.queue, c.channel = n) ∨
            (x.tag = n ∧ (e, n) ∈ all_ ∧ (x.state = .filling ∨ x.state = .writing ∨ x.state = .writingDirty ∨
              x.state = .evicting)) → exec .purgeMember s = .next s) ∧
        ((∀ r, s.engine = some r → r.channel ≠ n) → (∀ c ∈ s.retire.queue, c.channel ≠ n) →
          (x.tag ≠ n ∨ (e, n) ∉ all_ ∨ x.state = .invalid → exec .purgeMember s = .next (go s)) ∧
          (x.tag = n → (e, n) ∈ all_ → x.state = .clean →
            exec .purgeMember s = .next (go { s with cache := s.cache.invalidate e })) ∧
          (x.tag = n → (e, n) ∈ all_ → x.state = .dirty → ∃ t, exec .purgeMember s = .next t ∧
            t.cmd = { s.cmd with work := .purge first ⟨all_, (e, n) :: rest, .casting⟩ f } ∧
            t.cache.entry e = { x with state := .evicting, snapshot := x.context, next := none } ∧
            (s.CachePortFree →
              t.port = { s.port with cache := some (s.writeOf (.cache (.invalidation e)) n x.context) }) ∧
            t.mem = s.mem ∧ t.status = s.status))) ∧
      (s.cmd.work = .purge first ⟨all_, (e, n) :: rest, .casting⟩ f → exec .purgeMember s = .next s) ∧
      (s.cmd.work = .purge first ⟨all_, (e, n) :: rest, .cast⟩ f → exec .purgeMember s = .next (go s)))

/-- The steps of STOP (R168, R105, R156, R169): the drain begins with the engine IDLE and ends with the completion queue
empty, the cache step with every entry INVALID, the events step with nothing pending, and the node is HALTED once all is
quiet. In the events step, and until the node is HALTED, the writer's look at what is pending is EVENT_ENTRY_WRITE's. One
advance at each of the four STOP commands, STOP_DRAIN_COMPLETIONS serving steps 1 and 2, is the model's choice (log 24). -/
def Obligations.StopStepsReachHalted : Prop :=
  ∀ (s : State) (f : Bool), s.resetAsserted = false →
    (s.cmd.work = .stop .request f →
      (s.engine ≠ none → exec .stopDrainCompletions s = .next s) ∧
      (s.engine = none → exec .stopDrainCompletions s = .next { s with cmd := { s.cmd with
        work := .stop (if s.retire.queue = [] then .cache else .completions) f } })) ∧
    (s.cmd.work = .stop .completions f →
      (s.retire.queue ≠ [] → exec .stopDrainCompletions s = .next s) ∧
      (s.retire.queue = [] → exec .stopDrainCompletions s = .next { s with cmd := { s.cmd with
        work := .stop .cache f } })) ∧
    (s.cmd.work = .stop .cache f →
      (s.cacheQuiet = false → exec .stopCacheStep s = .next s) ∧
      (s.cacheQuiet = true → (∀ e : EntryIx, (s.cache.entry e).state ≠ .dirty) → ∃ t, exec .stopCacheStep s = .next t ∧
        t.cmd = { s.cmd with work := .stop .events f } ∧ t.cache.Empty ∧ t.mem = s.mem ∧ t.status = s.status) ∧
      (∀ e : EntryIx, s.cacheQuiet = true → (s.cache.entry e).state = .dirty →
        (∀ g : EntryIx, g < e → (s.cache.entry g).state ≠ .dirty) → ∃ t, exec .stopCacheStep s = .next t ∧
          t.cmd = s.cmd ∧ (t.cache.entry e).state = .evicting ∧ (t.cache.entry e).snapshot = s.context e ∧
          (∀ g : EntryIx, g < e → (t.cache.entry g).state = .invalid) ∧
          (∀ g : EntryIx, e < g → (t.cache.entry g).state = (s.cache.entry g).state) ∧
          t.status = s.status ∧ t.mem = s.mem)) ∧
    (s.cmd.work = .stop .events f →
      (s.writer.queue = [] → s.writer.writing = none →
        exec .stopEventStep s = .next { s with cmd := { s.cmd with work := .stop .halting f } }) ∧
      ∃ t, exec .eventEntryWrite s = .next t ∧
        exec .stopEventStep s = .next (if t.writer.queue = [] ∧ t.writer.writing = none then
          { t with cmd := { s.cmd with work := .stop .halting f } } else t)) ∧
    (s.cmd.work = .stop .halting f →
      exec .stopEventStep s = exec .eventEntryWrite s ∧
      (s.writer.queue = [] → s.writer.writing = none → s.port = .reset →
        s.link.rx = .idle ∨ s.link.rx = .recovery ∨ (∃ g, s.link.rx = .receiving g) →
        exec .stopEnd s = .next { s with
          cmd := { s.cmd with node := .halted, busy := false, work := .none, result := if f then .doneWithFaults else .done }
          link := { s.link with rx := .idle }
          host := { s.host with intPending := s.host.intPending ||| 0x4#4 } }) ∧
      (s.writer.queue ≠ [] ∨ s.writer.writing ≠ none ∨ s.port ≠ .reset ∨ (∃ o p, s.link.rx = .replyWait o p) ∨
        (∃ tx, s.link.rx = .replying tx) → exec .stopEnd s = .next s))

/-! ### Laws every step keeps -/

/-- The laws hold right after reset. -/
def Obligations.LawsHoldAtReset : Prop :=
  State.reset.MemoryLaw ∧ State.reset.cache.AgeLaw ∧ State.reset.PinLaw ∧ State.reset.writer.Law ∧
    State.reset.CompletionLaw ∧ State.reset.StagingLaw ∧ State.reset.HoldLaw ∧ State.reset.ChannelLaw

/-- Host memory keeps its one canonical form (the model's own law, log 4). -/
def Obligations.MemoryLawKept : Prop :=
  ∀ s t : State, s.MemoryLaw → step s = .next t → t.MemoryLaw

/-- The ages of the 16 entries stay the numbers 0 to 15, each held by one entry (R87). -/
def Obligations.AgeLawKept : Prop :=
  ∀ s t : State, s.cache.AgeLaw → step s = .next t → t.cache.AgeLaw

/-- The pending event queue stays within its 8 places, a HALTED writer holds and writes nothing, and P names a slot
(R147, R148, R153). -/
def Obligations.WriterLawKept : Prop :=
  ∀ s t : State, s.writer.Law → step s = .next t → t.writer.Law

/-- The completion queue stays within its 4 entries (R141), which rests on readiness having asked for a free entry
(R69, R80). -/
def Obligations.CompletionLawKept : Prop :=
  ∀ s t : State, s.CompletionLaw → step s = .next t → t.CompletionLaw

/-- The receive staging buffer stays within 256 bytes and the transmit staging buffer within 64 (R127, R134). -/
def Obligations.StagingLawKept : Prop :=
  ∀ s t : State, s.StagingLaw → step s = .next t → t.StagingLaw

/-- At no time are more than 8 channels pinned (R99), and a channel is in HOLD_WAIT exactly while a HOLD of it is in
progress (R111, R170). -/
def Obligations.StatusLawKept : Prop :=
  ∀ s t : State, step s = .next t → (s.PinLaw → t.PinLaw) ∧ (s.HoldLaw → t.HoldLaw)

/-- In HALTED the engine is IDLE, every cache entry INVALID, both queues empty, and the master side at rest; STOP's steps
establish it one after another, nothing in HALTED undoes it, and a step that begins and ends in HALTED changes no byte of
host memory (R139, R168, R169). -/
def Obligations.QuietLawKept : Prop :=
  ∀ s t : State, s.QuietLaw → step s = .next t →
    t.QuietLaw ∧ (s.cmd.node = .halted → t.cmd.node = .halted → t.mem = s.mem)

/-- A channel has at most one entry that is not INVALID, and a HELD or FAULTED channel has none (R86, R12). -/
def Obligations.ChannelLawKept : Prop :=
  ∀ s t : State, s.ChannelLaw → step s = .next t → t.ChannelLaw

/-- R163: the node state changes at four events alone, a reset, START taken with success, STOP taken, and the end of STOP;
the command unit is busy for the whole of STOPPING, and no other command is carried out in it. -/
def Obligations.NodeStateChangesAtFourEvents : Prop :=
  (∀ (c : Instr) (s t : State), s.cmd.Law → c.wellFormed = true → exec c s = .next t → t.cmd.node ≠ s.cmd.node →
    (t.cmd.node = .halted ∧ (c = .resetAssert ∨ c = .resetRelease ∨ ∃ v : Word, c = .softReset v ∧ v.getLsbD 0 = true)) ∨
    (s.cmd.node = .halted ∧ t.cmd.node = .running ∧ t.cmd.result = .done ∧ ∃ op, c = .start op) ∨
    (s.cmd.node = .running ∧ t.cmd.node = .stopping ∧ ∃ op, c = .stop op) ∨
    (s.cmd.node = .stopping ∧ t.cmd.node = .halted ∧ c = .stopEnd)) ∧
  (∀ (s : State) (v : Word), s.resetAsserted = false → v.getLsbD 0 = true →
    (∃ t, exec .resetAssert s = .next t ∧ t.cmd.node = .halted) ∧
    ∃ t, exec (.softReset v) s = .next t ∧ t.cmd.node = .halted) ∧
  (∀ s t : State, s.cmd.Law → step s = .next t → t.cmd.Law) ∧
  (∀ (s : State) (op : Byte), s.cmd.Law → s.cmd.node = .stopping → s.resetAsserted = false → s.cmd.busy = true ∧
    ∀ c ∈ [Instr.start op, .stop op, .hold op, .release op, .returnBuffer op, .pin op, .unpin op, .flush op, .purge op,
        .resumeEvents op],
      exec c s = .next { s with host := { s.host with sticky := s.host.sticky ||| 2#2 } })
end

