-- ==== Sys2Proof/Laws/State.lean ====
section
/-! SUPPORT. For each update of State by name, what every field holds after it. -/

namespace Sys2Proof.Machine


/-! ### setInt -/

@[simp] theorem State.setInt_resetAsserted (s : State) (bit : BitVec 4) :
    (s.setInt bit).resetAsserted = s.resetAsserted := rfl
@[simp] theorem State.setInt_host (s : State) (bit : BitVec 4) :
    (s.setInt bit).host = { s.host with intPending := s.host.intPending ||| bit } := rfl
@[simp] theorem State.setInt_cmd (s : State) (bit : BitVec 4) : (s.setInt bit).cmd = s.cmd := rfl
@[simp] theorem State.setInt_link (s : State) (bit : BitVec 4) : (s.setInt bit).link = s.link := rfl
@[simp] theorem State.setInt_engine (s : State) (bit : BitVec 4) : (s.setInt bit).engine = s.engine := rfl
@[simp] theorem State.setInt_cache (s : State) (bit : BitVec 4) : (s.setInt bit).cache = s.cache := rfl
@[simp] theorem State.setInt_status (s : State) (bit : BitVec 4) : (s.setInt bit).status = s.status := rfl
@[simp] theorem State.setInt_mover (s : State) (bit : BitVec 4) : (s.setInt bit).mover = s.mover := rfl
@[simp] theorem State.setInt_port (s : State) (bit : BitVec 4) : (s.setInt bit).port = s.port := rfl
@[simp] theorem State.setInt_retire (s : State) (bit : BitVec 4) : (s.setInt bit).retire = s.retire := rfl
@[simp] theorem State.setInt_writer (s : State) (bit : BitVec 4) : (s.setInt bit).writer = s.writer := rfl
@[simp] theorem State.setInt_mem (s : State) (bit : BitVec 4) : (s.setInt bit).mem = s.mem := rfl
@[simp] theorem State.setInt_nextMsg (s : State) (bit : BitVec 4) : (s.setInt bit).nextMsg = s.nextMsg := rfl
@[simp] theorem State.setInt_free (s : State) (bit : BitVec 4) : (s.setInt bit).free = s.free := rfl
@[simp] theorem State.setInt_pending (s : State) (bit : BitVec 4) : (s.setInt bit).pending = s.pending := rfl

/-! ### setSticky -/

@[simp] theorem State.setSticky_resetAsserted (s : State) (bit : BitVec 2) :
    (s.setSticky bit).resetAsserted = s.resetAsserted := rfl
@[simp] theorem State.setSticky_host (s : State) (bit : BitVec 2) :
    (s.setSticky bit).host = { s.host with sticky := s.host.sticky ||| bit } := rfl
@[simp] theorem State.setSticky_cmd (s : State) (bit : BitVec 2) : (s.setSticky bit).cmd = s.cmd := rfl
@[simp] theorem State.setSticky_link (s : State) (bit : BitVec 2) : (s.setSticky bit).link = s.link := rfl
@[simp] theorem State.setSticky_engine (s : State) (bit : BitVec 2) : (s.setSticky bit).engine = s.engine := rfl
@[simp] theorem State.setSticky_cache (s : State) (bit : BitVec 2) : (s.setSticky bit).cache = s.cache := rfl
@[simp] theorem State.setSticky_status (s : State) (bit : BitVec 2) : (s.setSticky bit).status = s.status := rfl
@[simp] theorem State.setSticky_mover (s : State) (bit : BitVec 2) : (s.setSticky bit).mover = s.mover := rfl
@[simp] theorem State.setSticky_port (s : State) (bit : BitVec 2) : (s.setSticky bit).port = s.port := rfl
@[simp] theorem State.setSticky_retire (s : State) (bit : BitVec 2) : (s.setSticky bit).retire = s.retire := rfl
@[simp] theorem State.setSticky_writer (s : State) (bit : BitVec 2) : (s.setSticky bit).writer = s.writer := rfl
@[simp] theorem State.setSticky_mem (s : State) (bit : BitVec 2) : (s.setSticky bit).mem = s.mem := rfl
@[simp] theorem State.setSticky_nextMsg (s : State) (bit : BitVec 2) : (s.setSticky bit).nextMsg = s.nextMsg := rfl
@[simp] theorem State.setSticky_free (s : State) (bit : BitVec 2) : (s.setSticky bit).free = s.free := rfl
@[simp] theorem State.setSticky_pending (s : State) (bit : BitVec 2) : (s.setSticky bit).pending = s.pending := rfl

/-! ### setRx -/

@[simp] theorem State.setRx_resetAsserted (s : State) (rx : Receiver) :
    (s.setRx rx).resetAsserted = s.resetAsserted := rfl
@[simp] theorem State.setRx_host (s : State) (rx : Receiver) : (s.setRx rx).host = s.host := rfl
@[simp] theorem State.setRx_cmd (s : State) (rx : Receiver) : (s.setRx rx).cmd = s.cmd := rfl
@[simp] theorem State.setRx_link (s : State) (rx : Receiver) : (s.setRx rx).link = { s.link with rx := rx } := rfl
@[simp] theorem State.setRx_engine (s : State) (rx : Receiver) : (s.setRx rx).engine = s.engine := rfl
@[simp] theorem State.setRx_cache (s : State) (rx : Receiver) : (s.setRx rx).cache = s.cache := rfl
@[simp] theorem State.setRx_status (s : State) (rx : Receiver) : (s.setRx rx).status = s.status := rfl
@[simp] theorem State.setRx_mover (s : State) (rx : Receiver) : (s.setRx rx).mover = s.mover := rfl
@[simp] theorem State.setRx_port (s : State) (rx : Receiver) : (s.setRx rx).port = s.port := rfl
@[simp] theorem State.setRx_retire (s : State) (rx : Receiver) : (s.setRx rx).retire = s.retire := rfl
@[simp] theorem State.setRx_writer (s : State) (rx : Receiver) : (s.setRx rx).writer = s.writer := rfl
@[simp] theorem State.setRx_mem (s : State) (rx : Receiver) : (s.setRx rx).mem = s.mem := rfl
@[simp] theorem State.setRx_nextMsg (s : State) (rx : Receiver) : (s.setRx rx).nextMsg = s.nextMsg := rfl
@[simp] theorem State.setRx_free (s : State) (rx : Receiver) : (s.setRx rx).free = s.free := rfl
@[simp] theorem State.setRx_pending (s : State) (rx : Receiver) : (s.setRx rx).pending = s.pending := rfl

/-! ### sendSymbols -/

@[simp] theorem State.sendSymbols_resetAsserted (s : State) (xs : List LineSymbol) :
    (s.sendSymbols xs).resetAsserted = s.resetAsserted := rfl
@[simp] theorem State.sendSymbols_host (s : State) (xs : List LineSymbol) : (s.sendSymbols xs).host = s.host := rfl
@[simp] theorem State.sendSymbols_cmd (s : State) (xs : List LineSymbol) : (s.sendSymbols xs).cmd = s.cmd := rfl
@[simp] theorem State.sendSymbols_link (s : State) (xs : List LineSymbol) :
    (s.sendSymbols xs).link = { s.link with lineOut := s.link.lineOut ++ xs } := rfl
@[simp] theorem State.sendSymbols_engine (s : State) (xs : List LineSymbol) :
    (s.sendSymbols xs).engine = s.engine := rfl
@[simp] theorem State.sendSymbols_cache (s : State) (xs : List LineSymbol) : (s.sendSymbols xs).cache = s.cache := rfl
@[simp] theorem State.sendSymbols_status (s : State) (xs : List LineSymbol) :
    (s.sendSymbols xs).status = s.status := rfl
@[simp] theorem State.sendSymbols_mover (s : State) (xs : List LineSymbol) : (s.sendSymbols xs).mover = s.mover := rfl
@[simp] theorem State.sendSymbols_port (s : State) (xs : List LineSymbol) : (s.sendSymbols xs).port = s.port := rfl
@[simp] theorem State.sendSymbols_retire (s : State) (xs : List LineSymbol) :
    (s.sendSymbols xs).retire = s.retire := rfl
@[simp] theorem State.sendSymbols_writer (s : State) (xs : List LineSymbol) :
    (s.sendSymbols xs).writer = s.writer := rfl
@[simp] theorem State.sendSymbols_mem (s : State) (xs : List LineSymbol) : (s.sendSymbols xs).mem = s.mem := rfl
@[simp] theorem State.sendSymbols_nextMsg (s : State) (xs : List LineSymbol) :
    (s.sendSymbols xs).nextMsg = s.nextMsg := rfl
@[simp] theorem State.sendSymbols_free (s : State) (xs : List LineSymbol) : (s.sendSymbols xs).free = s.free := rfl
@[simp] theorem State.sendSymbols_pending (s : State) (xs : List LineSymbol) :
    (s.sendSymbols xs).pending = s.pending := rfl

/-! ### setRecord -/

@[simp] theorem State.setRecord_resetAsserted (s : State) (n : Channel) (f : ChannelRecord → ChannelRecord) :
    (s.setRecord n f).resetAsserted = s.resetAsserted := rfl
@[simp] theorem State.setRecord_host (s : State) (n : Channel) (f : ChannelRecord → ChannelRecord) :
    (s.setRecord n f).host = s.host := rfl
@[simp] theorem State.setRecord_cmd (s : State) (n : Channel) (f : ChannelRecord → ChannelRecord) :
    (s.setRecord n f).cmd = s.cmd := rfl
@[simp] theorem State.setRecord_link (s : State) (n : Channel) (f : ChannelRecord → ChannelRecord) :
    (s.setRecord n f).link = s.link := rfl
@[simp] theorem State.setRecord_engine (s : State) (n : Channel) (f : ChannelRecord → ChannelRecord) :
    (s.setRecord n f).engine = s.engine := rfl
@[simp] theorem State.setRecord_cache (s : State) (n : Channel) (f : ChannelRecord → ChannelRecord) :
    (s.setRecord n f).cache = s.cache := rfl
@[simp] theorem State.setRecord_status (s : State) (n : Channel) (f : ChannelRecord → ChannelRecord) :
    (s.setRecord n f).status = modifyAt s.status n f := rfl
@[simp] theorem State.setRecord_mover (s : State) (n : Channel) (f : ChannelRecord → ChannelRecord) :
    (s.setRecord n f).mover = s.mover := rfl
@[simp] theorem State.setRecord_port (s : State) (n : Channel) (f : ChannelRecord → ChannelRecord) :
    (s.setRecord n f).port = s.port := rfl
@[simp] theorem State.setRecord_retire (s : State) (n : Channel) (f : ChannelRecord → ChannelRecord) :
    (s.setRecord n f).retire = s.retire := rfl
@[simp] theorem State.setRecord_writer (s : State) (n : Channel) (f : ChannelRecord → ChannelRecord) :
    (s.setRecord n f).writer = s.writer := rfl
@[simp] theorem State.setRecord_mem (s : State) (n : Channel) (f : ChannelRecord → ChannelRecord) :
    (s.setRecord n f).mem = s.mem := rfl
@[simp] theorem State.setRecord_nextMsg (s : State) (n : Channel) (f : ChannelRecord → ChannelRecord) :
    (s.setRecord n f).nextMsg = s.nextMsg := rfl
@[simp] theorem State.setRecord_free (s : State) (n : Channel) (f : ChannelRecord → ChannelRecord) :
    (s.setRecord n f).free = s.free := rfl
@[simp] theorem State.setRecord_pending (s : State) (n : Channel) (f : ChannelRecord → ChannelRecord) :
    (s.setRecord n f).pending = s.pending := rfl

/-! ### clearSeqValid -/

@[simp] theorem State.clearSeqValid_resetAsserted (s : State) :
    (s.clearSeqValid).resetAsserted = s.resetAsserted := rfl
@[simp] theorem State.clearSeqValid_host (s : State) : (s.clearSeqValid).host = s.host := rfl
@[simp] theorem State.clearSeqValid_cmd (s : State) : (s.clearSeqValid).cmd = s.cmd := rfl
@[simp] theorem State.clearSeqValid_link (s : State) : (s.clearSeqValid).link = s.link := rfl
@[simp] theorem State.clearSeqValid_engine (s : State) : (s.clearSeqValid).engine = s.engine := rfl
@[simp] theorem State.clearSeqValid_cache (s : State) : (s.clearSeqValid).cache = s.cache := rfl
@[simp] theorem State.clearSeqValid_status (s : State) :
    (s.clearSeqValid).status = s.status.map fun x => { x with seqValid := false } := rfl
@[simp] theorem State.clearSeqValid_mover (s : State) : (s.clearSeqValid).mover = s.mover := rfl
@[simp] theorem State.clearSeqValid_port (s : State) : (s.clearSeqValid).port = s.port := rfl
@[simp] theorem State.clearSeqValid_retire (s : State) : (s.clearSeqValid).retire = s.retire := rfl
@[simp] theorem State.clearSeqValid_writer (s : State) : (s.clearSeqValid).writer = s.writer := rfl
@[simp] theorem State.clearSeqValid_mem (s : State) : (s.clearSeqValid).mem = s.mem := rfl
@[simp] theorem State.clearSeqValid_nextMsg (s : State) : (s.clearSeqValid).nextMsg = s.nextMsg := rfl
@[simp] theorem State.clearSeqValid_free (s : State) : (s.clearSeqValid).free = s.free := rfl
@[simp] theorem State.clearSeqValid_pending (s : State) : (s.clearSeqValid).pending = s.pending := rfl

/-! ### changeContext -/

@[simp] theorem State.changeContext_resetAsserted (s : State) (e : EntryIx) (f : Descriptor → Descriptor) :
    (s.changeContext e f).resetAsserted = s.resetAsserted := rfl
@[simp] theorem State.changeContext_host (s : State) (e : EntryIx) (f : Descriptor → Descriptor) :
    (s.changeContext e f).host = s.host := rfl
@[simp] theorem State.changeContext_cmd (s : State) (e : EntryIx) (f : Descriptor → Descriptor) :
    (s.changeContext e f).cmd = s.cmd := rfl
@[simp] theorem State.changeContext_link (s : State) (e : EntryIx) (f : Descriptor → Descriptor) :
    (s.changeContext e f).link = s.link := rfl
@[simp] theorem State.changeContext_engine (s : State) (e : EntryIx) (f : Descriptor → Descriptor) :
    (s.changeContext e f).engine = s.engine := rfl
@[simp] theorem State.changeContext_cache (s : State) (e : EntryIx) (f : Descriptor → Descriptor) :
    (s.changeContext e f).cache = s.cache.change e f := rfl
@[simp] theorem State.changeContext_status (s : State) (e : EntryIx) (f : Descriptor → Descriptor) :
    (s.changeContext e f).status = s.status := rfl
@[simp] theorem State.changeContext_mover (s : State) (e : EntryIx) (f : Descriptor → Descriptor) :
    (s.changeContext e f).mover = s.mover := rfl
@[simp] theorem State.changeContext_port (s : State) (e : EntryIx) (f : Descriptor → Descriptor) :
    (s.changeContext e f).port = s.port := rfl
@[simp] theorem State.changeContext_retire (s : State) (e : EntryIx) (f : Descriptor → Descriptor) :
    (s.changeContext e f).retire = s.retire := rfl
@[simp] theorem State.changeContext_writer (s : State) (e : EntryIx) (f : Descriptor → Descriptor) :
    (s.changeContext e f).writer = s.writer := rfl
@[simp] theorem State.changeContext_mem (s : State) (e : EntryIx) (f : Descriptor → Descriptor) :
    (s.changeContext e f).mem = s.mem := rfl
@[simp] theorem State.changeContext_nextMsg (s : State) (e : EntryIx) (f : Descriptor → Descriptor) :
    (s.changeContext e f).nextMsg = s.nextMsg := rfl
@[simp] theorem State.changeContext_free (s : State) (e : EntryIx) (f : Descriptor → Descriptor) :
    (s.changeContext e f).free = s.free := rfl
@[simp] theorem State.changeContext_pending (s : State) (e : EntryIx) (f : Descriptor → Descriptor) :
    (s.changeContext e f).pending = s.pending := rfl

/-! ### setWork -/

@[simp] theorem State.setWork_resetAsserted (s : State) (w : Work) :
    (s.setWork w).resetAsserted = s.resetAsserted := rfl
@[simp] theorem State.setWork_host (s : State) (w : Work) : (s.setWork w).host = s.host := rfl
@[simp] theorem State.setWork_cmd (s : State) (w : Work) : (s.setWork w).cmd = { s.cmd with work := w } := rfl
@[simp] theorem State.setWork_link (s : State) (w : Work) : (s.setWork w).link = s.link := rfl
@[simp] theorem State.setWork_engine (s : State) (w : Work) : (s.setWork w).engine = s.engine := rfl
@[simp] theorem State.setWork_cache (s : State) (w : Work) : (s.setWork w).cache = s.cache := rfl
@[simp] theorem State.setWork_status (s : State) (w : Work) : (s.setWork w).status = s.status := rfl
@[simp] theorem State.setWork_mover (s : State) (w : Work) : (s.setWork w).mover = s.mover := rfl
@[simp] theorem State.setWork_port (s : State) (w : Work) : (s.setWork w).port = s.port := rfl
@[simp] theorem State.setWork_retire (s : State) (w : Work) : (s.setWork w).retire = s.retire := rfl
@[simp] theorem State.setWork_writer (s : State) (w : Work) : (s.setWork w).writer = s.writer := rfl
@[simp] theorem State.setWork_mem (s : State) (w : Work) : (s.setWork w).mem = s.mem := rfl
@[simp] theorem State.setWork_nextMsg (s : State) (w : Work) : (s.setWork w).nextMsg = s.nextMsg := rfl
@[simp] theorem State.setWork_free (s : State) (w : Work) : (s.setWork w).free = s.free := rfl
@[simp] theorem State.setWork_pending (s : State) (w : Work) : (s.setWork w).pending = s.pending := rfl

/-! ### stopAt -/

@[simp] theorem State.stopAt_resetAsserted (s : State) (step : StopStep) (f : Bool) :
    (s.stopAt step f).resetAsserted = s.resetAsserted := rfl
@[simp] theorem State.stopAt_host (s : State) (step : StopStep) (f : Bool) : (s.stopAt step f).host = s.host := rfl
@[simp] theorem State.stopAt_cmd (s : State) (step : StopStep) (f : Bool) :
    (s.stopAt step f).cmd = { s.cmd with work := .stop step f } := rfl
@[simp] theorem State.stopAt_link (s : State) (step : StopStep) (f : Bool) : (s.stopAt step f).link = s.link := rfl
@[simp] theorem State.stopAt_engine (s : State) (step : StopStep) (f : Bool) :
    (s.stopAt step f).engine = s.engine := rfl
@[simp] theorem State.stopAt_cache (s : State) (step : StopStep) (f : Bool) : (s.stopAt step f).cache = s.cache := rfl
@[simp] theorem State.stopAt_status (s : State) (step : StopStep) (f : Bool) :
    (s.stopAt step f).status = s.status := rfl
@[simp] theorem State.stopAt_mover (s : State) (step : StopStep) (f : Bool) : (s.stopAt step f).mover = s.mover := rfl
@[simp] theorem State.stopAt_port (s : State) (step : StopStep) (f : Bool) : (s.stopAt step f).port = s.port := rfl
@[simp] theorem State.stopAt_retire (s : State) (step : StopStep) (f : Bool) :
    (s.stopAt step f).retire = s.retire := rfl
@[simp] theorem State.stopAt_writer (s : State) (step : StopStep) (f : Bool) :
    (s.stopAt step f).writer = s.writer := rfl
@[simp] theorem State.stopAt_mem (s : State) (step : StopStep) (f : Bool) : (s.stopAt step f).mem = s.mem := rfl
@[simp] theorem State.stopAt_nextMsg (s : State) (step : StopStep) (f : Bool) :
    (s.stopAt step f).nextMsg = s.nextMsg := rfl
@[simp] theorem State.stopAt_free (s : State) (step : StopStep) (f : Bool) : (s.stopAt step f).free = s.free := rfl
@[simp] theorem State.stopAt_pending (s : State) (step : StopStep) (f : Bool) :
    (s.stopAt step f).pending = s.pending := rfl

/-! ### endCommand -/

@[simp] theorem State.endCommand_resetAsserted (s : State) (r : CmdResult) :
    (s.endCommand r).resetAsserted = s.resetAsserted := rfl
@[simp] theorem State.endCommand_host (s : State) (r : CmdResult) :
    (s.endCommand r).host = { s.host with intPending := s.host.intPending ||| intCommandDone } := rfl
@[simp] theorem State.endCommand_cmd (s : State) (r : CmdResult) :
    (s.endCommand r).cmd = { s.cmd with busy := false, result := r, work := .none } := rfl
@[simp] theorem State.endCommand_link (s : State) (r : CmdResult) : (s.endCommand r).link = s.link := rfl
@[simp] theorem State.endCommand_engine (s : State) (r : CmdResult) : (s.endCommand r).engine = s.engine := rfl
@[simp] theorem State.endCommand_cache (s : State) (r : CmdResult) : (s.endCommand r).cache = s.cache := rfl
@[simp] theorem State.endCommand_status (s : State) (r : CmdResult) : (s.endCommand r).status = s.status := rfl
@[simp] theorem State.endCommand_mover (s : State) (r : CmdResult) : (s.endCommand r).mover = s.mover := rfl
@[simp] theorem State.endCommand_port (s : State) (r : CmdResult) : (s.endCommand r).port = s.port := rfl
@[simp] theorem State.endCommand_retire (s : State) (r : CmdResult) : (s.endCommand r).retire = s.retire := rfl
@[simp] theorem State.endCommand_writer (s : State) (r : CmdResult) : (s.endCommand r).writer = s.writer := rfl
@[simp] theorem State.endCommand_mem (s : State) (r : CmdResult) : (s.endCommand r).mem = s.mem := rfl
@[simp] theorem State.endCommand_nextMsg (s : State) (r : CmdResult) : (s.endCommand r).nextMsg = s.nextMsg := rfl
@[simp] theorem State.endCommand_free (s : State) (r : CmdResult) : (s.endCommand r).free = s.free := rfl
@[simp] theorem State.endCommand_pending (s : State) (r : CmdResult) : (s.endCommand r).pending = s.pending := rfl

/-! ### raise -/

@[simp] theorem State.raise_resetAsserted (s : State) (k : EventKind) (c d : Byte) (a : Half) (w : Word) :
    (s.raise k c d a w).resetAsserted = s.resetAsserted := rfl
@[simp] theorem State.raise_host (s : State) (k : EventKind) (c d : Byte) (a : Half) (w : Word) :
    (s.raise k c d a w).host = s.host := rfl
@[simp] theorem State.raise_cmd (s : State) (k : EventKind) (c d : Byte) (a : Half) (w : Word) :
    (s.raise k c d a w).cmd = s.cmd := rfl
@[simp] theorem State.raise_link (s : State) (k : EventKind) (c d : Byte) (a : Half) (w : Word) :
    (s.raise k c d a w).link = s.link := rfl
@[simp] theorem State.raise_engine (s : State) (k : EventKind) (c d : Byte) (a : Half) (w : Word) :
    (s.raise k c d a w).engine = s.engine := rfl
@[simp] theorem State.raise_cache (s : State) (k : EventKind) (c d : Byte) (a : Half) (w : Word) :
    (s.raise k c d a w).cache = s.cache := rfl
@[simp] theorem State.raise_status (s : State) (k : EventKind) (c d : Byte) (a : Half) (w : Word) :
    (s.raise k c d a w).status = s.status := rfl
@[simp] theorem State.raise_mover (s : State) (k : EventKind) (c d : Byte) (a : Half) (w : Word) :
    (s.raise k c d a w).mover = s.mover := rfl
@[simp] theorem State.raise_port (s : State) (k : EventKind) (c d : Byte) (a : Half) (w : Word) :
    (s.raise k c d a w).port = s.port := rfl
@[simp] theorem State.raise_retire (s : State) (k : EventKind) (c d : Byte) (a : Half) (w : Word) :
    (s.raise k c d a w).retire = s.retire := rfl
@[simp] theorem State.raise_writer (s : State) (k : EventKind) (c d : Byte) (a : Half) (w : Word) :
    (s.raise k c d a w).writer = s.writer.take (s.link.stamped k c d a w) := rfl
@[simp] theorem State.raise_mem (s : State) (k : EventKind) (c d : Byte) (a : Half) (w : Word) :
    (s.raise k c d a w).mem = s.mem := rfl
@[simp] theorem State.raise_nextMsg (s : State) (k : EventKind) (c d : Byte) (a : Half) (w : Word) :
    (s.raise k c d a w).nextMsg = s.nextMsg := rfl
@[simp] theorem State.raise_free (s : State) (k : EventKind) (c d : Byte) (a : Half) (w : Word) :
    (s.raise k c d a w).free = s.free := rfl
@[simp] theorem State.raise_pending (s : State) (k : EventKind) (c d : Byte) (a : Half) (w : Word) :
    (s.raise k c d a w).pending = s.pending := rfl

/-! ### landed -/

@[simp] theorem State.landed_resetAsserted (s : State) : (s.landed).resetAsserted = s.resetAsserted := rfl
@[simp] theorem State.landed_host (s : State) : (s.landed).host = s.host := rfl
@[simp] theorem State.landed_cmd (s : State) : (s.landed).cmd = s.cmd := rfl
@[simp] theorem State.landed_link (s : State) : (s.landed).link = s.link := rfl
@[simp] theorem State.landed_engine (s : State) : (s.landed).engine = s.engine := rfl
@[simp] theorem State.landed_cache (s : State) : (s.landed).cache = s.cache := rfl
@[simp] theorem State.landed_status (s : State) : (s.landed).status = s.status := rfl
@[simp] theorem State.landed_mover (s : State) : (s.landed).mover = s.mover := rfl
@[simp] theorem State.landed_port (s : State) : (s.landed).port = { s.port with inFlight := none } := rfl
@[simp] theorem State.landed_retire (s : State) : (s.landed).retire = s.retire := rfl
@[simp] theorem State.landed_writer (s : State) : (s.landed).writer = s.writer := rfl
@[simp] theorem State.landed_mem (s : State) : (s.landed).mem = s.mem := rfl
@[simp] theorem State.landed_nextMsg (s : State) : (s.landed).nextMsg = s.nextMsg := rfl
@[simp] theorem State.landed_free (s : State) : (s.landed).free = s.free := rfl
@[simp] theorem State.landed_pending (s : State) : (s.landed).pending = s.pending := rfl

/-! ### writePartly -/

@[simp] theorem State.writePartly_resetAsserted (s : State) (b : Burst) :
    (s.writePartly b).resetAsserted = s.resetAsserted := rfl
@[simp] theorem State.writePartly_host (s : State) (b : Burst) : (s.writePartly b).host = s.host := rfl
@[simp] theorem State.writePartly_cmd (s : State) (b : Burst) : (s.writePartly b).cmd = s.cmd := rfl
@[simp] theorem State.writePartly_link (s : State) (b : Burst) : (s.writePartly b).link = s.link := rfl
@[simp] theorem State.writePartly_engine (s : State) (b : Burst) : (s.writePartly b).engine = s.engine := rfl
@[simp] theorem State.writePartly_cache (s : State) (b : Burst) : (s.writePartly b).cache = s.cache := rfl
@[simp] theorem State.writePartly_status (s : State) (b : Burst) : (s.writePartly b).status = s.status := rfl
@[simp] theorem State.writePartly_mover (s : State) (b : Burst) : (s.writePartly b).mover = s.mover := rfl
@[simp] theorem State.writePartly_port (s : State) (b : Burst) : (s.writePartly b).port = s.port := rfl
@[simp] theorem State.writePartly_retire (s : State) (b : Burst) : (s.writePartly b).retire = s.retire := rfl
@[simp] theorem State.writePartly_writer (s : State) (b : Burst) : (s.writePartly b).writer = s.writer := rfl
@[simp] theorem State.writePartly_mem (s : State) (b : Burst) :
    (s.writePartly b).mem = Memory.writeLanded (Config.landedWords s.free) 0 s.mem b.addr b.data := rfl
@[simp] theorem State.writePartly_nextMsg (s : State) (b : Burst) : (s.writePartly b).nextMsg = s.nextMsg := rfl
@[simp] theorem State.writePartly_free (s : State) (b : Burst) : (s.writePartly b).free = s.free + 1 := rfl
@[simp] theorem State.writePartly_pending (s : State) (b : Burst) : (s.writePartly b).pending = s.pending := rfl

/-! ### presentEntry -/

@[simp] theorem State.presentEntry_resetAsserted (s : State) (ev : Event) :
    (s.presentEntry ev).resetAsserted = s.resetAsserted := rfl
@[simp] theorem State.presentEntry_host (s : State) (ev : Event) : (s.presentEntry ev).host = s.host := rfl
@[simp] theorem State.presentEntry_cmd (s : State) (ev : Event) : (s.presentEntry ev).cmd = s.cmd := rfl
@[simp] theorem State.presentEntry_link (s : State) (ev : Event) : (s.presentEntry ev).link = s.link := rfl
@[simp] theorem State.presentEntry_engine (s : State) (ev : Event) : (s.presentEntry ev).engine = s.engine := rfl
@[simp] theorem State.presentEntry_cache (s : State) (ev : Event) : (s.presentEntry ev).cache = s.cache := rfl
@[simp] theorem State.presentEntry_status (s : State) (ev : Event) : (s.presentEntry ev).status = s.status := rfl
@[simp] theorem State.presentEntry_mover (s : State) (ev : Event) : (s.presentEntry ev).mover = s.mover := rfl
@[simp] theorem State.presentEntry_port (s : State) (ev : Event) :
    (s.presentEntry ev).port = { s.port with writer := some (s.writer.entryBurst (s.writer.forms s.link ev).2) } := rfl
@[simp] theorem State.presentEntry_retire (s : State) (ev : Event) : (s.presentEntry ev).retire = s.retire := rfl
@[simp] theorem State.presentEntry_writer (s : State) (ev : Event) :
    (s.presentEntry ev).writer = { s.writer with writing := some (s.writer.forms s.link ev).1, fullPeriod := false } := rfl
@[simp] theorem State.presentEntry_mem (s : State) (ev : Event) : (s.presentEntry ev).mem = s.mem := rfl
@[simp] theorem State.presentEntry_nextMsg (s : State) (ev : Event) : (s.presentEntry ev).nextMsg = s.nextMsg := rfl
@[simp] theorem State.presentEntry_free (s : State) (ev : Event) : (s.presentEntry ev).free = s.free := rfl
@[simp] theorem State.presentEntry_pending (s : State) (ev : Event) : (s.presentEntry ev).pending = s.pending := rfl

/-! ### presentRecord -/

@[simp] theorem State.presentRecord_resetAsserted (s : State) (step : RetireStep) (a : Addr) (w : Word) :
    (s.presentRecord step a w).resetAsserted = s.resetAsserted := rfl
@[simp] theorem State.presentRecord_host (s : State) (step : RetireStep) (a : Addr) (w : Word) :
    (s.presentRecord step a w).host = s.host := rfl
@[simp] theorem State.presentRecord_cmd (s : State) (step : RetireStep) (a : Addr) (w : Word) :
    (s.presentRecord step a w).cmd = s.cmd := rfl
@[simp] theorem State.presentRecord_link (s : State) (step : RetireStep) (a : Addr) (w : Word) :
    (s.presentRecord step a w).link = s.link := rfl
@[simp] theorem State.presentRecord_engine (s : State) (step : RetireStep) (a : Addr) (w : Word) :
    (s.presentRecord step a w).engine = s.engine := rfl
@[simp] theorem State.presentRecord_cache (s : State) (step : RetireStep) (a : Addr) (w : Word) :
    (s.presentRecord step a w).cache = s.cache := rfl
@[simp] theorem State.presentRecord_status (s : State) (step : RetireStep) (a : Addr) (w : Word) :
    (s.presentRecord step a w).status = s.status := rfl
@[simp] theorem State.presentRecord_mover (s : State) (step : RetireStep) (a : Addr) (w : Word) :
    (s.presentRecord step a w).mover = s.mover := rfl
@[simp] theorem State.presentRecord_port (s : State) (step : RetireStep) (a : Addr) (w : Word) :
    (s.presentRecord step a w).port = { s.port with retire := some (recordBurst a w) } := rfl
@[simp] theorem State.presentRecord_retire (s : State) (step : RetireStep) (a : Addr) (w : Word) :
    (s.presentRecord step a w).retire = { s.retire with step := step } := rfl
@[simp] theorem State.presentRecord_writer (s : State) (step : RetireStep) (a : Addr) (w : Word) :
    (s.presentRecord step a w).writer = s.writer := rfl
@[simp] theorem State.presentRecord_mem (s : State) (step : RetireStep) (a : Addr) (w : Word) :
    (s.presentRecord step a w).mem = s.mem := rfl
@[simp] theorem State.presentRecord_nextMsg (s : State) (step : RetireStep) (a : Addr) (w : Word) :
    (s.presentRecord step a w).nextMsg = s.nextMsg := rfl
@[simp] theorem State.presentRecord_free (s : State) (step : RetireStep) (a : Addr) (w : Word) :
    (s.presentRecord step a w).free = s.free := rfl
@[simp] theorem State.presentRecord_pending (s : State) (step : RetireStep) (a : Addr) (w : Word) :
    (s.presentRecord step a w).pending = s.pending := rfl

/-! ### releaseReservation -/

@[simp] theorem State.releaseReservation_resetAsserted (s : State) (r : Request) :
    (s.releaseReservation r).resetAsserted = s.resetAsserted := rfl
@[simp] theorem State.releaseReservation_host (s : State) (r : Request) :
    (s.releaseReservation r).host = s.host := rfl
@[simp] theorem State.releaseReservation_cmd (s : State) (r : Request) : (s.releaseReservation r).cmd = s.cmd := rfl
@[simp] theorem State.releaseReservation_link (s : State) (r : Request) :
    (s.releaseReservation r).link = s.link := rfl
@[simp] theorem State.releaseReservation_engine (s : State) (r : Request) :
    (s.releaseReservation r).engine = s.engine := rfl
@[simp] theorem State.releaseReservation_cache (s : State) (r : Request) :
    (s.releaseReservation r).cache = s.cache := rfl
@[simp] theorem State.releaseReservation_status (s : State) (r : Request) :
    (s.releaseReservation r).status = s.status := rfl
@[simp] theorem State.releaseReservation_mover (s : State) (r : Request) :
    (s.releaseReservation r).mover = s.mover := rfl
@[simp] theorem State.releaseReservation_port (s : State) (r : Request) :
    (s.releaseReservation r).port = s.port := rfl
@[simp] theorem State.releaseReservation_retire (s : State) (r : Request) :
    (s.releaseReservation r).retire = { s.retire with
      queue := s.retire.queue.filter fun x => x.filled || decide (x.msg ≠ r.msg) } := rfl
@[simp] theorem State.releaseReservation_writer (s : State) (r : Request) :
    (s.releaseReservation r).writer = s.writer := rfl
@[simp] theorem State.releaseReservation_mem (s : State) (r : Request) : (s.releaseReservation r).mem = s.mem := rfl
@[simp] theorem State.releaseReservation_nextMsg (s : State) (r : Request) :
    (s.releaseReservation r).nextMsg = s.nextMsg := rfl
@[simp] theorem State.releaseReservation_free (s : State) (r : Request) :
    (s.releaseReservation r).free = s.free := rfl
@[simp] theorem State.releaseReservation_pending (s : State) (r : Request) :
    (s.releaseReservation r).pending = s.pending := rfl

/-! ### reportStoresEnd -/

@[simp] theorem State.reportStoresEnd_resetAsserted (s : State) (msg : Nat) (f : Bool) :
    (s.reportStoresEnd msg f).resetAsserted = s.resetAsserted := rfl
@[simp] theorem State.reportStoresEnd_host (s : State) (msg : Nat) (f : Bool) :
    (s.reportStoresEnd msg f).host = s.host := rfl
@[simp] theorem State.reportStoresEnd_cmd (s : State) (msg : Nat) (f : Bool) :
    (s.reportStoresEnd msg f).cmd = s.cmd := rfl
@[simp] theorem State.reportStoresEnd_link (s : State) (msg : Nat) (f : Bool) :
    (s.reportStoresEnd msg f).link = s.link := rfl
@[simp] theorem State.reportStoresEnd_engine (s : State) (msg : Nat) (f : Bool) :
    (s.reportStoresEnd msg f).engine = s.engine := rfl
@[simp] theorem State.reportStoresEnd_cache (s : State) (msg : Nat) (f : Bool) :
    (s.reportStoresEnd msg f).cache = s.cache := rfl
@[simp] theorem State.reportStoresEnd_status (s : State) (msg : Nat) (f : Bool) :
    (s.reportStoresEnd msg f).status = s.status := rfl
@[simp] theorem State.reportStoresEnd_mover (s : State) (msg : Nat) (f : Bool) :
    (s.reportStoresEnd msg f).mover = s.mover := rfl
@[simp] theorem State.reportStoresEnd_port (s : State) (msg : Nat) (f : Bool) :
    (s.reportStoresEnd msg f).port = s.port := rfl
@[simp] theorem State.reportStoresEnd_retire (s : State) (msg : Nat) (f : Bool) :
    (s.reportStoresEnd msg f).retire = { s.retire with queue := s.retire.queue.map fun c =>
      if c.msg = msg ∧ c.storesPending = true then c.storesEnd f else c } := rfl
@[simp] theorem State.reportStoresEnd_writer (s : State) (msg : Nat) (f : Bool) :
    (s.reportStoresEnd msg f).writer = s.writer := rfl
@[simp] theorem State.reportStoresEnd_mem (s : State) (msg : Nat) (f : Bool) :
    (s.reportStoresEnd msg f).mem = s.mem := rfl
@[simp] theorem State.reportStoresEnd_nextMsg (s : State) (msg : Nat) (f : Bool) :
    (s.reportStoresEnd msg f).nextMsg = s.nextMsg := rfl
@[simp] theorem State.reportStoresEnd_free (s : State) (msg : Nat) (f : Bool) :
    (s.reportStoresEnd msg f).free = s.free := rfl
@[simp] theorem State.reportStoresEnd_pending (s : State) (msg : Nat) (f : Bool) :
    (s.reportStoresEnd msg f).pending = s.pending := rfl

/-! ### sweepSegments -/

@[simp] theorem State.sweepSegments_resetAsserted (s : State) :
    (s.sweepSegments).resetAsserted = s.resetAsserted := rfl
@[simp] theorem State.sweepSegments_host (s : State) : (s.sweepSegments).host = s.host := rfl
@[simp] theorem State.sweepSegments_cmd (s : State) : (s.sweepSegments).cmd = s.cmd := rfl
@[simp] theorem State.sweepSegments_link (s : State) : (s.sweepSegments).link = s.link := rfl
@[simp] theorem State.sweepSegments_engine (s : State) : (s.sweepSegments).engine = s.engine := rfl
@[simp] theorem State.sweepSegments_cache (s : State) : (s.sweepSegments).cache = s.cache := rfl
@[simp] theorem State.sweepSegments_status (s : State) : (s.sweepSegments).status = s.status := rfl
@[simp] theorem State.sweepSegments_mover (s : State) :
    (s.sweepSegments).mover = { s.mover with
      segments := s.mover.segments.filter fun x => x.stays (s.port.carried x.msg).isSome } := rfl
@[simp] theorem State.sweepSegments_port (s : State) : (s.sweepSegments).port = s.port := rfl
@[simp] theorem State.sweepSegments_retire (s : State) : (s.sweepSegments).retire = s.retire := rfl
@[simp] theorem State.sweepSegments_writer (s : State) : (s.sweepSegments).writer = s.writer := rfl
@[simp] theorem State.sweepSegments_mem (s : State) : (s.sweepSegments).mem = s.mem := rfl
@[simp] theorem State.sweepSegments_nextMsg (s : State) : (s.sweepSegments).nextMsg = s.nextMsg := rfl
@[simp] theorem State.sweepSegments_free (s : State) : (s.sweepSegments).free = s.free := rfl
@[simp] theorem State.sweepSegments_pending (s : State) : (s.sweepSegments).pending = s.pending := rfl

/-! ### leaveRequest -/

@[simp] theorem State.leaveRequest_resetAsserted (s : State) (r : Request) :
    (s.leaveRequest r).resetAsserted = s.resetAsserted := rfl
@[simp] theorem State.leaveRequest_host (s : State) (r : Request) : (s.leaveRequest r).host = s.host := rfl
@[simp] theorem State.leaveRequest_cmd (s : State) (r : Request) : (s.leaveRequest r).cmd = s.cmd := rfl
@[simp] theorem State.leaveRequest_link (s : State) (r : Request) : (s.leaveRequest r).link = s.link := rfl
@[simp] theorem State.leaveRequest_engine (s : State) (r : Request) : (s.leaveRequest r).engine = none := rfl
@[simp] theorem State.leaveRequest_cache (s : State) (r : Request) :
    (s.leaveRequest r).cache = match r.entry with
      | some e => s.cache.setInUse e false
      | none => s.cache := rfl
@[simp] theorem State.leaveRequest_status (s : State) (r : Request) : (s.leaveRequest r).status = s.status := rfl
@[simp] theorem State.leaveRequest_mover (s : State) (r : Request) : (s.leaveRequest r).mover = s.mover := rfl
@[simp] theorem State.leaveRequest_port (s : State) (r : Request) : (s.leaveRequest r).port = s.port := rfl
@[simp] theorem State.leaveRequest_retire (s : State) (r : Request) : (s.leaveRequest r).retire = s.retire := rfl
@[simp] theorem State.leaveRequest_writer (s : State) (r : Request) : (s.leaveRequest r).writer = s.writer := rfl
@[simp] theorem State.leaveRequest_mem (s : State) (r : Request) : (s.leaveRequest r).mem = s.mem := rfl
@[simp] theorem State.leaveRequest_nextMsg (s : State) (r : Request) : (s.leaveRequest r).nextMsg = s.nextMsg := rfl
@[simp] theorem State.leaveRequest_free (s : State) (r : Request) : (s.leaveRequest r).free = s.free := rfl
@[simp] theorem State.leaveRequest_pending (s : State) (r : Request) : (s.leaveRequest r).pending = s.pending := rfl

/-! ### advance -/

@[simp] theorem State.advance_resetAsserted (s : State) (r : Request) (e : EntryIx) (a : Advance) :
    (s.advance r e a).resetAsserted = s.resetAsserted := rfl
@[simp] theorem State.advance_host (s : State) (r : Request) (e : EntryIx) (a : Advance) :
    (s.advance r e a).host = s.host := rfl
@[simp] theorem State.advance_cmd (s : State) (r : Request) (e : EntryIx) (a : Advance) :
    (s.advance r e a).cmd = s.cmd := rfl
@[simp] theorem State.advance_link (s : State) (r : Request) (e : EntryIx) (a : Advance) :
    (s.advance r e a).link = s.link := rfl
@[simp] theorem State.advance_engine (s : State) (r : Request) (e : EntryIx) (a : Advance) :
    (s.advance r e a).engine = s.engine := rfl
@[simp] theorem State.advance_cache (s : State) (r : Request) (e : EntryIx) (a : Advance) :
    (s.advance r e a).cache = s.cache.change e fun _ => a.context := rfl
@[simp] theorem State.advance_status (s : State) (r : Request) (e : EntryIx) (a : Advance) :
    (s.advance r e a).status = modifyAt s.status r.channel fun x =>
      { x with returned := a.returned, seqValid := true } := rfl
@[simp] theorem State.advance_mover (s : State) (r : Request) (e : EntryIx) (a : Advance) :
    (s.advance r e a).mover = s.mover := rfl
@[simp] theorem State.advance_port (s : State) (r : Request) (e : EntryIx) (a : Advance) :
    (s.advance r e a).port = s.port := rfl
@[simp] theorem State.advance_retire (s : State) (r : Request) (e : EntryIx) (a : Advance) :
    (s.advance r e a).retire = s.retire := rfl
@[simp] theorem State.advance_writer (s : State) (r : Request) (e : EntryIx) (a : Advance) :
    (s.advance r e a).writer = s.writer := rfl
@[simp] theorem State.advance_mem (s : State) (r : Request) (e : EntryIx) (a : Advance) :
    (s.advance r e a).mem = s.mem := rfl
@[simp] theorem State.advance_nextMsg (s : State) (r : Request) (e : EntryIx) (a : Advance) :
    (s.advance r e a).nextMsg = s.nextMsg := rfl
@[simp] theorem State.advance_free (s : State) (r : Request) (e : EntryIx) (a : Advance) :
    (s.advance r e a).free = s.free := rfl
@[simp] theorem State.advance_pending (s : State) (r : Request) (e : EntryIx) (a : Advance) :
    (s.advance r e a).pending = s.pending := rfl

/-! ### transmit -/

@[simp] theorem State.transmit_resetAsserted (s : State) (o : OwedReply) (c : ReplyCode) (n : Byte) (body : List Byte) (data : Bool)
    (left : Nat) :
    (s.transmit o c n body data left).resetAsserted = s.resetAsserted := rfl
@[simp] theorem State.transmit_host (s : State) (o : OwedReply) (c : ReplyCode) (n : Byte) (body : List Byte) (data : Bool)
    (left : Nat) :
    (s.transmit o c n body data left).host = s.host := rfl
@[simp] theorem State.transmit_cmd (s : State) (o : OwedReply) (c : ReplyCode) (n : Byte) (body : List Byte) (data : Bool)
    (left : Nat) :
    (s.transmit o c n body data left).cmd = s.cmd := rfl
@[simp] theorem State.transmit_link (s : State) (o : OwedReply) (c : ReplyCode) (n : Byte) (body : List Byte) (data : Bool)
    (left : Nat) :
    (s.transmit o c n body data left).link = { s.link with
      rx := .replying ⟨data, left, 0, false⟩
      lineOut := .control 0x5A ::
        (replyHeader c o.seq s.host.nodeAddress o.channel n ++ body).map LineSymbol.data } := rfl
@[simp] theorem State.transmit_engine (s : State) (o : OwedReply) (c : ReplyCode) (n : Byte) (body : List Byte) (data : Bool)
    (left : Nat) :
    (s.transmit o c n body data left).engine = s.engine := rfl
@[simp] theorem State.transmit_cache (s : State) (o : OwedReply) (c : ReplyCode) (n : Byte) (body : List Byte) (data : Bool)
    (left : Nat) :
    (s.transmit o c n body data left).cache = s.cache := rfl
@[simp] theorem State.transmit_status (s : State) (o : OwedReply) (c : ReplyCode) (n : Byte) (body : List Byte) (data : Bool)
    (left : Nat) :
    (s.transmit o c n body data left).status = s.status := rfl
@[simp] theorem State.transmit_mover (s : State) (o : OwedReply) (c : ReplyCode) (n : Byte) (body : List Byte) (data : Bool)
    (left : Nat) :
    (s.transmit o c n body data left).mover = s.mover := rfl
@[simp] theorem State.transmit_port (s : State) (o : OwedReply) (c : ReplyCode) (n : Byte) (body : List Byte) (data : Bool)
    (left : Nat) :
    (s.transmit o c n body data left).port = s.port := rfl
@[simp] theorem State.transmit_retire (s : State) (o : OwedReply) (c : ReplyCode) (n : Byte) (body : List Byte) (data : Bool)
    (left : Nat) :
    (s.transmit o c n body data left).retire = s.retire := rfl
@[simp] theorem State.transmit_writer (s : State) (o : OwedReply) (c : ReplyCode) (n : Byte) (body : List Byte) (data : Bool)
    (left : Nat) :
    (s.transmit o c n body data left).writer = s.writer := rfl
@[simp] theorem State.transmit_mem (s : State) (o : OwedReply) (c : ReplyCode) (n : Byte) (body : List Byte) (data : Bool)
    (left : Nat) :
    (s.transmit o c n body data left).mem = s.mem := rfl
@[simp] theorem State.transmit_nextMsg (s : State) (o : OwedReply) (c : ReplyCode) (n : Byte) (body : List Byte) (data : Bool)
    (left : Nat) :
    (s.transmit o c n body data left).nextMsg = s.nextMsg := rfl
@[simp] theorem State.transmit_free (s : State) (o : OwedReply) (c : ReplyCode) (n : Byte) (body : List Byte) (data : Bool)
    (left : Nat) :
    (s.transmit o c n body data left).free = s.free := rfl
@[simp] theorem State.transmit_pending (s : State) (o : OwedReply) (c : ReplyCode) (n : Byte) (body : List Byte) (data : Bool)
    (left : Nat) :
    (s.transmit o c n body data left).pending = s.pending := rfl

/-! ### enterHoldWait -/

@[simp] theorem State.enterHoldWait_resetAsserted (s : State) (n : Channel) :
    (s.enterHoldWait n).resetAsserted = s.resetAsserted := rfl
@[simp] theorem State.enterHoldWait_host (s : State) (n : Channel) : (s.enterHoldWait n).host = s.host := rfl
@[simp] theorem State.enterHoldWait_cmd (s : State) (n : Channel) :
    (s.enterHoldWait n).cmd = { s.cmd with work := .hold n } := rfl
@[simp] theorem State.enterHoldWait_link (s : State) (n : Channel) : (s.enterHoldWait n).link = s.link := rfl
@[simp] theorem State.enterHoldWait_engine (s : State) (n : Channel) :
    (s.enterHoldWait n).engine = s.engine.map Request.beforeHold := rfl
@[simp] theorem State.enterHoldWait_cache (s : State) (n : Channel) : (s.enterHoldWait n).cache = s.cache := rfl
@[simp] theorem State.enterHoldWait_status (s : State) (n : Channel) :
    (s.enterHoldWait n).status = modifyAt s.status n fun x => { x with hold := .holdWait } := rfl
@[simp] theorem State.enterHoldWait_mover (s : State) (n : Channel) : (s.enterHoldWait n).mover = s.mover := rfl
@[simp] theorem State.enterHoldWait_port (s : State) (n : Channel) : (s.enterHoldWait n).port = s.port := rfl
@[simp] theorem State.enterHoldWait_retire (s : State) (n : Channel) : (s.enterHoldWait n).retire = s.retire := rfl
@[simp] theorem State.enterHoldWait_writer (s : State) (n : Channel) : (s.enterHoldWait n).writer = s.writer := rfl
@[simp] theorem State.enterHoldWait_mem (s : State) (n : Channel) : (s.enterHoldWait n).mem = s.mem := rfl
@[simp] theorem State.enterHoldWait_nextMsg (s : State) (n : Channel) : (s.enterHoldWait n).nextMsg = s.nextMsg := rfl
@[simp] theorem State.enterHoldWait_free (s : State) (n : Channel) : (s.enterHoldWait n).free = s.free := rfl
@[simp] theorem State.enterHoldWait_pending (s : State) (n : Channel) : (s.enterHoldWait n).pending = s.pending := rfl

/-! ### withPending -/

@[simp] theorem State.withPending_resetAsserted (s : State) (q : List Instr) :
    (s.withPending q).resetAsserted = s.resetAsserted := rfl
@[simp] theorem State.withPending_host (s : State) (q : List Instr) : (s.withPending q).host = s.host := rfl
@[simp] theorem State.withPending_cmd (s : State) (q : List Instr) : (s.withPending q).cmd = s.cmd := rfl
@[simp] theorem State.withPending_link (s : State) (q : List Instr) : (s.withPending q).link = s.link := rfl
@[simp] theorem State.withPending_engine (s : State) (q : List Instr) : (s.withPending q).engine = s.engine := rfl
@[simp] theorem State.withPending_cache (s : State) (q : List Instr) : (s.withPending q).cache = s.cache := rfl
@[simp] theorem State.withPending_status (s : State) (q : List Instr) : (s.withPending q).status = s.status := rfl
@[simp] theorem State.withPending_mover (s : State) (q : List Instr) : (s.withPending q).mover = s.mover := rfl
@[simp] theorem State.withPending_port (s : State) (q : List Instr) : (s.withPending q).port = s.port := rfl
@[simp] theorem State.withPending_retire (s : State) (q : List Instr) : (s.withPending q).retire = s.retire := rfl
@[simp] theorem State.withPending_writer (s : State) (q : List Instr) : (s.withPending q).writer = s.writer := rfl
@[simp] theorem State.withPending_mem (s : State) (q : List Instr) : (s.withPending q).mem = s.mem := rfl
@[simp] theorem State.withPending_nextMsg (s : State) (q : List Instr) : (s.withPending q).nextMsg = s.nextMsg := rfl
@[simp] theorem State.withPending_free (s : State) (q : List Instr) : (s.withPending q).free = s.free := rfl
@[simp] theorem State.withPending_pending (s : State) (q : List Instr) : (s.withPending q).pending = q := rfl

end Sys2Proof.Machine
end

