-- ==== Sys2Proof/Laws/Cache.lean ====
section
/-! SUPPORT. Entries and channel records: what reading one gives after each update, and what a search of the cache
finds. -/

namespace Sys2Proof.Machine

theorem modifyAt_get {α : Type} {k : Nat} (v : Vector α k) (i j : Fin k) (f : α → α) :
    (modifyAt v i f)[j.val]'j.isLt = if j = i then f (v[i.val]'i.isLt) else v[j.val]'j.isLt := by
  unfold modifyAt
  rw [Vector.getElem_set]
  by_cases h : j = i
  · subst h; simp
  · have : i.val ≠ j.val := fun h' => h (Fin.ext h'.symm)
    simp [h, this]

/-! ### Channel records -/

/-- A record after one record has changed. -/
theorem State.record_setRecord (s : State) (n m : Channel) (f : ChannelRecord → ChannelRecord) :
    (s.setRecord n f).record m = if m = n then f (s.record n) else s.record m :=
  modifyAt_get s.status n m f

@[simp] theorem State.record_clearSeqValid (s : State) (n : Channel) :
    s.clearSeqValid.record n = { s.record n with seqValid := false } := by
  simp [State.record]

/-- The record depends on the status table alone. -/
theorem State.record_congr {s t : State} (h : t.status = s.status) (n : Channel) : t.record n = s.record n := by
  simp [State.record, h]

/-! ### Entries -/

theorem Cache.entry_modify (c : Cache) (e g : EntryIx) (f : Entry → Entry) :
    (c.modify e f).entry g = if g = e then f (c.entry e) else c.entry g :=
  modifyAt_get c.entries e g f

@[simp] theorem Cache.entry_modify_self (c : Cache) (e : EntryIx) (f : Entry → Entry) :
    (c.modify e f).entry e = f (c.entry e) := by simp [Cache.entry_modify]

@[simp] theorem Cache.entry_modify_ne (c : Cache) {e g : EntryIx} (f : Entry → Entry) (h : g ≠ e) :
    (c.modify e f).entry g = c.entry g := by simp [Cache.entry_modify, h]

@[simp] theorem Cache.modify_fills (c : Cache) (e : EntryIx) (f : Entry → Entry) : (c.modify e f).fills = c.fills := rfl
@[simp] theorem Cache.modify_due (c : Cache) (e : EntryIx) (f : Entry → Entry) : (c.modify e f).due = c.due := rfl

/-- An entry depends on the entries alone. -/
theorem Cache.entry_congr {c d : Cache} (h : d.entries = c.entries) (e : EntryIx) : d.entry e = c.entry e := by
  simp [Cache.entry, h]

/-- An entry whose age alone depends on a condition. -/
theorem apply_ite_age (p : Prop) [Decidable p] (x : Entry) (a : Nat) :
    (if p then { x with age := a } else x) = { x with age := if p then a else x.age } := by
  split <;> rfl

/-- What a touch of `e` does to entry `g` (R87). -/
theorem Cache.entry_touch (c : Cache) (e g : EntryIx) :
    (c.touch e).entry g = { c.entry g with
      age := if g = e then 0 else if (c.entry g).age < (c.entry e).age then (c.entry g).age + 1 else (c.entry g).age } := by
  unfold Cache.touch
  rw [Cache.entry_modify]
  by_cases h : g = e
  · subst h; simp [Cache.entry]
  · simp only [h, if_false, Cache.entry, Vector.getElem_map]
    exact apply_ite_age _ _ _

/-- What sending `e` to age 15 does to entry `g` (R87). -/
theorem Cache.entry_toOldest (c : Cache) (e g : EntryIx) :
    (c.toOldest e).entry g = { c.entry g with
      age := if g = e then 15 else if (c.entry e).age < (c.entry g).age then (c.entry g).age - 1 else (c.entry g).age } := by
  unfold Cache.toOldest
  rw [Cache.entry_modify]
  by_cases h : g = e
  · subst h; simp [Cache.entry]
  · simp only [h, if_false, Cache.entry, Vector.getElem_map]
    exact apply_ite_age _ _ _

@[simp] theorem Cache.touch_fills (c : Cache) (e : EntryIx) : (c.touch e).fills = c.fills := rfl
@[simp] theorem Cache.touch_due (c : Cache) (e : EntryIx) : (c.touch e).due = c.due := rfl
@[simp] theorem Cache.toOldest_fills (c : Cache) (e : EntryIx) : (c.toOldest e).fills = c.fills := rfl
@[simp] theorem Cache.toOldest_due (c : Cache) (e : EntryIx) : (c.toOldest e).due = c.due := rfl

/-- What invalidating `e` does to entry `g` (R87). -/
theorem Cache.entry_invalidate (c : Cache) (e g : EntryIx) :
    (c.invalidate e).entry g = if g = e then { c.entry e with state := .invalid, age := 15, inUse := false, next := none }
      else { c.entry g with
        age := if (c.entry e).age < (c.entry g).age then (c.entry g).age - 1 else (c.entry g).age } := by
  unfold Cache.invalidate
  rw [Cache.entry_modify]
  by_cases h : g = e
  · subst h; simp [Cache.entry_toOldest]
  · simp [h, Cache.entry_toOldest]

@[simp] theorem Cache.invalidate_fills (c : Cache) (e : EntryIx) : (c.invalidate e).fills = c.fills := rfl
@[simp] theorem Cache.invalidate_due (c : Cache) (e : EntryIx) : (c.invalidate e).due = c.due := rfl

/-- What beginning a fill of `n` in `e` does to entry `g` (R90). -/
theorem Cache.entry_beginFill (c : Cache) (e g : EntryIx) (n : Channel) :
    (c.beginFill e n).entry g =
      if g = e then { c.entry e with tag := n, state := .filling, age := 15, inUse := false, next := none }
      else { c.entry g with
        age := if (c.entry e).age < (c.entry g).age then (c.entry g).age - 1 else (c.entry g).age } := by
  unfold Cache.beginFill
  rw [Cache.entry_modify]
  by_cases h : g = e
  · subst h; simp [Cache.entry_toOldest]
  · simp [h, Cache.entry_toOldest]

@[simp] theorem Cache.beginFill_fills (c : Cache) (e : EntryIx) (n : Channel) : (c.beginFill e n).fills = c.fills := rfl
@[simp] theorem Cache.beginFill_due (c : Cache) (e : EntryIx) (n : Channel) : (c.beginFill e n).due = c.due := rfl

theorem Cache.entry_change (c : Cache) (e g : EntryIx) (f : Descriptor → Descriptor) :
    (c.change e f).entry g = if g = e then
      { c.entry e with context := f (c.entry e).context, state := (c.entry e).state.changed } else c.entry g :=
  Cache.entry_modify c e g _

theorem Cache.entry_setInUse (c : Cache) (e g : EntryIx) (b : Bool) :
    (c.setInUse e b).entry g = if g = e then { c.entry e with inUse := b } else c.entry g :=
  Cache.entry_modify c e g _

theorem Cache.entry_beginEvict (c : Cache) (e g : EntryIx) (next : Option Channel) :
    (c.beginEvict e next).entry g = if g = e then
      { c.entry e with state := .evicting, snapshot := (c.entry e).context, next := next } else c.entry g :=
  Cache.entry_modify c e g _

theorem Cache.entry_beginWrite (c : Cache) (e g : EntryIx) :
    (c.beginWrite e).entry g = if g = e then
      { c.entry e with state := .writing, snapshot := (c.entry e).context } else c.entry g :=
  Cache.entry_modify c e g _

theorem Cache.entry_writeCompletes (c : Cache) (e g : EntryIx) :
    (c.writeCompletes e).entry g = if g = e then
      { c.entry e with state := (c.entry e).state.written } else c.entry g :=
  Cache.entry_modify c e g _

/-- A change of the fills or of the bursts due leaves every entry as it is. -/
@[simp] theorem Cache.entry_withFills (c : Cache) (l : List Channel) (e : EntryIx) :
    Cache.entry { c with fills := l } e = c.entry e := rfl

@[simp] theorem Cache.entry_withDue (c : Cache) (l : List CacheBurst) (e : EntryIx) :
    Cache.entry { c with due := l } e = c.entry e := rfl

@[simp] theorem Cache.entry_withdrawFill (c : Cache) (n : Channel) (e : EntryIx) :
    (c.withdrawFill n).entry e = c.entry e := rfl

/-- A request for a fill changes the pending fills alone (R89). -/
theorem Cache.requestFill_eq (c : Cache) (n : Channel) :
    c.requestFill n = c ∨ c.requestFill n = { c with fills := c.fills ++ [n] } := by
  unfold Cache.requestFill
  repeat' split
  all_goals simp

@[simp] theorem Cache.entry_requestFill (c : Cache) (n : Channel) (e : EntryIx) :
    (c.requestFill n).entry e = c.entry e := by
  obtain h | h := c.requestFill_eq n <;> rw [h] <;> rfl

/-! ### Searches -/

theorem mem_entryOrder (e : EntryIx) : e ∈ entryOrder := by
  fin_cases e
  all_goals decide

/-- An entry a search finds is not INVALID and has the tag searched for (R88). -/
theorem Cache.find_some {c : Cache} {n : Channel} {e : EntryIx} (h : c.find n = some e) :
    (c.entry e).tag = n ∧ (c.entry e).state ≠ .invalid := by
  have := List.find?_some h
  simpa using this

/-- No entry is found exactly when every entry of the tag is INVALID (R88). -/
theorem Cache.find_none {c : Cache} {n : Channel} : c.find n = none ↔ c.Absent n := by
  simp [Cache.find, List.find?_eq_none, Cache.Absent, mem_entryOrder]

end Sys2Proof.Machine
end

