-- ==== Sys2Proof/Laws/Frames.lean ====
section
/-! SUPPORT. The frame of each shared operation: every field of State it leaves unchanged, whatever branch it takes. -/

namespace Sys2Proof.Machine


/-! ### The event writer -/

@[simp] theorem State.beginFullPeriod_frame (s : State) :
    (s.beginFullPeriod).resetAsserted = s.resetAsserted ∧ (s.beginFullPeriod).cmd = s.cmd ∧
    (s.beginFullPeriod).link = s.link ∧ (s.beginFullPeriod).engine = s.engine ∧ (s.beginFullPeriod).cache = s.cache ∧
    (s.beginFullPeriod).status = s.status ∧ (s.beginFullPeriod).mover = s.mover ∧ (s.beginFullPeriod).port = s.port ∧
    (s.beginFullPeriod).retire = s.retire ∧ (s.beginFullPeriod).mem = s.mem ∧
    (s.beginFullPeriod).nextMsg = s.nextMsg ∧ (s.beginFullPeriod).free = s.free ∧
    (s.beginFullPeriod).pending = s.pending := by
  unfold State.beginFullPeriod
  repeat' split
  all_goals simp

@[simp] theorem State.dropPending_frame (s : State) :
    (s.dropPending).resetAsserted = s.resetAsserted ∧ (s.dropPending).cmd = s.cmd ∧ (s.dropPending).link = s.link ∧
    (s.dropPending).engine = s.engine ∧ (s.dropPending).cache = s.cache ∧ (s.dropPending).status = s.status ∧
    (s.dropPending).mover = s.mover ∧ (s.dropPending).port = s.port ∧ (s.dropPending).retire = s.retire ∧
    (s.dropPending).mem = s.mem ∧ (s.dropPending).nextMsg = s.nextMsg ∧ (s.dropPending).free = s.free ∧
    (s.dropPending).pending = s.pending := by
  simp [State.dropPending]

@[simp] theorem State.writerLook_frame (s : State) :
    (s.writerLook).resetAsserted = s.resetAsserted ∧ (s.writerLook).cmd = s.cmd ∧ (s.writerLook).link = s.link ∧
    (s.writerLook).engine = s.engine ∧ (s.writerLook).cache = s.cache ∧ (s.writerLook).status = s.status ∧
    (s.writerLook).mover = s.mover ∧ (s.writerLook).retire = s.retire ∧ (s.writerLook).mem = s.mem ∧
    (s.writerLook).nextMsg = s.nextMsg ∧ (s.writerLook).free = s.free ∧ (s.writerLook).pending = s.pending := by
  unfold State.writerLook
  repeat' split
  all_goals simp


/-! ### The context cache -/

@[simp] theorem State.presentCache_frame (s : State) :
    (s.presentCache).resetAsserted = s.resetAsserted ∧ (s.presentCache).host = s.host ∧
    (s.presentCache).cmd = s.cmd ∧ (s.presentCache).link = s.link ∧ (s.presentCache).engine = s.engine ∧
    (s.presentCache).status = s.status ∧ (s.presentCache).mover = s.mover ∧ (s.presentCache).retire = s.retire ∧
    (s.presentCache).writer = s.writer ∧ (s.presentCache).mem = s.mem ∧ (s.presentCache).nextMsg = s.nextMsg ∧
    (s.presentCache).free = s.free ∧ (s.presentCache).pending = s.pending := by
  unfold State.presentCache
  repeat' split
  all_goals simp

@[simp] theorem State.cacheDue_frame (s : State) (b : CacheBurst) :
    (s.cacheDue b).resetAsserted = s.resetAsserted ∧ (s.cacheDue b).host = s.host ∧ (s.cacheDue b).cmd = s.cmd ∧
    (s.cacheDue b).link = s.link ∧ (s.cacheDue b).engine = s.engine ∧ (s.cacheDue b).status = s.status ∧
    (s.cacheDue b).mover = s.mover ∧ (s.cacheDue b).retire = s.retire ∧ (s.cacheDue b).writer = s.writer ∧
    (s.cacheDue b).mem = s.mem ∧ (s.cacheDue b).nextMsg = s.nextMsg ∧ (s.cacheDue b).free = s.free ∧
    (s.cacheDue b).pending = s.pending := by
  simp [State.cacheDue]

@[simp] theorem State.beginInvalidation_frame (s : State) (e : EntryIx) :
    (s.beginInvalidation e).resetAsserted = s.resetAsserted ∧ (s.beginInvalidation e).host = s.host ∧
    (s.beginInvalidation e).cmd = s.cmd ∧ (s.beginInvalidation e).link = s.link ∧
    (s.beginInvalidation e).engine = s.engine ∧ (s.beginInvalidation e).status = s.status ∧
    (s.beginInvalidation e).mover = s.mover ∧ (s.beginInvalidation e).retire = s.retire ∧
    (s.beginInvalidation e).writer = s.writer ∧ (s.beginInvalidation e).mem = s.mem ∧
    (s.beginInvalidation e).nextMsg = s.nextMsg ∧ (s.beginInvalidation e).free = s.free ∧
    (s.beginInvalidation e).pending = s.pending := by
  simp [State.beginInvalidation]

@[simp] theorem State.beginFlushCastout_frame (s : State) (e : EntryIx) :
    (s.beginFlushCastout e).resetAsserted = s.resetAsserted ∧ (s.beginFlushCastout e).host = s.host ∧
    (s.beginFlushCastout e).cmd = s.cmd ∧ (s.beginFlushCastout e).link = s.link ∧
    (s.beginFlushCastout e).engine = s.engine ∧ (s.beginFlushCastout e).status = s.status ∧
    (s.beginFlushCastout e).mover = s.mover ∧ (s.beginFlushCastout e).retire = s.retire ∧
    (s.beginFlushCastout e).writer = s.writer ∧ (s.beginFlushCastout e).mem = s.mem ∧
    (s.beginFlushCastout e).nextMsg = s.nextMsg ∧ (s.beginFlushCastout e).free = s.free ∧
    (s.beginFlushCastout e).pending = s.pending := by
  simp [State.beginFlushCastout]

@[simp] theorem State.burstWrites_frame (s : State) (b : Burst) (r : WriteEnd) :
    (s.burstWrites b r).resetAsserted = s.resetAsserted ∧ (s.burstWrites b r).host = s.host ∧
    (s.burstWrites b r).cmd = s.cmd ∧ (s.burstWrites b r).link = s.link ∧ (s.burstWrites b r).engine = s.engine ∧
    (s.burstWrites b r).cache = s.cache ∧ (s.burstWrites b r).status = s.status ∧
    (s.burstWrites b r).mover = s.mover ∧ (s.burstWrites b r).port = s.port ∧ (s.burstWrites b r).retire = s.retire ∧
    (s.burstWrites b r).writer = s.writer ∧ (s.burstWrites b r).nextMsg = s.nextMsg ∧
    (s.burstWrites b r).pending = s.pending := by
  unfold State.burstWrites
  repeat' split
  all_goals simp


/-! ### The data mover -/

@[simp] theorem State.presentStore_frame (s : State) :
    (s.presentStore).resetAsserted = s.resetAsserted ∧ (s.presentStore).host = s.host ∧
    (s.presentStore).cmd = s.cmd ∧ (s.presentStore).link = s.link ∧ (s.presentStore).engine = s.engine ∧
    (s.presentStore).cache = s.cache ∧ (s.presentStore).status = s.status ∧ (s.presentStore).mover = s.mover ∧
    (s.presentStore).retire = s.retire ∧ (s.presentStore).writer = s.writer ∧ (s.presentStore).mem = s.mem ∧
    (s.presentStore).nextMsg = s.nextMsg ∧ (s.presentStore).free = s.free ∧ (s.presentStore).pending = s.pending := by
  unfold State.presentStore
  repeat' split
  all_goals simp

@[simp] theorem State.discardSegment_frame (s : State) (msg : Nat) :
    (s.discardSegment msg).resetAsserted = s.resetAsserted ∧ (s.discardSegment msg).host = s.host ∧
    (s.discardSegment msg).cmd = s.cmd ∧ (s.discardSegment msg).link = s.link ∧
    (s.discardSegment msg).engine = s.engine ∧ (s.discardSegment msg).cache = s.cache ∧
    (s.discardSegment msg).status = s.status ∧ (s.discardSegment msg).retire = s.retire ∧
    (s.discardSegment msg).writer = s.writer ∧ (s.discardSegment msg).mem = s.mem ∧
    (s.discardSegment msg).nextMsg = s.nextMsg ∧ (s.discardSegment msg).free = s.free ∧
    (s.discardSegment msg).pending = s.pending := by
  unfold State.discardSegment
  repeat' split
  all_goals simp

@[simp] theorem State.endSegmentFrame_frame (s : State) (msg : Nat) :
    (s.endSegmentFrame msg).resetAsserted = s.resetAsserted ∧ (s.endSegmentFrame msg).host = s.host ∧
    (s.endSegmentFrame msg).cmd = s.cmd ∧ (s.endSegmentFrame msg).link = s.link ∧
    (s.endSegmentFrame msg).engine = s.engine ∧ (s.endSegmentFrame msg).cache = s.cache ∧
    (s.endSegmentFrame msg).status = s.status ∧ (s.endSegmentFrame msg).retire = s.retire ∧
    (s.endSegmentFrame msg).writer = s.writer ∧ (s.endSegmentFrame msg).mem = s.mem ∧
    (s.endSegmentFrame msg).nextMsg = s.nextMsg ∧ (s.endSegmentFrame msg).free = s.free ∧
    (s.endSegmentFrame msg).pending = s.pending := by
  simp [State.endSegmentFrame]

@[simp] theorem State.presentFetch_frame (s : State) :
    (s.presentFetch).resetAsserted = s.resetAsserted ∧ (s.presentFetch).host = s.host ∧
    (s.presentFetch).cmd = s.cmd ∧ (s.presentFetch).link = s.link ∧ (s.presentFetch).engine = s.engine ∧
    (s.presentFetch).cache = s.cache ∧ (s.presentFetch).status = s.status ∧ (s.presentFetch).mover = s.mover ∧
    (s.presentFetch).retire = s.retire ∧ (s.presentFetch).writer = s.writer ∧ (s.presentFetch).mem = s.mem ∧
    (s.presentFetch).nextMsg = s.nextMsg ∧ (s.presentFetch).free = s.free ∧ (s.presentFetch).pending = s.pending := by
  unfold State.presentFetch
  repeat' split
  all_goals simp

@[simp] theorem State.startFetch_frame (s : State) (msg : Nat) (a : Addr) (n : Nat) :
    (s.startFetch msg a n).resetAsserted = s.resetAsserted ∧ (s.startFetch msg a n).host = s.host ∧
    (s.startFetch msg a n).cmd = s.cmd ∧ (s.startFetch msg a n).link = s.link ∧
    (s.startFetch msg a n).engine = s.engine ∧ (s.startFetch msg a n).cache = s.cache ∧
    (s.startFetch msg a n).status = s.status ∧ (s.startFetch msg a n).retire = s.retire ∧
    (s.startFetch msg a n).writer = s.writer ∧ (s.startFetch msg a n).mem = s.mem ∧
    (s.startFetch msg a n).nextMsg = s.nextMsg ∧ (s.startFetch msg a n).free = s.free ∧
    (s.startFetch msg a n).pending = s.pending := by
  simp [State.startFetch]

@[simp] theorem State.abandonFetch_frame (s : State) (msg : Nat) :
    (s.abandonFetch msg).resetAsserted = s.resetAsserted ∧ (s.abandonFetch msg).host = s.host ∧
    (s.abandonFetch msg).cmd = s.cmd ∧ (s.abandonFetch msg).link = s.link ∧ (s.abandonFetch msg).engine = s.engine ∧
    (s.abandonFetch msg).cache = s.cache ∧ (s.abandonFetch msg).status = s.status ∧
    (s.abandonFetch msg).retire = s.retire ∧ (s.abandonFetch msg).writer = s.writer ∧
    (s.abandonFetch msg).mem = s.mem ∧ (s.abandonFetch msg).nextMsg = s.nextMsg ∧
    (s.abandonFetch msg).free = s.free ∧ (s.abandonFetch msg).pending = s.pending := by
  unfold State.abandonFetch
  repeat' split
  all_goals simp

@[simp] theorem State.modifyStaging_frame (s : State) (msg : Nat) (f : Staging → Staging) :
    (s.modifyStaging msg f).resetAsserted = s.resetAsserted ∧ (s.modifyStaging msg f).host = s.host ∧
    (s.modifyStaging msg f).cmd = s.cmd ∧ (s.modifyStaging msg f).link = s.link ∧
    (s.modifyStaging msg f).engine = s.engine ∧ (s.modifyStaging msg f).cache = s.cache ∧
    (s.modifyStaging msg f).status = s.status ∧ (s.modifyStaging msg f).port = s.port ∧
    (s.modifyStaging msg f).retire = s.retire ∧ (s.modifyStaging msg f).writer = s.writer ∧
    (s.modifyStaging msg f).mem = s.mem ∧ (s.modifyStaging msg f).nextMsg = s.nextMsg ∧
    (s.modifyStaging msg f).free = s.free ∧ (s.modifyStaging msg f).pending = s.pending := by
  unfold State.modifyStaging
  repeat' split
  all_goals simp


/-! ### Requests -/

@[simp] theorem State.requestError_frame (s : State) (r : Request) (d : ErrorDetail) (w : Word) :
    (s.requestError r d w).resetAsserted = s.resetAsserted ∧ (s.requestError r d w).host = s.host ∧
    (s.requestError r d w).cmd = s.cmd ∧ (s.requestError r d w).link = s.link ∧
    (s.requestError r d w).engine = s.engine ∧ (s.requestError r d w).cache = s.cache ∧
    (s.requestError r d w).status = s.status ∧ (s.requestError r d w).mover = s.mover ∧
    (s.requestError r d w).port = s.port ∧ (s.requestError r d w).retire = s.retire ∧
    (s.requestError r d w).mem = s.mem ∧ (s.requestError r d w).nextMsg = s.nextMsg ∧
    (s.requestError r d w).free = s.free ∧ (s.requestError r d w).pending = s.pending := by
  unfold State.requestError
  repeat' split
  all_goals simp

@[simp] theorem State.countError_frame (s : State) (r : Request) (d : ErrorDetail) (w : Word) :
    (s.countError r d w).resetAsserted = s.resetAsserted ∧ (s.countError r d w).host = s.host ∧
    (s.countError r d w).cmd = s.cmd ∧ (s.countError r d w).link = s.link ∧ (s.countError r d w).engine = s.engine ∧
    (s.countError r d w).status = s.status ∧ (s.countError r d w).mover = s.mover ∧
    (s.countError r d w).port = s.port ∧ (s.countError r d w).retire = s.retire ∧ (s.countError r d w).mem = s.mem ∧
    (s.countError r d w).nextMsg = s.nextMsg ∧ (s.countError r d w).free = s.free ∧
    (s.countError r d w).pending = s.pending := by
  unfold State.countError
  repeat' split
  all_goals simp

@[simp] theorem State.refusal_frame (s : State) (r : Request) (why : RefuseReason) :
    (s.refusal r why).resetAsserted = s.resetAsserted ∧ (s.refusal r why).host = s.host ∧
    (s.refusal r why).cmd = s.cmd ∧ (s.refusal r why).link = s.link ∧ (s.refusal r why).engine = s.engine ∧
    (s.refusal r why).cache = s.cache ∧ (s.refusal r why).status = s.status ∧ (s.refusal r why).mover = s.mover ∧
    (s.refusal r why).port = s.port ∧ (s.refusal r why).retire = s.retire ∧ (s.refusal r why).mem = s.mem ∧
    (s.refusal r why).nextMsg = s.nextMsg ∧ (s.refusal r why).free = s.free ∧
    (s.refusal r why).pending = s.pending := by
  unfold State.refusal
  repeat' split
  all_goals simp

@[simp] theorem State.countDuplicate_frame (s : State) (r : Request) :
    (s.countDuplicate r).resetAsserted = s.resetAsserted ∧ (s.countDuplicate r).host = s.host ∧
    (s.countDuplicate r).cmd = s.cmd ∧ (s.countDuplicate r).link = s.link ∧ (s.countDuplicate r).engine = s.engine ∧
    (s.countDuplicate r).status = s.status ∧ (s.countDuplicate r).mover = s.mover ∧
    (s.countDuplicate r).port = s.port ∧ (s.countDuplicate r).retire = s.retire ∧
    (s.countDuplicate r).writer = s.writer ∧ (s.countDuplicate r).mem = s.mem ∧
    (s.countDuplicate r).nextMsg = s.nextMsg ∧ (s.countDuplicate r).free = s.free ∧
    (s.countDuplicate r).pending = s.pending := by
  unfold State.countDuplicate
  repeat' split
  all_goals simp

@[simp] theorem State.abandonData_frame (s : State) (r : Request) :
    (s.abandonData r).resetAsserted = s.resetAsserted ∧ (s.abandonData r).host = s.host ∧
    (s.abandonData r).cmd = s.cmd ∧ (s.abandonData r).link = s.link ∧ (s.abandonData r).engine = s.engine ∧
    (s.abandonData r).cache = s.cache ∧ (s.abandonData r).status = s.status ∧ (s.abandonData r).retire = s.retire ∧
    (s.abandonData r).writer = s.writer ∧ (s.abandonData r).mem = s.mem ∧ (s.abandonData r).nextMsg = s.nextMsg ∧
    (s.abandonData r).free = s.free ∧ (s.abandonData r).pending = s.pending := by
  unfold State.abandonData
  repeat' split
  all_goals simp

@[simp] theorem State.endRequest_frame (s : State) (r : Request) :
    (s.endRequest r).resetAsserted = s.resetAsserted ∧ (s.endRequest r).host = s.host ∧
    (s.endRequest r).cmd = s.cmd ∧ (s.endRequest r).link = s.link ∧ (s.endRequest r).status = s.status ∧
    (s.endRequest r).retire = s.retire ∧ (s.endRequest r).writer = s.writer ∧ (s.endRequest r).mem = s.mem ∧
    (s.endRequest r).nextMsg = s.nextMsg ∧ (s.endRequest r).free = s.free ∧ (s.endRequest r).pending = s.pending := by
  simp [State.endRequest]

@[simp] theorem State.settleBroadcast_frame (s : State) :
    (s.settleBroadcast).resetAsserted = s.resetAsserted ∧ (s.settleBroadcast).host = s.host ∧
    (s.settleBroadcast).cmd = s.cmd ∧ (s.settleBroadcast).link = s.link ∧ (s.settleBroadcast).status = s.status ∧
    (s.settleBroadcast).retire = s.retire ∧ (s.settleBroadcast).mem = s.mem ∧
    (s.settleBroadcast).nextMsg = s.nextMsg ∧ (s.settleBroadcast).free = s.free ∧
    (s.settleBroadcast).pending = s.pending := by
  unfold State.settleBroadcast
  repeat' split
  all_goals simp

@[simp] theorem State.conclude_frame (s : State) (r : Request) (v : Verdict) :
    (s.conclude r v).resetAsserted = s.resetAsserted ∧ (s.conclude r v).host = s.host ∧
    (s.conclude r v).cmd = s.cmd ∧ (s.conclude r v).link = s.link ∧ (s.conclude r v).status = s.status ∧
    (s.conclude r v).retire = s.retire ∧ (s.conclude r v).mem = s.mem ∧ (s.conclude r v).nextMsg = s.nextMsg ∧
    (s.conclude r v).free = s.free ∧ (s.conclude r v).pending = s.pending := by
  simp [State.conclude]

@[simp] theorem State.contextLost_frame (s : State) (e : EntryIx) :
    (s.contextLost e).resetAsserted = s.resetAsserted ∧ (s.contextLost e).host = s.host ∧
    (s.contextLost e).cmd = s.cmd ∧ (s.contextLost e).link = s.link ∧ (s.contextLost e).status = s.status ∧
    (s.contextLost e).retire = s.retire ∧ (s.contextLost e).mem = s.mem ∧ (s.contextLost e).nextMsg = s.nextMsg ∧
    (s.contextLost e).free = s.free ∧ (s.contextLost e).pending = s.pending := by
  unfold State.contextLost
  repeat' split
  all_goals simp

@[simp] theorem State.lookupFaults_frame (s : State) (n : Channel) :
    (s.lookupFaults n).resetAsserted = s.resetAsserted ∧ (s.lookupFaults n).host = s.host ∧
    (s.lookupFaults n).cmd = s.cmd ∧ (s.lookupFaults n).link = s.link ∧ (s.lookupFaults n).status = s.status ∧
    (s.lookupFaults n).retire = s.retire ∧ (s.lookupFaults n).mem = s.mem ∧ (s.lookupFaults n).nextMsg = s.nextMsg ∧
    (s.lookupFaults n).free = s.free ∧ (s.lookupFaults n).pending = s.pending := by
  unfold State.lookupFaults
  repeat' split
  all_goals simp

@[simp] theorem State.swapForGet_frame (s : State) (r : Request) (e : EntryIx) :
    (s.swapForGet r e).resetAsserted = s.resetAsserted ∧ (s.swapForGet r e).host = s.host ∧
    (s.swapForGet r e).cmd = s.cmd ∧ (s.swapForGet r e).link = s.link ∧ (s.swapForGet r e).engine = s.engine ∧
    (s.swapForGet r e).mover = s.mover ∧ (s.swapForGet r e).port = s.port ∧ (s.swapForGet r e).retire = s.retire ∧
    (s.swapForGet r e).mem = s.mem ∧ (s.swapForGet r e).nextMsg = s.nextMsg ∧ (s.swapForGet r e).free = s.free ∧
    (s.swapForGet r e).pending = s.pending := by
  unfold State.swapForGet
  repeat' split
  all_goals simp

@[simp] theorem State.acceptNew_frame (s : State) (r : Request) (e : EntryIx) :
    (s.acceptNew r e).resetAsserted = s.resetAsserted ∧ (s.acceptNew r e).host = s.host ∧
    (s.acceptNew r e).cmd = s.cmd ∧ (s.acceptNew r e).link = s.link ∧ (s.acceptNew r e).retire = s.retire ∧
    (s.acceptNew r e).mem = s.mem ∧ (s.acceptNew r e).nextMsg = s.nextMsg ∧ (s.acceptNew r e).free = s.free ∧
    (s.acceptNew r e).pending = s.pending := by
  unfold State.acceptNew
  repeat' split
  all_goals simp

@[simp] theorem State.acceptDuplicate_frame (s : State) (r : Request) (e : EntryIx) :
    (s.acceptDuplicate r e).resetAsserted = s.resetAsserted ∧ (s.acceptDuplicate r e).host = s.host ∧
    (s.acceptDuplicate r e).cmd = s.cmd ∧ (s.acceptDuplicate r e).link = s.link ∧
    (s.acceptDuplicate r e).cache = s.cache ∧ (s.acceptDuplicate r e).status = s.status ∧
    (s.acceptDuplicate r e).retire = s.retire ∧ (s.acceptDuplicate r e).writer = s.writer ∧
    (s.acceptDuplicate r e).mem = s.mem ∧ (s.acceptDuplicate r e).nextMsg = s.nextMsg ∧
    (s.acceptDuplicate r e).free = s.free ∧ (s.acceptDuplicate r e).pending = s.pending := by
  unfold State.acceptDuplicate
  repeat' split
  all_goals simp

@[simp] theorem State.admitRequest_frame (s : State) (r : Request) (e : EntryIx) :
    (s.admitRequest r e).resetAsserted = s.resetAsserted ∧ (s.admitRequest r e).host = s.host ∧
    (s.admitRequest r e).cmd = s.cmd ∧ (s.admitRequest r e).link = s.link ∧ (s.admitRequest r e).retire = s.retire ∧
    (s.admitRequest r e).mem = s.mem ∧ (s.admitRequest r e).nextMsg = s.nextMsg ∧
    (s.admitRequest r e).free = s.free ∧ (s.admitRequest r e).pending = s.pending := by
  unfold State.admitRequest
  repeat' split
  all_goals simp

@[simp] theorem State.lookup_frame (s : State) (r : Request) :
    (s.lookup r).resetAsserted = s.resetAsserted ∧ (s.lookup r).host = s.host ∧ (s.lookup r).cmd = s.cmd ∧
    (s.lookup r).link = s.link ∧ (s.lookup r).retire = s.retire ∧ (s.lookup r).mem = s.mem ∧
    (s.lookup r).nextMsg = s.nextMsg ∧ (s.lookup r).free = s.free ∧ (s.lookup r).pending = s.pending := by
  unfold State.lookup
  repeat' split
  all_goals simp

@[simp] theorem State.holdCheck_frame (s : State) (r : Request) :
    (s.holdCheck r).resetAsserted = s.resetAsserted ∧ (s.holdCheck r).host = s.host ∧ (s.holdCheck r).cmd = s.cmd ∧
    (s.holdCheck r).link = s.link ∧ (s.holdCheck r).retire = s.retire ∧ (s.holdCheck r).mem = s.mem ∧
    (s.holdCheck r).nextMsg = s.nextMsg ∧ (s.holdCheck r).free = s.free ∧ (s.holdCheck r).pending = s.pending := by
  unfold State.holdCheck
  repeat' split
  all_goals simp

@[simp] theorem State.overtake_frame (s : State) :
    (s.overtake).resetAsserted = s.resetAsserted ∧ (s.overtake).host = s.host ∧ (s.overtake).cmd = s.cmd ∧
    (s.overtake).link = s.link ∧ (s.overtake).status = s.status ∧ (s.overtake).retire = s.retire ∧
    (s.overtake).mem = s.mem ∧ (s.overtake).nextMsg = s.nextMsg ∧ (s.overtake).free = s.free ∧
    (s.overtake).pending = s.pending := by
  unfold State.overtake
  repeat' split
  all_goals simp

@[simp] theorem State.takeHeader_frame (s : State) (k : MsgKind) (b : Bool) (h : RequestHeader) :
    (s.takeHeader k b h).resetAsserted = s.resetAsserted ∧ (s.takeHeader k b h).host = s.host ∧
    (s.takeHeader k b h).cmd = s.cmd ∧ (s.takeHeader k b h).link = s.link ∧ (s.takeHeader k b h).retire = s.retire ∧
    (s.takeHeader k b h).mem = s.mem ∧ (s.takeHeader k b h).free = s.free ∧
    (s.takeHeader k b h).pending = s.pending := by
  unfold State.takeHeader
  repeat' split
  all_goals simp

@[simp] theorem State.commit_frame (s : State) (r : Request) (place : Completion → List Completion → List Completion) :
    (s.commit r place).resetAsserted = s.resetAsserted ∧ (s.commit r place).host = s.host ∧
    (s.commit r place).cmd = s.cmd ∧ (s.commit r place).link = s.link ∧ (s.commit r place).mover = s.mover ∧
    (s.commit r place).port = s.port ∧ (s.commit r place).writer = s.writer ∧ (s.commit r place).mem = s.mem ∧
    (s.commit r place).nextMsg = s.nextMsg ∧ (s.commit r place).free = s.free ∧
    (s.commit r place).pending = s.pending := by
  unfold State.commit
  repeat' split
  all_goals simp

@[simp] theorem State.abortGet_frame (s : State) (r : Request) (d : ErrorDetail) (n : Nat) :
    (s.abortGet r d n).resetAsserted = s.resetAsserted ∧ (s.abortGet r d n).host = s.host ∧
    (s.abortGet r d n).cmd = s.cmd ∧ (s.abortGet r d n).link = s.link ∧ (s.abortGet r d n).status = s.status ∧
    (s.abortGet r d n).mem = s.mem ∧ (s.abortGet r d n).nextMsg = s.nextMsg ∧ (s.abortGet r d n).free = s.free ∧
    (s.abortGet r d n).pending = s.pending := by
  simp [State.abortGet]

@[simp] theorem State.abandonLost_frame (s : State) (r : Request) :
    (s.abandonLost r).resetAsserted = s.resetAsserted ∧ (s.abandonLost r).host = s.host ∧
    (s.abandonLost r).cmd = s.cmd ∧ (s.abandonLost r).link = s.link ∧ (s.abandonLost r).status = s.status ∧
    (s.abandonLost r).writer = s.writer ∧ (s.abandonLost r).mem = s.mem ∧ (s.abandonLost r).nextMsg = s.nextMsg ∧
    (s.abandonLost r).free = s.free ∧ (s.abandonLost r).pending = s.pending := by
  simp [State.abandonLost]

@[simp] theorem State.replyStarts_frame (s : State) (r : Request) :
    (s.replyStarts r).resetAsserted = s.resetAsserted ∧ (s.replyStarts r).host = s.host ∧
    (s.replyStarts r).cmd = s.cmd ∧ (s.replyStarts r).link = s.link ∧ (s.replyStarts r).mem = s.mem ∧
    (s.replyStarts r).nextMsg = s.nextMsg ∧ (s.replyStarts r).free = s.free ∧
    (s.replyStarts r).pending = s.pending := by
  unfold State.replyStarts
  repeat' split
  all_goals simp


/-! ### Faults -/

@[simp] theorem State.reportFault_frame (s : State) (n : Channel) (why : FaultReason) (c : BitVec 4) :
    (s.reportFault n why c).resetAsserted = s.resetAsserted ∧ (s.reportFault n why c).host = s.host ∧
    (s.reportFault n why c).link = s.link ∧ (s.reportFault n why c).retire = s.retire ∧
    (s.reportFault n why c).mem = s.mem ∧ (s.reportFault n why c).nextMsg = s.nextMsg ∧
    (s.reportFault n why c).free = s.free ∧ (s.reportFault n why c).pending = s.pending := by
  simp [State.reportFault]

@[simp] theorem State.castoutFaults_frame (s : State) (e : EntryIx) (n : Channel) :
    (s.castoutFaults e n).resetAsserted = s.resetAsserted ∧ (s.castoutFaults e n).host = s.host ∧
    (s.castoutFaults e n).link = s.link ∧ (s.castoutFaults e n).retire = s.retire ∧
    (s.castoutFaults e n).mem = s.mem ∧ (s.castoutFaults e n).nextMsg = s.nextMsg ∧
    (s.castoutFaults e n).free = s.free ∧ (s.castoutFaults e n).pending = s.pending := by
  simp [State.castoutFaults]

@[simp] theorem State.entryFaults_frame (s : State) (e : EntryIx) :
    (s.entryFaults e).resetAsserted = s.resetAsserted ∧ (s.entryFaults e).host = s.host ∧
    (s.entryFaults e).link = s.link ∧ (s.entryFaults e).retire = s.retire ∧ (s.entryFaults e).mem = s.mem ∧
    (s.entryFaults e).nextMsg = s.nextMsg ∧ (s.entryFaults e).free = s.free ∧
    (s.entryFaults e).pending = s.pending := by
  simp [State.entryFaults]


/-! ### The retire unit -/

@[simp] theorem State.releaseHead_frame (s : State) :
    (s.releaseHead).resetAsserted = s.resetAsserted ∧ (s.releaseHead).host = s.host ∧ (s.releaseHead).cmd = s.cmd ∧
    (s.releaseHead).link = s.link ∧ (s.releaseHead).engine = s.engine ∧ (s.releaseHead).cache = s.cache ∧
    (s.releaseHead).status = s.status ∧ (s.releaseHead).mover = s.mover ∧ (s.releaseHead).port = s.port ∧
    (s.releaseHead).mem = s.mem ∧ (s.releaseHead).nextMsg = s.nextMsg ∧ (s.releaseHead).free = s.free ∧
    (s.releaseHead).pending = s.pending := by
  unfold State.releaseHead
  repeat' split
  all_goals simp

@[simp] theorem State.askDescriptorWrite_frame (s : State) (n : Channel) :
    (s.askDescriptorWrite n).resetAsserted = s.resetAsserted ∧ (s.askDescriptorWrite n).host = s.host ∧
    (s.askDescriptorWrite n).cmd = s.cmd ∧ (s.askDescriptorWrite n).link = s.link ∧
    (s.askDescriptorWrite n).engine = s.engine ∧ (s.askDescriptorWrite n).status = s.status ∧
    (s.askDescriptorWrite n).mover = s.mover ∧ (s.askDescriptorWrite n).mem = s.mem ∧
    (s.askDescriptorWrite n).nextMsg = s.nextMsg ∧ (s.askDescriptorWrite n).free = s.free ∧
    (s.askDescriptorWrite n).pending = s.pending := by
  unfold State.askDescriptorWrite
  repeat' split
  all_goals simp

@[simp] theorem State.descriptorStep_frame (s : State) :
    (s.descriptorStep).resetAsserted = s.resetAsserted ∧ (s.descriptorStep).host = s.host ∧
    (s.descriptorStep).cmd = s.cmd ∧ (s.descriptorStep).link = s.link ∧ (s.descriptorStep).engine = s.engine ∧
    (s.descriptorStep).status = s.status ∧ (s.descriptorStep).mover = s.mover ∧ (s.descriptorStep).mem = s.mem ∧
    (s.descriptorStep).nextMsg = s.nextMsg ∧ (s.descriptorStep).free = s.free ∧
    (s.descriptorStep).pending = s.pending := by
  unfold State.descriptorStep
  repeat' split
  all_goals simp

@[simp] theorem State.retryDescriptor_frame (s : State) :
    (s.retryDescriptor).resetAsserted = s.resetAsserted ∧ (s.retryDescriptor).host = s.host ∧
    (s.retryDescriptor).cmd = s.cmd ∧ (s.retryDescriptor).link = s.link ∧ (s.retryDescriptor).engine = s.engine ∧
    (s.retryDescriptor).status = s.status ∧ (s.retryDescriptor).mover = s.mover ∧ (s.retryDescriptor).mem = s.mem ∧
    (s.retryDescriptor).nextMsg = s.nextMsg ∧ (s.retryDescriptor).free = s.free ∧
    (s.retryDescriptor).pending = s.pending := by
  unfold State.retryDescriptor
  repeat' split
  all_goals simp


/-! ### The receiver -/

@[simp] theorem State.lineError_frame (s : State) (err : LineError) :
    (s.lineError err).resetAsserted = s.resetAsserted ∧ (s.lineError err).host = s.host ∧
    (s.lineError err).cmd = s.cmd ∧ (s.lineError err).engine = s.engine ∧ (s.lineError err).cache = s.cache ∧
    (s.lineError err).status = s.status ∧ (s.lineError err).mover = s.mover ∧ (s.lineError err).port = s.port ∧
    (s.lineError err).retire = s.retire ∧ (s.lineError err).mem = s.mem ∧ (s.lineError err).nextMsg = s.nextMsg ∧
    (s.lineError err).free = s.free ∧ (s.lineError err).pending = s.pending := by
  unfold State.lineError
  repeat' split
  all_goals simp

@[simp] theorem State.frameMessageError_frame (s : State) (f : Frame) :
    (s.frameMessageError f).resetAsserted = s.resetAsserted ∧ (s.frameMessageError f).host = s.host ∧
    (s.frameMessageError f).cmd = s.cmd ∧ (s.frameMessageError f).link = s.link ∧
    (s.frameMessageError f).engine = s.engine ∧ (s.frameMessageError f).cache = s.cache ∧
    (s.frameMessageError f).status = s.status ∧ (s.frameMessageError f).mover = s.mover ∧
    (s.frameMessageError f).port = s.port ∧ (s.frameMessageError f).retire = s.retire ∧
    (s.frameMessageError f).mem = s.mem ∧ (s.frameMessageError f).nextMsg = s.nextMsg ∧
    (s.frameMessageError f).free = s.free ∧ (s.frameMessageError f).pending = s.pending := by
  unfold State.frameMessageError
  repeat' split
  all_goals simp

@[simp] theorem State.requestFails_frame (s : State) (msg : Nat) :
    (s.requestFails msg).resetAsserted = s.resetAsserted ∧ (s.requestFails msg).host = s.host ∧
    (s.requestFails msg).cmd = s.cmd ∧ (s.requestFails msg).link = s.link ∧ (s.requestFails msg).status = s.status ∧
    (s.requestFails msg).retire = s.retire ∧ (s.requestFails msg).writer = s.writer ∧
    (s.requestFails msg).mem = s.mem ∧ (s.requestFails msg).nextMsg = s.nextMsg ∧
    (s.requestFails msg).free = s.free ∧ (s.requestFails msg).pending = s.pending := by
  unfold State.requestFails
  repeat' split
  all_goals simp

@[simp] theorem State.requestCloses_frame (s : State) (msg : Nat) :
    (s.requestCloses msg).resetAsserted = s.resetAsserted ∧ (s.requestCloses msg).host = s.host ∧
    (s.requestCloses msg).cmd = s.cmd ∧ (s.requestCloses msg).link = s.link ∧
    (s.requestCloses msg).status = s.status ∧ (s.requestCloses msg).retire = s.retire ∧
    (s.requestCloses msg).mem = s.mem ∧ (s.requestCloses msg).nextMsg = s.nextMsg ∧
    (s.requestCloses msg).free = s.free ∧ (s.requestCloses msg).pending = s.pending := by
  unfold State.requestCloses
  dsimp only
  repeat' split
  all_goals simp

@[simp] theorem State.failFrame_frame (s : State) (f : Frame) (err : LineError) :
    (s.failFrame f err).resetAsserted = s.resetAsserted ∧ (s.failFrame f err).host = s.host ∧
    (s.failFrame f err).cmd = s.cmd ∧ (s.failFrame f err).status = s.status ∧ (s.failFrame f err).retire = s.retire ∧
    (s.failFrame f err).mem = s.mem ∧ (s.failFrame f err).nextMsg = s.nextMsg ∧ (s.failFrame f err).free = s.free ∧
    (s.failFrame f err).pending = s.pending := by
  unfold State.failFrame
  repeat' split
  all_goals simp

@[simp] theorem State.breakFrame_frame (s : State) (f : Frame) :
    (s.breakFrame f).resetAsserted = s.resetAsserted ∧ (s.breakFrame f).host = s.host ∧
    (s.breakFrame f).cmd = s.cmd ∧ (s.breakFrame f).status = s.status ∧ (s.breakFrame f).retire = s.retire ∧
    (s.breakFrame f).mem = s.mem ∧ (s.breakFrame f).nextMsg = s.nextMsg ∧ (s.breakFrame f).free = s.free ∧
    (s.breakFrame f).pending = s.pending := by
  unfold State.breakFrame
  repeat' split
  all_goals simp

@[simp] theorem State.stageByte_frame (s : State) (msg : Nat) (b : Byte) :
    (s.stageByte msg b).resetAsserted = s.resetAsserted ∧ (s.stageByte msg b).host = s.host ∧
    (s.stageByte msg b).cmd = s.cmd ∧ (s.stageByte msg b).link = s.link ∧ (s.stageByte msg b).status = s.status ∧
    (s.stageByte msg b).retire = s.retire ∧ (s.stageByte msg b).mem = s.mem ∧
    (s.stageByte msg b).nextMsg = s.nextMsg ∧ (s.stageByte msg b).free = s.free ∧
    (s.stageByte msg b).pending = s.pending := by
  unfold State.stageByte
  dsimp only
  repeat' split
  all_goals simp

@[simp] theorem State.headerComplete_frame (s : State) (f : Frame) (c : FrameClass) :
    (s.headerComplete f c).resetAsserted = s.resetAsserted ∧ (s.headerComplete f c).host = s.host ∧
    (s.headerComplete f c).cmd = s.cmd ∧ (s.headerComplete f c).retire = s.retire ∧
    (s.headerComplete f c).mem = s.mem ∧ (s.headerComplete f c).free = s.free ∧
    (s.headerComplete f c).pending = s.pending := by
  unfold State.headerComplete
  repeat' split
  all_goals simp

@[simp] theorem State.takeBodyByte_frame (s : State) (f : Frame) (b : Byte) :
    (s.takeBodyByte f b).resetAsserted = s.resetAsserted ∧ (s.takeBodyByte f b).host = s.host ∧
    (s.takeBodyByte f b).cmd = s.cmd ∧ (s.takeBodyByte f b).status = s.status ∧
    (s.takeBodyByte f b).retire = s.retire ∧ (s.takeBodyByte f b).mem = s.mem ∧
    (s.takeBodyByte f b).nextMsg = s.nextMsg ∧ (s.takeBodyByte f b).free = s.free ∧
    (s.takeBodyByte f b).pending = s.pending := by
  unfold State.takeBodyByte
  dsimp only
  repeat' split
  all_goals simp

@[simp] theorem State.takeByte_frame (s : State) (f : Frame) (b : Byte) :
    (s.takeByte f b).resetAsserted = s.resetAsserted ∧ (s.takeByte f b).host = s.host ∧
    (s.takeByte f b).cmd = s.cmd ∧ (s.takeByte f b).retire = s.retire ∧ (s.takeByte f b).mem = s.mem ∧
    (s.takeByte f b).free = s.free ∧ (s.takeByte f b).pending = s.pending := by
  unfold State.takeByte
  dsimp only
  repeat' split
  all_goals simp

@[simp] theorem State.syncCloses_frame (s : State) (body : List Byte) :
    (s.syncCloses body).resetAsserted = s.resetAsserted ∧ (s.syncCloses body).host = s.host ∧
    (s.syncCloses body).cmd = s.cmd ∧ (s.syncCloses body).engine = s.engine ∧ (s.syncCloses body).cache = s.cache ∧
    (s.syncCloses body).status = s.status ∧ (s.syncCloses body).mover = s.mover ∧ (s.syncCloses body).port = s.port ∧
    (s.syncCloses body).retire = s.retire ∧ (s.syncCloses body).writer = s.writer ∧ (s.syncCloses body).mem = s.mem ∧
    (s.syncCloses body).nextMsg = s.nextMsg ∧ (s.syncCloses body).free = s.free ∧
    (s.syncCloses body).pending = s.pending := by
  unfold State.syncCloses
  repeat' split
  all_goals simp

@[simp] theorem State.nodeResetCloses_frame (s : State) (c : FrameClass) :
    (s.nodeResetCloses c).resetAsserted = s.resetAsserted ∧ (s.nodeResetCloses c).host = s.host ∧
    (s.nodeResetCloses c).cmd = s.cmd ∧ (s.nodeResetCloses c).engine = s.engine ∧
    (s.nodeResetCloses c).cache = s.cache ∧ (s.nodeResetCloses c).mover = s.mover ∧
    (s.nodeResetCloses c).port = s.port ∧ (s.nodeResetCloses c).retire = s.retire ∧
    (s.nodeResetCloses c).mem = s.mem ∧ (s.nodeResetCloses c).nextMsg = s.nextMsg ∧
    (s.nodeResetCloses c).free = s.free ∧ (s.nodeResetCloses c).pending = s.pending := by
  unfold State.nodeResetCloses
  repeat' split
  all_goals simp

@[simp] theorem State.afterClose_frame (s : State) (c : FrameClass) (o : ReplySource) (h : RequestHeader) :
    (s.afterClose c o h).resetAsserted = s.resetAsserted ∧ (s.afterClose c o h).host = s.host ∧
    (s.afterClose c o h).cmd = s.cmd ∧ (s.afterClose c o h).engine = s.engine ∧
    (s.afterClose c o h).cache = s.cache ∧ (s.afterClose c o h).status = s.status ∧
    (s.afterClose c o h).mover = s.mover ∧ (s.afterClose c o h).port = s.port ∧
    (s.afterClose c o h).retire = s.retire ∧ (s.afterClose c o h).writer = s.writer ∧
    (s.afterClose c o h).mem = s.mem ∧ (s.afterClose c o h).nextMsg = s.nextMsg ∧
    (s.afterClose c o h).free = s.free ∧ (s.afterClose c o h).pending = s.pending := by
  unfold State.afterClose
  repeat' split
  all_goals simp

@[simp] theorem State.goodClose_frame (s : State) (f : Frame) (c : FrameClass) (h : RequestHeader) :
    (s.goodClose f c h).resetAsserted = s.resetAsserted ∧ (s.goodClose f c h).host = s.host ∧
    (s.goodClose f c h).cmd = s.cmd ∧ (s.goodClose f c h).retire = s.retire ∧ (s.goodClose f c h).mem = s.mem ∧
    (s.goodClose f c h).nextMsg = s.nextMsg ∧ (s.goodClose f c h).free = s.free ∧
    (s.goodClose f c h).pending = s.pending := by
  unfold State.goodClose
  repeat' split
  all_goals simp

@[simp] theorem State.closeFrame_frame (s : State) (f : Frame) (c : FrameClass) :
    (s.closeFrame f c).resetAsserted = s.resetAsserted ∧ (s.closeFrame f c).host = s.host ∧
    (s.closeFrame f c).cmd = s.cmd ∧ (s.closeFrame f c).retire = s.retire ∧ (s.closeFrame f c).mem = s.mem ∧
    (s.closeFrame f c).nextMsg = s.nextMsg ∧ (s.closeFrame f c).free = s.free ∧
    (s.closeFrame f c).pending = s.pending := by
  unfold State.closeFrame
  repeat' split
  all_goals simp


/-! ### Replies -/

@[simp] theorem State.startEngineReply_frame (s : State) (o : OwedReply) (r : Request) :
    (s.startEngineReply o r).resetAsserted = s.resetAsserted ∧ (s.startEngineReply o r).host = s.host ∧
    (s.startEngineReply o r).cmd = s.cmd ∧ (s.startEngineReply o r).mem = s.mem ∧
    (s.startEngineReply o r).nextMsg = s.nextMsg ∧ (s.startEngineReply o r).free = s.free ∧
    (s.startEngineReply o r).pending = s.pending := by
  unfold State.startEngineReply
  repeat' split
  all_goals simp

@[simp] theorem State.sendAbort_frame (s : State) (tx : Transmission) :
    (s.sendAbort tx).resetAsserted = s.resetAsserted ∧ (s.sendAbort tx).host = s.host ∧
    (s.sendAbort tx).cmd = s.cmd ∧ (s.sendAbort tx).engine = s.engine ∧ (s.sendAbort tx).cache = s.cache ∧
    (s.sendAbort tx).status = s.status ∧ (s.sendAbort tx).mover = s.mover ∧ (s.sendAbort tx).port = s.port ∧
    (s.sendAbort tx).retire = s.retire ∧ (s.sendAbort tx).writer = s.writer ∧ (s.sendAbort tx).mem = s.mem ∧
    (s.sendAbort tx).nextMsg = s.nextMsg ∧ (s.sendAbort tx).free = s.free ∧ (s.sendAbort tx).pending = s.pending := by
  simp [State.sendAbort]

@[simp] theorem State.sendByte_frame (s : State) (tx : Transmission) (t : Staging) (b : Byte) (rest : List Byte) :
    (s.sendByte tx t b rest).resetAsserted = s.resetAsserted ∧ (s.sendByte tx t b rest).host = s.host ∧
    (s.sendByte tx t b rest).cmd = s.cmd ∧ (s.sendByte tx t b rest).engine = s.engine ∧
    (s.sendByte tx t b rest).cache = s.cache ∧ (s.sendByte tx t b rest).status = s.status ∧
    (s.sendByte tx t b rest).retire = s.retire ∧ (s.sendByte tx t b rest).writer = s.writer ∧
    (s.sendByte tx t b rest).mem = s.mem ∧ (s.sendByte tx t b rest).nextMsg = s.nextMsg ∧
    (s.sendByte tx t b rest).free = s.free ∧ (s.sendByte tx t b rest).pending = s.pending := by
  simp [State.sendByte]

@[simp] theorem State.byteDue_frame (s : State) (tx : Transmission) (r : Request) :
    (s.byteDue tx r).resetAsserted = s.resetAsserted ∧ (s.byteDue tx r).host = s.host ∧
    (s.byteDue tx r).cmd = s.cmd ∧ (s.byteDue tx r).status = s.status ∧ (s.byteDue tx r).mem = s.mem ∧
    (s.byteDue tx r).nextMsg = s.nextMsg ∧ (s.byteDue tx r).free = s.free ∧ (s.byteDue tx r).pending = s.pending := by
  unfold State.byteDue
  repeat' split
  all_goals simp

@[simp] theorem State.closeReply_frame (s : State) :
    (s.closeReply).resetAsserted = s.resetAsserted ∧ (s.closeReply).host = s.host ∧ (s.closeReply).cmd = s.cmd ∧
    (s.closeReply).engine = s.engine ∧ (s.closeReply).cache = s.cache ∧ (s.closeReply).status = s.status ∧
    (s.closeReply).mover = s.mover ∧ (s.closeReply).port = s.port ∧ (s.closeReply).retire = s.retire ∧
    (s.closeReply).writer = s.writer ∧ (s.closeReply).mem = s.mem ∧ (s.closeReply).nextMsg = s.nextMsg ∧
    (s.closeReply).free = s.free ∧ (s.closeReply).pending = s.pending := by
  simp [State.closeReply]

@[simp] theorem State.abortClose_frame (s : State) (r : Request) :
    (s.abortClose r).resetAsserted = s.resetAsserted ∧ (s.abortClose r).host = s.host ∧
    (s.abortClose r).cmd = s.cmd ∧ (s.abortClose r).status = s.status ∧ (s.abortClose r).writer = s.writer ∧
    (s.abortClose r).mem = s.mem ∧ (s.abortClose r).nextMsg = s.nextMsg ∧ (s.abortClose r).pending = s.pending := by
  simp [State.abortClose]

@[simp] theorem State.completeGet_frame (s : State) (r : Request) :
    (s.completeGet r).resetAsserted = s.resetAsserted ∧ (s.completeGet r).host = s.host ∧
    (s.completeGet r).cmd = s.cmd ∧ (s.completeGet r).link = s.link ∧ (s.completeGet r).writer = s.writer ∧
    (s.completeGet r).mem = s.mem ∧ (s.completeGet r).nextMsg = s.nextMsg ∧ (s.completeGet r).free = s.free ∧
    (s.completeGet r).pending = s.pending := by
  unfold State.completeGet
  repeat' split
  all_goals simp


/-! ### Ends of bursts -/

@[simp] theorem State.fillTakes_frame (s : State) (n : Channel) (e : EntryIx) :
    (s.fillTakes n e).resetAsserted = s.resetAsserted ∧ (s.fillTakes n e).host = s.host ∧
    (s.fillTakes n e).link = s.link ∧ (s.fillTakes n e).engine = s.engine ∧ (s.fillTakes n e).status = s.status ∧
    (s.fillTakes n e).mover = s.mover ∧ (s.fillTakes n e).retire = s.retire ∧ (s.fillTakes n e).writer = s.writer ∧
    (s.fillTakes n e).mem = s.mem ∧ (s.fillTakes n e).nextMsg = s.nextMsg ∧ (s.fillTakes n e).free = s.free ∧
    (s.fillTakes n e).pending = s.pending := by
  unfold State.fillTakes
  repeat' split
  all_goals simp

@[simp] theorem State.lookupAnswered_frame (s : State) (n : Channel) (e : EntryIx) :
    (s.lookupAnswered n e).resetAsserted = s.resetAsserted ∧ (s.lookupAnswered n e).host = s.host ∧
    (s.lookupAnswered n e).cmd = s.cmd ∧ (s.lookupAnswered n e).link = s.link ∧
    (s.lookupAnswered n e).retire = s.retire ∧ (s.lookupAnswered n e).mem = s.mem ∧
    (s.lookupAnswered n e).nextMsg = s.nextMsg ∧ (s.lookupAnswered n e).free = s.free ∧
    (s.lookupAnswered n e).pending = s.pending := by
  unfold State.lookupAnswered
  repeat' split
  all_goals simp

@[simp] theorem State.fillFaults_frame (s : State) (e : EntryIx) (n : Channel) (why : FaultReason) (c : BitVec 4) :
    (s.fillFaults e n why c).resetAsserted = s.resetAsserted ∧ (s.fillFaults e n why c).host = s.host ∧
    (s.fillFaults e n why c).link = s.link ∧ (s.fillFaults e n why c).retire = s.retire ∧
    (s.fillFaults e n why c).mem = s.mem ∧ (s.fillFaults e n why c).nextMsg = s.nextMsg ∧
    (s.fillFaults e n why c).free = s.free ∧ (s.fillFaults e n why c).pending = s.pending := by
  simp [State.fillFaults]

@[simp] theorem State.fillReads_frame (s : State) (e : EntryIx) (n : Channel) (d : Descriptor) :
    (s.fillReads e n d).resetAsserted = s.resetAsserted ∧ (s.fillReads e n d).host = s.host ∧
    (s.fillReads e n d).link = s.link ∧ (s.fillReads e n d).retire = s.retire ∧ (s.fillReads e n d).mem = s.mem ∧
    (s.fillReads e n d).nextMsg = s.nextMsg ∧ (s.fillReads e n d).free = s.free ∧
    (s.fillReads e n d).pending = s.pending := by
  unfold State.fillReads
  repeat' split
  all_goals simp

@[simp] theorem State.linefillEnds_frame (s : State) (e : EntryIx) (b : Burst) (x : ReadEnd) :
    (s.linefillEnds e b x).resetAsserted = s.resetAsserted ∧ (s.linefillEnds e b x).host = s.host ∧
    (s.linefillEnds e b x).link = s.link ∧ (s.linefillEnds e b x).retire = s.retire ∧
    (s.linefillEnds e b x).nextMsg = s.nextMsg ∧ (s.linefillEnds e b x).free = s.free ∧
    (s.linefillEnds e b x).pending = s.pending := by
  unfold State.linefillEnds
  repeat' split
  all_goals simp

@[simp] theorem State.evictionGoesOn_frame (s : State) (e : EntryIx) (n : Channel) :
    (s.evictionGoesOn e n).resetAsserted = s.resetAsserted ∧ (s.evictionGoesOn e n).host = s.host ∧
    (s.evictionGoesOn e n).link = s.link ∧ (s.evictionGoesOn e n).engine = s.engine ∧
    (s.evictionGoesOn e n).status = s.status ∧ (s.evictionGoesOn e n).mover = s.mover ∧
    (s.evictionGoesOn e n).retire = s.retire ∧ (s.evictionGoesOn e n).writer = s.writer ∧
    (s.evictionGoesOn e n).mem = s.mem ∧ (s.evictionGoesOn e n).nextMsg = s.nextMsg ∧
    (s.evictionGoesOn e n).free = s.free ∧ (s.evictionGoesOn e n).pending = s.pending := by
  simp [State.evictionGoesOn]

@[simp] theorem State.evictionEnds_frame (s : State) (e : EntryIx) (n : Channel) (b : Burst) (x : WriteEnd) :
    (s.evictionEnds e n b x).resetAsserted = s.resetAsserted ∧ (s.evictionEnds e n b x).host = s.host ∧
    (s.evictionEnds e n b x).link = s.link ∧ (s.evictionEnds e n b x).nextMsg = s.nextMsg ∧
    (s.evictionEnds e n b x).pending = s.pending := by
  unfold State.evictionEnds
  repeat' split
  all_goals simp

@[simp] theorem State.invalidationEnds_frame (s : State) (e : EntryIx) (b : Burst) (x : WriteEnd) :
    (s.invalidationEnds e b x).resetAsserted = s.resetAsserted ∧ (s.invalidationEnds e b x).host = s.host ∧
    (s.invalidationEnds e b x).link = s.link ∧ (s.invalidationEnds e b x).nextMsg = s.nextMsg ∧
    (s.invalidationEnds e b x).pending = s.pending := by
  unfold State.invalidationEnds
  repeat' split
  all_goals simp

@[simp] theorem State.writeEnds_frame (s : State) (e : EntryIx) (b : Burst) (x : WriteEnd) :
    (s.writeEnds e b x).resetAsserted = s.resetAsserted ∧ (s.writeEnds e b x).host = s.host ∧
    (s.writeEnds e b x).link = s.link ∧ (s.writeEnds e b x).retire = s.retire ∧
    (s.writeEnds e b x).nextMsg = s.nextMsg ∧ (s.writeEnds e b x).pending = s.pending := by
  unfold State.writeEnds
  repeat' split
  all_goals simp

@[simp] theorem State.reportIfEnded_frame (s : State) (msg : Nat) :
    (s.reportIfEnded msg).resetAsserted = s.resetAsserted ∧ (s.reportIfEnded msg).host = s.host ∧
    (s.reportIfEnded msg).cmd = s.cmd ∧ (s.reportIfEnded msg).link = s.link ∧
    (s.reportIfEnded msg).engine = s.engine ∧ (s.reportIfEnded msg).cache = s.cache ∧
    (s.reportIfEnded msg).status = s.status ∧ (s.reportIfEnded msg).mover = s.mover ∧
    (s.reportIfEnded msg).port = s.port ∧ (s.reportIfEnded msg).writer = s.writer ∧
    (s.reportIfEnded msg).mem = s.mem ∧ (s.reportIfEnded msg).nextMsg = s.nextMsg ∧
    (s.reportIfEnded msg).free = s.free ∧ (s.reportIfEnded msg).pending = s.pending := by
  unfold State.reportIfEnded
  repeat' split
  all_goals simp

@[simp] theorem State.storeFaultMarks_frame (s : State) (msg : Nat) :
    (s.storeFaultMarks msg).resetAsserted = s.resetAsserted ∧ (s.storeFaultMarks msg).host = s.host ∧
    (s.storeFaultMarks msg).cmd = s.cmd ∧ (s.storeFaultMarks msg).link = s.link ∧
    (s.storeFaultMarks msg).status = s.status ∧ (s.storeFaultMarks msg).retire = s.retire ∧
    (s.storeFaultMarks msg).mem = s.mem ∧ (s.storeFaultMarks msg).nextMsg = s.nextMsg ∧
    (s.storeFaultMarks msg).free = s.free ∧ (s.storeFaultMarks msg).pending = s.pending := by
  unfold State.storeFaultMarks
  repeat' split
  all_goals simp

@[simp] theorem State.storeEnds_frame (s : State) (msg n : Nat) (b : Burst) (x : WriteEnd) :
    (s.storeEnds msg n b x).resetAsserted = s.resetAsserted ∧ (s.storeEnds msg n b x).host = s.host ∧
    (s.storeEnds msg n b x).cmd = s.cmd ∧ (s.storeEnds msg n b x).link = s.link ∧
    (s.storeEnds msg n b x).status = s.status ∧ (s.storeEnds msg n b x).nextMsg = s.nextMsg ∧
    (s.storeEnds msg n b x).pending = s.pending := by
  unfold State.storeEnds
  repeat' split
  all_goals simp

@[simp] theorem State.fetchFaultMarks_frame (s : State) (msg : Nat) :
    (s.fetchFaultMarks msg).resetAsserted = s.resetAsserted ∧ (s.fetchFaultMarks msg).host = s.host ∧
    (s.fetchFaultMarks msg).cmd = s.cmd ∧ (s.fetchFaultMarks msg).link = s.link ∧
    (s.fetchFaultMarks msg).status = s.status ∧ (s.fetchFaultMarks msg).retire = s.retire ∧
    (s.fetchFaultMarks msg).mem = s.mem ∧ (s.fetchFaultMarks msg).nextMsg = s.nextMsg ∧
    (s.fetchFaultMarks msg).free = s.free ∧ (s.fetchFaultMarks msg).pending = s.pending := by
  unfold State.fetchFaultMarks
  repeat' split
  all_goals simp

@[simp] theorem State.fetchEnds_frame (s : State) (msg n : Nat) (b : Burst) (x : ReadEnd) :
    (s.fetchEnds msg n b x).resetAsserted = s.resetAsserted ∧ (s.fetchEnds msg n b x).host = s.host ∧
    (s.fetchEnds msg n b x).cmd = s.cmd ∧ (s.fetchEnds msg n b x).link = s.link ∧
    (s.fetchEnds msg n b x).status = s.status ∧ (s.fetchEnds msg n b x).retire = s.retire ∧
    (s.fetchEnds msg n b x).nextMsg = s.nextMsg ∧ (s.fetchEnds msg n b x).free = s.free ∧
    (s.fetchEnds msg n b x).pending = s.pending := by
  unfold State.fetchEnds
  repeat' split
  all_goals simp

@[simp] theorem State.recordWordEnds_frame (s : State) (b : Burst) (x : WriteEnd) :
    (s.recordWordEnds b x).resetAsserted = s.resetAsserted ∧ (s.recordWordEnds b x).host = s.host ∧
    (s.recordWordEnds b x).cmd = s.cmd ∧ (s.recordWordEnds b x).link = s.link ∧
    (s.recordWordEnds b x).engine = s.engine ∧ (s.recordWordEnds b x).status = s.status ∧
    (s.recordWordEnds b x).mover = s.mover ∧ (s.recordWordEnds b x).nextMsg = s.nextMsg ∧
    (s.recordWordEnds b x).pending = s.pending := by
  unfold State.recordWordEnds
  repeat' split
  all_goals simp

@[simp] theorem State.entryEnds_frame (s : State) (b : Burst) (x : WriteEnd) :
    (s.entryEnds b x).resetAsserted = s.resetAsserted ∧ (s.entryEnds b x).cmd = s.cmd ∧
    (s.entryEnds b x).link = s.link ∧ (s.entryEnds b x).engine = s.engine ∧ (s.entryEnds b x).cache = s.cache ∧
    (s.entryEnds b x).status = s.status ∧ (s.entryEnds b x).mover = s.mover ∧ (s.entryEnds b x).retire = s.retire ∧
    (s.entryEnds b x).nextMsg = s.nextMsg ∧ (s.entryEnds b x).pending = s.pending := by
  unfold State.entryEnds
  repeat' split
  all_goals simp

end Sys2Proof.Machine
end

