-- ==== Sys2Proof/Laws/Memory.lean ====
section
/-! SUPPORT. Host memory: every write keeps the canonical form, a byte reads back what was written to it, and every other
byte reads as before. -/

namespace Sys2Proof.Machine

/-! ### The canonical form -/

@[simp] theorem Memory.wfFrom_cons (lo a : Nat) (v : Byte) (m : Memory) : Memory.wfFrom lo ((a, v) :: m) = true ↔
    ((lo ≤ a ∧ a < 2 ^ 32) ∧ v ≠ unlistedByte) ∧ Memory.wfFrom (a + 1) m = true := by
  simp only [Memory.wfFrom, Bool.and_eq_true, decide_eq_true_eq]

theorem Memory.wfFrom_mono {lo lo' : Nat} (h : lo ≤ lo') :
    ∀ {m : Memory}, Memory.wfFrom lo' m = true → Memory.wfFrom lo m = true
  | [], _ => rfl
  | (a, v) :: m, hm => by
    rw [Memory.wfFrom_cons] at hm ⊢
    exact ⟨⟨⟨by omega, hm.1.1.2⟩, hm.1.2⟩, hm.2⟩

theorem Memory.wfFrom_putCell {a : Nat} (v : Byte) (ha : a < 2 ^ 32) :
    ∀ {m : Memory} {lo : Nat}, lo ≤ a → Memory.wfFrom lo m = true → Memory.wfFrom lo (Memory.putCell m a v) = true
  | [], lo, hlo, _ => by
    unfold Memory.putCell
    split
    · rfl
    · exact (Memory.wfFrom_cons _ _ _ _).2 ⟨⟨⟨hlo, ha⟩, by assumption⟩, rfl⟩
  | (b, w) :: m, lo, hlo, hm => by
    have hm' := hm
    rw [Memory.wfFrom_cons] at hm
    obtain ⟨⟨⟨hb, hb'⟩, hw⟩, hr⟩ := hm
    simp only [Memory.putCell]
    repeat' split
    · exact hm'
    · exact (Memory.wfFrom_cons _ _ _ _).2
        ⟨⟨⟨hlo, ha⟩, by assumption⟩, (Memory.wfFrom_cons _ _ _ _).2 ⟨⟨⟨by omega, hb'⟩, hw⟩, hr⟩⟩
    · exact Memory.wfFrom_mono (by omega) hr
    · subst a
      exact (Memory.wfFrom_cons _ _ _ _).2 ⟨⟨⟨hlo, ha⟩, by assumption⟩, hr⟩
    · exact (Memory.wfFrom_cons _ _ _ _).2
        ⟨⟨⟨hb, hb'⟩, hw⟩, Memory.wfFrom_putCell v ha (m := m) (lo := b + 1) (by omega) hr⟩

theorem Memory.wf_writeByte {m : Memory} (a : Addr) (v : Byte) (h : Memory.wf m = true) :
    Memory.wf (Memory.writeByte m a v) = true :=
  Memory.wfFrom_putCell v a.isLt (Nat.zero_le _) h

theorem Memory.wf_writeEnabled {m : Memory} (a : Addr) (b : Bool) (v : Byte) (h : Memory.wf m = true) :
    Memory.wf (Memory.writeEnabled m a b v) = true := by
  unfold Memory.writeEnabled
  split
  · exact Memory.wf_writeByte _ _ h
  · exact h

theorem Memory.wf_writeWord {m : Memory} (a : Addr) (x : WriteWord) (h : Memory.wf m = true) :
    Memory.wf (Memory.writeWord m a x) = true :=
  Memory.wf_writeEnabled _ _ _ (Memory.wf_writeEnabled _ _ _ (Memory.wf_writeEnabled _ _ _
    (Memory.wf_writeEnabled _ _ _ h)))

theorem Memory.wf_writeWords : ∀ (xs : List WriteWord) {m : Memory} (a : Addr), Memory.wf m = true →
    Memory.wf (Memory.writeWords m a xs) = true
  | [], _, _, h => h
  | x :: xs, _, a, h => Memory.wf_writeWords xs (a + 4) (Memory.wf_writeWord a x h)

theorem Memory.wf_writeLanded (mask : BitVec 8) : ∀ (xs : List WriteWord) (k : Nat) {m : Memory} (a : Addr),
    Memory.wf m = true → Memory.wf (Memory.writeLanded mask k m a xs) = true
  | [], _, _, _, h => h
  | x :: xs, k, _, a, h => by
    refine Memory.wf_writeLanded mask xs (k + 1) (a + 4) ?_
    split
    · exact Memory.wf_writeWord a x h
    · exact h

theorem Memory.wf_hostWrites : ∀ (ws : List (Addr × Byte)) {m : Memory}, Memory.wf m = true →
    Memory.wf (Memory.hostWrites m ws) = true
  | [], _, h => h
  | (a, v) :: ws, _, h => Memory.wf_hostWrites ws (Memory.wf_writeByte a v h)

theorem Memory.wf_reset : Memory.wf State.reset.mem = true := rfl

/-! ### Reading after a write -/

theorem Memory.lookup_none_of_wfFrom {lo a : Nat} (h : a < lo) :
    ∀ {m : Memory}, Memory.wfFrom lo m = true → m.lookup a = none
  | [], _ => rfl
  | (b, w) :: m, hm => by
    rw [Memory.wfFrom_cons] at hm
    have hne : (a == b) = false := by simp; omega
    simp only [List.lookup, hne]
    exact Memory.lookup_none_of_wfFrom (by omega) hm.2

/-- What a cell list reads at an address, as a byte. -/
theorem Memory.getD_lookup_putCell {a : Nat} (v : Byte) (x : Nat) :
    ∀ {m : Memory} {lo : Nat}, Memory.wfFrom lo m = true →
      ((Memory.putCell m a v).lookup x).getD unlistedByte =
        if x = a then v else (m.lookup x).getD unlistedByte
  | [], lo, _ => by
    by_cases hv : v = unlistedByte
    · simp [Memory.putCell, hv]
    · by_cases hx : x = a
      · simp [Memory.putCell, hv, hx]
      · have : (x == a) = false := by simpa using hx
        simp [Memory.putCell, hv, hx, List.lookup, this]
  | (b, w) :: m, lo, hm => by
    rw [Memory.wfFrom_cons] at hm
    obtain ⟨⟨⟨hb, hb'⟩, hw⟩, hm⟩ := hm
    have none_at : ∀ y, y < b + 1 → m.lookup y = none := fun y hy => Memory.lookup_none_of_wfFrom hy hm
    simp only [Memory.putCell]
    split
    · rename_i hab
      by_cases hx : x = a
      · subst hx
        have hxb : (x == b) = false := by simp; omega
        split
        · simp only [List.lookup, none_at x (by omega), if_true, Option.getD_none, *]
        · simp [List.lookup]
      · have : (x == a) = false := by simpa using hx
        split <;> simp [List.lookup, this]
    · split
      · subst a
        by_cases hx : x = b
        · subst hx
          split
          · simp [none_at x (by omega), *]
          · simp [List.lookup]
        · have : (x == b) = false := by simpa using hx
          split <;> simp [List.lookup, this]
      · rename_i h1 h2
        have ih := Memory.getD_lookup_putCell (a := a) v x hm
        by_cases hx : x = b
        · subst hx
          have : x ≠ a := fun h => h2 h.symm
          simp [List.lookup, this]
        · have : (x == b) = false := by simpa using hx
          simpa [List.lookup, this] using ih

theorem Memory.readByte_eq (m : Memory) (a : Addr) : Memory.readByte m a = (m.lookup a.toNat).getD unlistedByte := by
  unfold Memory.readByte
  split <;> simp [*]

/-- Read after write, and the frame of a write, in one. -/
theorem Memory.readByte_writeByte {m : Memory} (a b : Addr) (v : Byte) (h : Memory.wf m = true) :
    Memory.readByte (Memory.writeByte m a v) b = if b = a then v else Memory.readByte m b := by
  rw [Memory.readByte_eq, Memory.readByte_eq, Memory.writeByte, Memory.getD_lookup_putCell (lo := 0) v b.toNat h]
  simp [BitVec.toNat_inj]

/-- Another byte reads as before, whatever form memory is in. -/
theorem Memory.lookup_putCell_ne {a x : Nat} (v : Byte) (h : x ≠ a) :
    ∀ m : Memory, (Memory.putCell m a v).lookup x = m.lookup x
  | [] => by
    have ha : (x == a) = false := by simpa using h
    unfold Memory.putCell
    split <;> simp [List.lookup, ha]
  | (b, w) :: m => by
    have ha : (x == a) = false := by simpa using h
    simp only [Memory.putCell]
    repeat' split
    · rfl
    · simp [List.lookup, ha]
    · subst a; simp [List.lookup, ha]
    · subst a; simp [List.lookup, ha]
    · simp [List.lookup, Memory.lookup_putCell_ne v h m]

theorem Memory.readByte_writeByte_ne (m : Memory) {a b : Addr} (v : Byte) (h : b ≠ a) :
    Memory.readByte (Memory.writeByte m a v) b = Memory.readByte m b := by
  rw [Memory.readByte_eq, Memory.readByte_eq, Memory.writeByte,
    Memory.lookup_putCell_ne v (fun h' => h (BitVec.eq_of_toNat_eq h'))]

theorem Memory.readByte_writeEnabled {m : Memory} (a b : Addr) (on : Bool) (v : Byte) (h : Memory.wf m = true) :
    Memory.readByte (Memory.writeEnabled m a on v) b = if on = true ∧ b = a then v else Memory.readByte m b := by
  unfold Memory.writeEnabled
  cases on <;> simp [Memory.readByte_writeByte, h]

/-! ### Words and bursts -/

theorem Memory.readByte_writeEnabled_ne (m : Memory) {a b : Addr} (on : Bool) (v : Byte) (h : b ≠ a) :
    Memory.readByte (Memory.writeEnabled m a on v) b = Memory.readByte m b := by
  unfold Memory.writeEnabled
  split
  · exact Memory.readByte_writeByte_ne m v h
  · rfl

theorem Memory.readByte_writeWord_ne (m : Memory) {a b : Addr} (x : WriteWord) (h : 4 ≤ (b - a).toNat) :
    Memory.readByte (Memory.writeWord m a x) b = Memory.readByte m b := by
  unfold Memory.writeWord
  rw [Memory.readByte_writeEnabled_ne, Memory.readByte_writeEnabled_ne, Memory.readByte_writeEnabled_ne,
    Memory.readByte_writeEnabled_ne] <;> (rintro rfl; revert h; bv_omega)

/-- What lies `4 * (n + 1)` bytes or more past `a` lies at least `4 * n` past `a + 4`. -/
theorem Memory.past_next {a b : Addr} {n : Nat} (h : 4 * (n + 1) ≤ (b - a).toNat) :
    4 ≤ (b - a).toNat ∧ 4 * n ≤ (b - (a + 4)).toNat := by
  refine ⟨by omega, ?_⟩
  have : (b - (a + 4)).toNat = (b - a).toNat - 4 := by bv_omega
  omega

/-- A write burst changes no byte it misses (R122). -/
theorem Memory.readByte_writeWords_miss : ∀ (xs : List WriteWord) (m : Memory) {a b : Addr},
    4 * xs.length ≤ (b - a).toNat → Memory.readByte (Memory.writeWords m a xs) b = Memory.readByte m b
  | [], _, _, _, _ => rfl
  | x :: xs, m, a, b, h => by
    obtain ⟨h1, h2⟩ := Memory.past_next h
    rw [Memory.writeWords, Memory.readByte_writeWords_miss xs _ h2, Memory.readByte_writeWord_ne m x h1]

/-- Nor does one that ends in bus error or is abandoned (R122, R140). -/
theorem Memory.readByte_writeLanded_miss (mask : BitVec 8) : ∀ (xs : List WriteWord) (k : Nat) (m : Memory) {a b : Addr},
    4 * xs.length ≤ (b - a).toNat → Memory.readByte (Memory.writeLanded mask k m a xs) b = Memory.readByte m b
  | [], _, _, _, _, _ => rfl
  | x :: xs, k, m, a, b, h => by
    obtain ⟨h1, h2⟩ := Memory.past_next h
    rw [Memory.writeLanded, Memory.readByte_writeLanded_miss mask xs _ _ h2]
    split
    · exact Memory.readByte_writeWord_ne m x h1
    · rfl

end Sys2Proof.Machine
end

