-- ==== Sys2Proof/Laws/Ops.lean ====
section
/-! SUPPORT. For each shared operation, everything it can do: the branches it may take, each with what led to it and the
state it gives. -/

namespace Sys2Proof.Machine

/-! ### The gates -/

theorem State.live_of_not_reset {s : State} (h : s.resetAsserted = false) (f : State → State) : s.live f = f s := by
  simp [State.live, h]

theorem State.live_of_reset {s : State} (h : s.resetAsserted = true) (f : State → State) : s.live f = s := by
  simp [State.live, h]

/-- Under RESET a command changes nothing; otherwise it is carried out. -/
theorem State.live_cases (s : State) (f : State → State) : s.live f = s ∨ (s.resetAsserted = false ∧ s.live f = f s) := by
  cases h : s.resetAsserted <;> simp [State.live, h]

/-- In HALTED a symbol changes nothing; otherwise it is taken. -/
theorem State.onLine_cases (s : State) (f : State → State) :
    s.onLine f = s ∨ (s.cmd.node ≠ .halted ∧ s.onLine f = f s) := by
  unfold State.onLine
  split <;> simp_all

/-- A configuration write is taken in HALTED and only noted elsewhere. -/
theorem State.configured_cases (s : State) (f : State → State) :
    (s.cmd.node = .halted ∧ s.configured f = f s) ∨
      (s.cmd.node ≠ .halted ∧ s.configured f = s.setSticky stickyConfigIgnored) := by
  unfold State.configured
  split <;> simp_all

/-- A command is refused as busy, or taken with the unit busy. -/
theorem State.takeCommand_cases (s : State) (code operand : Byte) (body : State → State) :
    (s.cmd.busy = true ∧ s.takeCommand code operand body = s.setSticky stickyRefusedBusy) ∨
      (s.cmd.busy = false ∧ s.takeCommand code operand body =
        body { s with cmd := { s.cmd with busy := true, code := code, operand := operand, result := .none } }) := by
  cases h : s.cmd.busy <;> simp [State.takeCommand, h]

/-- A channel command fails a check of R165, or is carried out on its channel. -/
theorem State.channelCommand_cases (s : State) (operand : Byte) (body : Channel → State → State) :
    (63 < operand.toNat ∧ s.channelCommand operand body = s.endCommand .refusedBadChannel) ∨
      (operand.toNat ≤ 63 ∧ s.cmd.node = .stopping ∧ s.channelCommand operand body = s.endCommand .refusedBadState) ∨
      (operand.toNat ≤ 63 ∧ s.cmd.node ≠ .stopping ∧ s.channelCommand operand body = body (channelOf operand) s) := by
  unfold State.channelCommand
  repeat' split
  all_goals first | (left; exact ⟨by assumption, rfl⟩) | (right; simp_all)

/-! ### The event writer -/

/-- An event is taken at the tail, or dropped and counted (R147). -/
theorem Writer.take_cases (w : Writer) (ev : Event) :
    (w.active = true ∧ w.queue.length < 8 ∧ w.take ev = { w with queue := w.queue ++ [ev] }) ∨
      ((w.active = false ∨ 8 ≤ w.queue.length) ∧ w.take ev = { w with dropped := saturate w.dropped 1 }) := by
  unfold Writer.take
  split
  · rename_i h
    exact .inl ⟨h.1, h.2, rfl⟩
  · rename_i h
    refine .inr ⟨?_, rfl⟩
    simp only [Config.eventCapacity, not_and, Nat.not_lt] at h
    cases ha : w.active
    · exact .inl rfl
    · exact .inr (h ha)

/-- Taking an event touches the queue and the dropped count alone. -/
@[simp] theorem Writer.take_frame (w : Writer) (ev : Event) :
    (w.take ev).active = w.active ∧ (w.take ev).eqBase = w.eqBase ∧ (w.take ev).eqSize = w.eqSize ∧
      (w.take ev).producer = w.producer ∧ (w.take ev).consumer = w.consumer ∧ (w.take ev).serial = w.serial ∧
      (w.take ev).writing = w.writing ∧ (w.take ev).fullPeriod = w.fullPeriod := by
  unfold Writer.take
  split <;> simp

@[simp] theorem Writer.takeAll_nil (w : Writer) : w.takeAll [] = w := rfl

theorem Writer.takeAll_cons (w : Writer) (ev : Event) (evs : List Event) :
    w.takeAll (ev :: evs) = (w.take ev).takeAll evs := rfl

/-- The writer's look (R149, R151, R156): nothing, an entry presented, the start of a full period, or STOP's drop. -/
theorem State.writerLook_cases (s : State) :
    s.writerLook = s ∨ (s.writer.queue ≠ [] ∧ s.writer.active = true ∧ s.writer.writing = none ∧
      ((∃ ev rest, s.writer.queue = ev :: rest ∧ s.writer.full = false ∧ s.writerLook = s.presentEntry ev) ∨
        (s.writer.full = true ∧ s.cmd.work.stopsEvents = true ∧ s.writerLook = s.dropPending) ∨
        (s.writer.full = true ∧ s.cmd.work.stopsEvents = false ∧ s.writerLook = s.beginFullPeriod))) := by
  unfold State.writerLook
  repeat' split
  all_goals simp_all

/-! ### The context cache's bursts -/

/-- The cache's first due burst is presented once its client is free (R96). -/
theorem State.presentCache_cases (s : State) :
    s.presentCache = s ∨ ∃ b rest, s.cache.due = b :: rest ∧ s.port.cache = none ∧ s.port.flies .cache = false ∧
      s.presentCache = { s with
        cache := { s.cache with due := rest }, port := { s.port with cache := some (s.cacheBurst b) } } := by
  unfold State.presentCache
  repeat' split
  · exact .inl rfl
  · exact .inl rfl
  · rename_i b rest hd hn
    simp only [ne_eq, not_or, not_not, Bool.not_eq_true] at hn
    exact .inr ⟨b, rest, hd, hn.1, hn.2, rfl⟩

/-- Presenting a burst leaves the entries and the pending fills as they are. -/
@[simp] theorem State.presentCache_entries (s : State) :
    s.presentCache.cache.entries = s.cache.entries ∧ s.presentCache.cache.fills = s.cache.fills := by
  obtain h | ⟨b, rest, -, -, -, h⟩ := s.presentCache_cases <;> rw [h] <;> exact ⟨rfl, rfl⟩

@[simp] theorem State.presentCache_entry (s : State) (e : EntryIx) : s.presentCache.cache.entry e = s.cache.entry e :=
  Cache.entry_congr s.presentCache_entries.1 e

@[simp] theorem State.cacheDue_entries (s : State) (b : CacheBurst) :
    (s.cacheDue b).cache.entries = s.cache.entries ∧ (s.cacheDue b).cache.fills = s.cache.fills := by
  simp [State.cacheDue]

@[simp] theorem State.cacheDue_entry (s : State) (b : CacheBurst) (e : EntryIx) :
    (s.cacheDue b).cache.entry e = s.cache.entry e :=
  Cache.entry_congr (s.cacheDue_entries b).1 e

/-- The master port when the cache presents a burst: its own client's request alone may change. -/
@[simp] theorem State.presentCache_port (s : State) :
    s.presentCache.port.fetch = s.port.fetch ∧ s.presentCache.port.store = s.port.store ∧
      s.presentCache.port.retire = s.port.retire ∧ s.presentCache.port.writer = s.port.writer ∧
      s.presentCache.port.inFlight = s.port.inFlight := by
  obtain h | ⟨b, rest, -, -, -, h⟩ := s.presentCache_cases <;> rw [h] <;> exact ⟨rfl, rfl, rfl, rfl, rfl⟩

@[simp] theorem State.cacheDue_port (s : State) (b : CacheBurst) :
    (s.cacheDue b).port.fetch = s.port.fetch ∧ (s.cacheDue b).port.store = s.port.store ∧
      (s.cacheDue b).port.retire = s.port.retire ∧ (s.cacheDue b).port.writer = s.port.writer ∧
      (s.cacheDue b).port.inFlight = s.port.inFlight := by
  simp [State.cacheDue]

/-- A burst that becomes due while its client is free is presented at once (R96). -/
theorem State.cacheDue_of_free {s : State} (h1 : s.cache.due = []) (h2 : s.port.cache = none)
    (h3 : s.port.flies .cache = false) (b : CacheBurst) :
    s.cacheDue b = { s with port := { s.port with cache := some (s.cacheBurst b) } } := by
  obtain ⟨_, _, _, _, _, ⟨_, _, due⟩, _, _, _, _, _, _, _, _, _⟩ := s
  cases h1
  simp only [State.cacheDue, State.presentCache, List.nil_append]
  rw [if_neg (by simp_all)]
  cases b <;> rfl

/-- A burst that becomes due while another of its client's waits or flies joins the list (R96). -/
theorem State.cacheDue_of_busy {s : State} (h : s.port.cache ≠ none ∨ s.port.flies .cache = true) (b : CacheBurst) :
    s.cacheDue b = { s with cache := { s.cache with due := s.cache.due ++ [b] } } := by
  unfold State.cacheDue State.presentCache
  split
  · rfl
  · rw [if_pos h]

/-- No burst of the client is in flight, as the statements say it. -/
theorem Port.flies_eq_false {p : Port} {c : Client} :
    p.flies c = false ↔ p.inFlight.map (fun b => b.kind.client) ≠ some c := by
  unfold Port.flies
  cases p.inFlight <;> simp

/-- The cache's turn, as the statements say it (R96): its burst in flight has ended. -/
theorem State.presentCache_eq {s : State} (h : s.port.flies .cache = false) (hp : s.port.cache = none) :
    s.presentCache = { s with
      cache := { s.cache with due := s.cache.due.tail }
      port := { s.port with cache := s.cache.due.head?.map s.cacheBurst } } := by
  unfold State.presentCache
  split
  · rename_i hd
    obtain ⟨_, _, _, _, _, ⟨_, _, due⟩, _, _, ⟨_, _, _, _, _, _⟩, _, _, _, _, _, _⟩ := s
    cases hd; cases hp; rfl
  · rename_i hd
    simp [hd, h, hp]

/-- A cache with a request waiting presents none (R124). -/
theorem State.presentCache_of_busy {s : State} (h : s.port.cache ≠ none) : s.presentCache = s := by
  unfold State.presentCache
  split
  · rfl
  · rw [if_pos (.inl h)]

theorem State.cacheBurst_eq_burstOf (s : State) (x : CacheBurst) :
    s.cacheBurst x = s.burstOf (fun g => (s.cache.entry g).tag) x := by
  cases x <;> rfl

/-- What the statements call a free cache client is what the model tests. -/
theorem State.CachePortFree.unfold {s : State} (h : s.CachePortFree) :
    s.cache.due = [] ∧ s.port.cache = none ∧ s.port.flies .cache = false := by
  obtain ⟨h1, h2, h3⟩ := h
  refine ⟨h1, h2, ?_⟩
  unfold Port.flies
  split
  · rename_i b hb
    cases hk : b.kind <;> simp_all [BurstKind.client]
  · rfl

/-! ### The ranges of a message (R21, Table 2-3) -/

/-- The record address as an address sum (R21). -/
theorem Descriptor.recordAddr_eq (d : Descriptor) :
    d.recordAddr = match d.mode with
      | .ring => d.recBase + BitVec.ofNat 32 (8 * d.recIdx.toNat)
      | .alternate => d.activeBuffer
      | _ => d.cursor := by
  unfold Descriptor.recordAddr Descriptor.recordStart
  cases d.mode <;> simp [BitVec.ofNat_add]

/-- The data address as an address sum (R21). -/
theorem Descriptor.dataAddr_eq (d : Descriptor) (len : Nat) :
    d.dataAddr len = match d.mode with
      | .ring => d.ringData len
      | .alternate => d.activeBuffer + 8
      | _ => d.cursor + 8 := by
  unfold Descriptor.dataAddr Descriptor.dataStart
  cases d.mode <;> simp [BitVec.ofNat_add]

/-- The data address of a duplicate GET as an address sum (R21, R78). -/
theorem Descriptor.duplicateData_eq (d : Descriptor) :
    d.duplicateData = match d.mode with
      | .alternate => d.activeBuffer + 8
      | _ => d.prev + 8 := by
  unfold Descriptor.duplicateData Descriptor.duplicateStart
  cases d.mode <;> simp [BitVec.ofNat_add]

/-- The guard test (R138). -/
theorem guardPass_iff (guards : Vector GuardWindow 4) (start len : Nat) (right : Right) :
    guardPass guards start len right = true ↔ ∃ w ∈ guards.toList, w.covers start len right = true :=
  List.any_eq_true

/-! ### Fills that take an entry, and the members of PURGE (R90, R91, R103) -/

@[simp] theorem CastJob.mem_entryTaken (j : CastJob) (e : EntryIx) (m : EntryIx × Channel) :
    m ∈ (j.entryTaken e).members ↔ m ∈ j.members ∧ m.1 ≠ e := by
  simp [CastJob.entryTaken]

@[simp] theorem CastJob.entryTaken_rest (j : CastJob) (e : EntryIx) :
    (j.entryTaken e).todo = j.todo ∧ (j.entryTaken e).phase = j.phase := ⟨rfl, rfl⟩

/-- A fill that takes an entry changes the members of PURGE's second set alone (R103). -/
theorem Work.entryTaken_cases (w : Work) (e : EntryIx) :
    (∃ j k f, w = .purge j k f ∧ w.entryTaken e = .purge j (k.entryTaken e) f) ∨
      ((∀ j k f, w ≠ .purge j k f) ∧ w.entryTaken e = w) := by
  cases w with
  | purge j k f => exact .inl ⟨j, k, f, rfl, rfl⟩
  | _ => exact .inr ⟨nofun, rfl⟩

/-- The end of a castout of entry `e` (R102, R103): a job that casts its head member `e` has cast it. -/
theorem CastJob.castEnds_eq (j : CastJob) (e : EntryIx) :
    j.castEnds e =
      if j.phase = .casting ∧ j.todo.head?.map Prod.fst = some e then { j with phase := .cast } else j := by
  unfold CastJob.castEnds
  cases h : j.todo with
  | nil => simp
  | cons a l => simp [and_comm]

/-- What the end of a write or castout does to the work of the command unit, as the statements say it (log 15, R169). -/
theorem Work.castEnds_eq_afterEnd (w : Work) (e : EntryIx) (n : Channel) (faulted : Bool) :
    (if faulted then (w.memberFaults e n).noteReport else w).castEnds e = w.afterEnd e n faulted := by
  unfold Work.afterEnd
  cases w <;> cases faulted <;> simp [Work.castEnds, Work.memberFaults, Work.noteReport, CastJob.castEnds_eq]

/-- An entry after an eviction castout (R91): the one that was cast out fills for its new tag. -/
theorem State.evictionGoesOn_entry (s : State) (e g : EntryIx) (n : Channel) :
    (s.evictionGoesOn e n).cache.entry g = if g = e then
      { s.cache.entry e with tag := n, state := .filling, next := none } else s.cache.entry g := by
  unfold State.evictionGoesOn
  rw [State.cacheDue_entry]
  simp only [State.setWork_cache]
  rw [Cache.entry_modify]

/-- A fill takes an entry (R90): a DIRTY one is cast out first, any other begins to fill. -/
theorem State.fillTakes_cases (s : State) (n : Channel) (e : EntryIx) :
    ((s.cache.entry e).state = .dirty ∧ s.fillTakes n e =
        State.cacheDue { s with cache := (s.cache.withdrawFill n).beginEvict e (some n) } (.eviction e)) ∨
      ((s.cache.entry e).state ≠ .dirty ∧ s.fillTakes n e =
        State.cacheDue ({ s with cache := (s.cache.withdrawFill n).beginFill e n }.setWork (s.cmd.work.entryTaken e))
          (.linefill e)) := by
  unfold State.fillTakes
  split
  · exact .inl ⟨by assumption, rfl⟩
  · exact .inr ⟨by assumption, rfl⟩

/-- The request in progress is for the channel (R62). -/
theorem State.serves_iff (s : State) (n : Channel) : s.serves n = true ↔ ∃ r, s.engine = some r ∧ r.channel = n := by
  unfold State.serves
  split <;> simp_all

/-- The request in progress is for the channel and its header did not come in the HOLD_WAIT that stands (R111). -/
theorem State.holdWaitsFor_iff (s : State) (n : Channel) :
    s.holdWaitsFor n = true ↔ ∃ r, s.engine = some r ∧ r.channel = n ∧ r.byHold = false := by
  unfold State.holdWaitsFor
  split <;> simp_all

theorem Retire.names_iff (q : Retire) (n : Channel) : q.names n = true ↔ ∃ c ∈ q.queue, c.channel = n := by
  simp [Retire.names]

/-! ### The data mover -/

/-- The store client's request (R130). -/
theorem State.presentStore_cases (s : State) :
    s.presentStore = s ∨ ∃ x, s.port.store = none ∧ s.port.flies .store = false ∧ x ∈ s.mover.segments ∧
      x.state = .storing ∧ x.held ≠ [] ∧ (4 ≤ x.held.length ∨ x.due = 0) ∧
      s.presentStore = { s with port := { s.port with store := some x.msg } } := by
  unfold State.presentStore
  split
  · exact .inl rfl
  · rename_i hn
    simp only [ne_eq, not_or, not_not, Bool.not_eq_true] at hn
    split
    · rename_i x hx
      have hp := List.find?_some hx
      simp only [Bool.and_eq_true, decide_eq_true_eq, Bool.not_eq_true', List.isEmpty_eq_false_iff] at hp
      split
      · rename_i hw
        exact .inr ⟨x, hn.1, hn.2, List.mem_of_find?_eq_some hx, hp.1, hp.2, hw, rfl⟩
      · exact .inl rfl
    · exact .inl rfl

/-- The fetch client's next burst, when the buffer has room for it (R134). -/
theorem State.presentFetch_cases (s : State) :
    s.presentFetch = s ∨ ∃ t, s.mover.staging = some t ∧ s.port.fetch = none ∧ s.port.flies .fetch = false ∧ t.left ≠ 0 ∧
      t.held.length + 4 * t.burstWords ≤ 64 ∧
      s.presentFetch = { s with port := { s.port with
        fetch := some ⟨.fetch t.msg (min (4 * t.burstWords) t.left), t.next, t.burstWords, []⟩ } } := by
  unfold State.presentFetch
  split
  · exact .inl rfl
  · rename_i t ht
    split
    · exact .inl rfl
    · rename_i hn
      split
      · rename_i hr
        simp only [ne_eq, not_or, not_not, Bool.not_eq_true] at hn
        exact .inr ⟨t, ht, hn.1, hn.2.1, hn.2.2, hr, rfl⟩
      · exact .inl rfl

/-- The store client's look, as the statements say it (R130). -/
theorem State.presentStore_eq (s : State) :
    s.presentStore = { s with port := { s.port with store := s.port.storeLook s.mover.segments } } := by
  unfold State.presentStore Port.storeLook
  have hp : (fun x : Segment => decide (x.state = .storing) && !x.held.isEmpty) =
      fun x => decide (x.state = .storing ∧ x.held ≠ []) := by
    funext x; cases x.held <;> simp
  rw [hp]
  generalize s.mover.segments.find? _ = o
  simp only [← Port.flies_eq_false]
  by_cases h1 : s.port.store = none
  · by_cases h2 : s.port.flies .store = false
    · rw [if_neg (by simp [h1, h2]), if_pos ⟨h1, h2⟩]
      cases o with
      | none => simp [← h1]
      | some x => by_cases h : 4 ≤ x.held.length ∨ x.due = 0 <;> simp [h, ← h1]
    · simp [h2]
  · simp [h1]

/-- The fetch client's look, as the statements say it (R134). -/
theorem State.presentFetch_eq (s : State) :
    s.presentFetch = { s with port := { s.port with fetch := s.port.fetchLook s.mover.staging } } := by
  unfold State.presentFetch Port.fetchLook Staging.burstWords blockRoom Config.transmitCapacity
  cases s.mover.staging with
  | none => rfl
  | some t =>
    simp only [← Port.flies_eq_false]
    by_cases h1 : s.port.fetch = none
    · by_cases h2 : s.port.flies .fetch = false ∧ t.left ≠ 0
      · rw [if_neg (by simp [h1, h2])]
        simp only [h1, h2, Nat.pos_iff_ne_zero, true_and, ne_eq, not_false_eq_true]
        split <;> simp [← h1]
      · rw [if_pos (by cases hf : s.port.flies .fetch <;> simp_all), if_neg (by simp [Nat.pos_iff_ne_zero] at h2 ⊢; tauto)]
    · simp [h1]

/-- A fetch burst has at most the eight words of a block (R122). -/
theorem Staging.burstWords_le (t : Staging) : t.burstWords ≤ 8 := by
  unfold Staging.burstWords blockRoom
  omega

/-- The buffer goes on, or serves no message and its waiting request is withdrawn (R135). -/
theorem State.abandonFetch_cases (s : State) (msg : Nat) :
    (s.abandonFetch msg = s ∧ ∀ t, s.mover.staging = some t → t.msg ≠ msg) ∨
      ∃ t, s.mover.staging = some t ∧ t.msg = msg ∧ s.abandonFetch msg = { s with
        mover := { s.mover with staging := none }, port := { s.port with fetch := none } } := by
  unfold State.abandonFetch
  repeat' split
  · rename_i t ht hm
    exact .inr ⟨t, ht, hm, rfl⟩
  · rename_i t ht hm
    exact .inl ⟨rfl, fun u hu => by rw [ht] at hu; cases hu; exact hm⟩
  · rename_i hn
    exact .inl ⟨rfl, fun u hu => by rw [hn] at hu; cases hu⟩

/-! ### Requests -/

@[simp] theorem State.abandonData_engine (s : State) (r : Request) : (s.abandonData r).engine = s.engine := by simp

@[simp] theorem State.endRequest_engine (s : State) (r : Request) : (s.endRequest r).engine = none := by
  simp [State.endRequest]

/-- Ending a request releases its entry's mark and changes nothing else of the cache (R64). -/
theorem State.endRequest_cache (s : State) (r : Request) :
    (s.endRequest r).cache = match r.entry with
      | some e => s.cache.setInUse e false
      | none => s.cache := by
  simp [State.endRequest] <;> rfl

/-- A broadcast in AWAIT_READY that has closed ends; any other request stays (R81). -/
theorem State.settleBroadcast_cases (s : State) :
    (s.settleBroadcast = s) ∨ ∃ r, s.engine = some r ∧ r.broadcast = true ∧ r.closed = true ∧ r.phase = .awaitReady ∧
      s.settleBroadcast =
        (if r.verdict = .dropped true then s.countError r .broadcastDropped 0 else s).endRequest r := by
  cases he : s.engine with
  | none => exact .inl (by simp [State.settleBroadcast, he])
  | some r =>
    by_cases h : r.broadcast = true ∧ r.closed = true ∧ r.phase = .awaitReady
    · exact .inr ⟨r, rfl, h.1, h.2.1, h.2.2, by simp [State.settleBroadcast, he, h]⟩
    · exact .inl (by simp [State.settleBroadcast, he, h])

/-- A concluded request waits in AWAIT_READY with its verdict, or, a broadcast that has closed, has ended. -/
theorem State.conclude_engine (s : State) (r : Request) (v : Verdict) :
    (s.conclude r v).engine =
      if r.broadcast = true ∧ r.closed = true then none else some { r with verdict := v, phase := .awaitReady } := by
  unfold State.conclude State.settleBroadcast
  simp only [State.abandonData_engine]
  split <;> simp_all

/-- The same, as the statements say it. -/
theorem State.conclude_concluded (s : State) (r : Request) (v : Verdict) : (s.conclude r v).Concluded r r.entry v := by
  unfold State.Concluded
  rw [State.conclude_engine]
  split <;> rfl

/-- The engine when a context is lost: IDLE, another request, the same without its entry, or one concluded (R83). -/
theorem State.contextLost_cases (s : State) (e : EntryIx) :
    s.contextLost e = s ∨ ∃ r, s.engine = some r ∧ r.entry = some e ∧
      ((r.phase = .replying ∧ s.contextLost e = { s with engine := some { r with entry := none, lost := true } }) ∨
        (r.phase ≠ .replying ∧ s.contextLost e = s.conclude { r with entry := none } r.faultVerdict)) := by
  unfold State.contextLost
  repeat' split
  all_goals simp_all

/-- A waiting lookup of the channel is concluded with its fault; anything else stays (R92). -/
theorem State.lookupFaults_cases (s : State) (n : Channel) :
    s.lookupFaults n = s ∨ ∃ r, s.engine = some r ∧ r.channel = n ∧ r.phase = .lookup ∧
      s.lookupFaults n = s.conclude r r.faultVerdict := by
  unfold State.lookupFaults
  repeat' split
  all_goals simp_all

/-! ### The commit -/

/-- A request with its entry and ranges commits (R20, R71). -/
theorem State.commit_eq (s : State) (r : Request) (place : Completion → List Completion → List Completion) {e : EntryIx}
    {rg : Ranges} (he : r.entry = some e) (hr : r.ranges = some rg) :
    s.commit r place =
      let a := (s.context e).commit r.kind r.seq r.length rg (s.record r.channel).returned
      let s1 := s.advance r e a
      ({ s1 with retire := { s1.retire with
          queue := place (commitEntry s.link r rg (s.context e) a
            (decide (r.kind = MsgKind.put) && s.mover.storesPending r.msg)) s1.retire.queue } }).leaveRequest r := by
  simp [State.commit, he, hr]

@[simp] theorem State.commit_engine (s : State) (r : Request)
    (place : Completion → List Completion → List Completion) : (s.commit r place).engine = none := by
  unfold State.commit
  split <;> simp

/-! ### The retire unit -/

/-- The head's release (R145). -/
theorem State.releaseHead_cases (s : State) :
    (s.retire.queue = [] ∧ s.releaseHead = s) ∨ ∃ c rest, s.retire.queue = c :: rest ∧ s.releaseHead = { s with
      writer := s.writer.takeAll c.events, retire := { s.retire with queue := rest, step := .stores } } := by
  unfold State.releaseHead
  split <;> simp_all

/-- The answers to a descriptor write (R97). -/
theorem State.askDescriptorWrite_cases (s : State) (n : Channel) :
    (∃ e, s.cache.find n = some e ∧ (s.cache.entry e).state = .dirty ∧ s.askDescriptorWrite n = { s with
        cache := s.cache.beginWrite e
        retire := { s.retire with step := .descriptorWrite }
        port := { s.port with
          retire := some (State.descriptorBurst { s with cache := s.cache.beginWrite e } (.writeThrough e) e) } }) ∨
      (∃ e, s.cache.find n = some e ∧ ((s.cache.entry e).state.isWriting = true ∨ (s.cache.entry e).state = .evicting) ∧
        s.askDescriptorWrite n = { s with retire := { s.retire with step := .descriptorWait } }) ∨
      ((∀ e, s.cache.find n = some e → (s.cache.entry e).state = .clean ∨ (s.cache.entry e).state = .filling) ∧
        s.askDescriptorWrite n = s.releaseHead) := by
  unfold State.askDescriptorWrite
  cases hf : s.cache.find n with
  | none => simp
  | some e =>
    have hne := (Cache.find_some hf).2
    cases hs : (s.cache.entry e).state <;> simp_all [EntryState.isWriting]

/-- Looking again changes no context, no request of the cache's client and no burst in flight, and the state of an entry
only where that is the head's own and DIRTY (R97). -/
theorem State.askDescriptorWrite_entry (s : State) (n : Channel) (g : EntryIx) :
    (s.askDescriptorWrite n).context g = s.context g ∧
      ((s.cache.entry g).state ≠ .dirty ∨ s.cache.find n ≠ some g →
        (s.askDescriptorWrite n).cache.entry g = s.cache.entry g) ∧
      (s.askDescriptorWrite n).port.cache = s.port.cache ∧ (s.askDescriptorWrite n).cache.due = s.cache.due ∧
      (s.askDescriptorWrite n).port.inFlight = s.port.inFlight := by
  obtain ⟨e, h1, h2, h⟩ | ⟨e, h1, h2, h⟩ | ⟨h1, h⟩ := s.askDescriptorWrite_cases n
  · rw [h]
    simp only [State.context, Cache.entry_beginWrite]
    by_cases hg : g = e
    · subst hg
      simp [h1, h2]
      rfl
    · simp [hg]
      rfl
  · rw [h]
    exact ⟨rfl, fun _ => rfl, rfl, rfl, rfl⟩
  · rw [h]
    obtain ⟨_, k⟩ | ⟨c, r, _, k⟩ := s.releaseHead_cases <;> rw [k] <;> exact ⟨rfl, fun _ => rfl, rfl, rfl, rfl⟩

/-! ### The grant -/

/-- The request of highest priority is granted, once no burst is in flight (R125). -/
theorem State.grant_cases (s : State) :
    s.grant = s ∨ (s.port.inFlight = none ∧
      ((∃ b, s.port.fetch = some b ∧ s.grant = { s with port := { s.port with fetch := none, inFlight := some b } }) ∨
        (∃ b, s.port.fetch = none ∧ s.port.cache = some b ∧
          s.grant = { s with port := { s.port with cache := none, inFlight := some b } }) ∨
        (∃ m, s.port.fetch = none ∧ s.port.cache = none ∧ s.port.store = some m ∧
          s.grant = { s with port := { s.port with store := none, inFlight := s.storeBurst m } }) ∨
        (∃ b, s.port.retire = some b ∧ s.grant = { s with port := { s.port with retire := none, inFlight := some b } }) ∨
        (∃ b, s.port.writer = some b ∧ s.grant = { s with port := { s.port with writer := none, inFlight := some b } }))) := by
  cases hi : s.port.inFlight with
  | some b => exact .inl (by simp [State.grant, hi])
  | none =>
    cases h1 : s.port.fetch <;> cases h2 : s.port.cache <;> cases h3 : s.port.store <;> cases h4 : s.port.retire <;>
      cases h5 : s.port.writer <;> simp [State.grant, *]

/-! ### What bursts leave in memory -/

/-- The end of a write burst keeps memory canonical whenever single writes do, and changes no byte the burst misses is
said in `Laws/Memory.lean`; here are its two forms. -/
theorem State.burstWrites_mem (s : State) (b : Burst) (r : WriteEnd) :
    (s.burstWrites b r).mem = match r with
      | .completion => Memory.writeWords s.mem b.addr b.data
      | .busError => Memory.writeLanded (Config.landedWords s.free) 0 s.mem b.addr b.data := by
  cases r <;> rfl

end Sys2Proof.Machine
end

