-- ==== Sys2Proof/Tests/Slice0.lean ====
section
/-! SUPPORT. Tests. The expected values of the worked examples come from the tables of spec/ named beside them. The
witnesses show, for each statement with hypotheses, states and operands that meet them, clause by clause. -/

namespace Sys2Proof.Tests

open Sys2Proof Sys2Proof.Machine

-- One theorem after another: each decision takes a thread of its own otherwise.
set_option Elab.async false

/-! ### Helpers: small states -/

/-- The state a command answers. -/
def after (c : Instr) (s : State) : State :=
  match exec c s with
  | .next t => t
  | _ => s

/-- The state after commands one after another. -/
def afterAll (cs : List Instr) (s : State) : State := cs.foldl (fun s c => after c s) s

/-- A configured node 5 in the given node state: the table at 0x2000, a ring of 16 entries at 0x4000, and one window
over 0x0010_0000 up to 0x0015_0000 with both rights. -/
def node (x : NodeState) : State := { State.reset with
  host := { HostIf.reset with nodeAddress := 5, tableBase := 0x2000 }
  cmd := { CommandUnit.reset with node := x }
  writer := { Writer.reset with eqBase := 0x4000, eqSize := 4 }
  mover := { Mover.reset with guards := (Vector.replicate 4 GuardWindow.reset).set 0 ⟨0x100000, 0x150000, true, true, true⟩ } }

def running : State := node .running

def withRecord (s : State) (n : Channel) (h : HoldState) (pinned returned : Bool) : State :=
  s.setRecord n fun x => { x with hold := h, pinned := pinned, returned := returned }

def withEntry (s : State) (e : EntryIx) (n : Channel) (x : EntryState) (d : Descriptor) : State :=
  { s with cache := s.cache.modify e fun y => { y with tag := n, state := x, context := d } }

def withWork (s : State) (w : Work) : State := { s with cmd := { s.cmd with work := w, busy := true } }

def withEngine (s : State) (r : Request) : State := { s with engine := some r }

def withFlight (s : State) (b : Burst) : State := { s with port := { s.port with inFlight := some b } }

def withQueue (s : State) (q : List Completion) (step : RetireStep) : State := { s with retire := ⟨q, step⟩ }

def withEvents (s : State) (n : Nat) : State :=
  { s with writer := { s.writer with queue := List.replicate n ⟨.linkError, 0xFF, 1, 0, 0, 0, 0⟩ } }

/-- A COUNTED PUT descriptor of channel 9 of Table 2-4: MAXLEN 128, EV_MILESTONE, CURSOR 0x0010_0000, QUOTA 3. -/
def counted9 : Descriptor := ⟨0x00800201, 0, 0, 0x100000, 0, 3, 0, 0⟩

/-- The COUNTED GET descriptor of channel 12 of Table 2-5: MAXLEN 32, CURSOR 0x0011_0000, QUOTA 2. -/
def counted12 : Descriptor := ⟨0x00200005, 0, 0, 0x110000, 0, 2, 0, 0⟩

/-- The ALTERNATE PUT descriptor of channel 20 of Table 2-6. -/
def alternate20 : Descriptor := ⟨0x00400202, 0x120000, 0x120100, 0, 0, 0, 0, 0⟩

/-- The RING descriptor of channel 30 of Table 2-8. -/
def ring30 : Descriptor := ⟨0x00200203, 0x140000, 0x140040, 0x140000, 0x141000, 0x20000, 0, 0⟩

/-- A case of Table 1-6. -/
def ring16 (maxLen : Byte) (cursor : Addr) (recIdx : Byte) : Descriptor :=
  ⟨0#8 ++ maxLen ++ 3#16, 0x41000, 0x41060, cursor, 0x42000, 0#8 ++ 15#8 ++ 0#8 ++ recIdx, 0, 0⟩

/-- The request record of a message `m`. -/
def request (kind : MsgKind) (n : Channel) (len : Byte) (phase : Phase) (verdict : Verdict) (m : Nat) : Request :=
  ⟨kind, false, n, true, len, phase, verdict, some 0, some ⟨0x100008, len.toNat, 0x100000⟩, true, false, .none, false,
    false, false, m⟩

/-- The line symbols of a frame with its right CRC. -/
def frame (body : List Byte) : List Instr :=
  [.openingFlag] ++ (body ++ crcBytesOf (crcOf body)).map Instr.dataSymbol ++ [.closingFlag]

/-- A burst of two words at `a`. -/
def twoWords (kind : BurstKind) (a : Addr) : Burst := ⟨kind, a, 2, [.full 0x11, .full 0x22]⟩

/-! ### Well-formedness: one ill-formed command for each check -/

theorem test_badCommand_code_10_refused : (Instr.badCommand 10 0).wellFormed = false := by decide
theorem test_badCommand_code_11_allowed : (Instr.badCommand 11 0).wellFormed = true := by decide
theorem test_badSymbol_opening_refused : (Instr.badSymbol 0x5A).wellFormed = false := by decide
theorem test_badSymbol_closing_refused : (Instr.badSymbol 0xA5).wellFormed = false := by decide
theorem test_badSymbol_abort_refused : (Instr.badSymbol 0x00).wellFormed = false := by decide
theorem test_registerWrite_writable_refused : (Instr.registerWrite 0x13 0xF 0).wellFormed = false := by decide
theorem test_registerWrite_ident_allowed : (Instr.registerWrite 0x00 0xF 0).wellFormed = true := by decide

/-! ### Worked examples of the spec -/

/-- The check value of the bytes "123456789" is 0x4B37 for the CRC of R42. -/
theorem test_crc_check_value : crcOf [0x31, 0x32, 0x33, 0x34, 0x35, 0x36, 0x37, 0x38, 0x39] = 0x4B37#16 := by
  decide +kernel

/-- Table 1-6: the four RING descriptors, and case b with RECIDX 16. -/
theorem test_descriptor_validity :
    (ring16 96 0x41000 0).subCode = 0 ∧ (ring16 97 0x41000 0).subCode = 6 ∧ (ring16 96 0x41060 0).subCode = 7 ∧
      (ring16 96 0x41000 16).subCode = 8 ∧ (ring16 97 0x41000 16).subCode = 6 := by decide

/-- One message on a descriptor: its ranges and its advance. -/
def message (d : Descriptor) (kind : MsgKind) (seq : Bool) (len : Byte) (returned : Bool) : Ranges × Advance :=
  (d.newRanges len.toNat, d.commit kind seq len (d.newRanges len.toNat) returned)

/-- Table 2-4: three PUTs on channel 9. -/
theorem test_counted_put :
    let m1 := message counted9 .put true 10 false
    let m2 := message m1.2.context .put false 4 false
    let m3 := message m2.2.context .put true 128 false
    m1.1 = ⟨0x100008, 10, 0x100000⟩ ∧ m1.2.context.cursor = 0x100014 ∧ m1.2.context.quota = 2 ∧
      m2.1 = ⟨0x10001C, 4, 0x100014⟩ ∧ m2.2.context.cursor = 0x100020 ∧ m2.2.milestone = none ∧
      m3.1 = ⟨0x100028, 128, 0x100020⟩ ∧ m3.2.context.cursor = 0x1000A8 ∧ m3.2.context.quota = 0 ∧
      m3.2.milestone = some .quotaZero ∧ m3.2.context.msgCount = 3 ∧ m3.2.context.lastSeq = true := by decide

/-- Table 2-4: the repeat of the third message is a duplicate, the fresh message after it is refused EXHAUSTED. -/
theorem test_counted_put_exhausted :
    let d := { counted9 with w3 := 0x1000A8, w5 := 0, w6 := 0x30001 }
    d.decideRequest false .put true 128 true running.mover.guards = .duplicate ∧
      d.decideRequest false .put false 1 true running.mover.guards = .refuse .exhausted := by decide +kernel

/-- Table 2-5: the first GET of channel 12, the repeat, and a repeat with another length. -/
theorem test_counted_get :
    let d := (message counted12 .get true 6 false).2.context
    d.cursor = 0x110010 ∧ d.quota = 1 ∧ d.prev = 0x110000 ∧ d.prevLen = 6 ∧ d.duplicateData = 0x110008 ∧
      d.decideRequest false .get true 6 true running.mover.guards = .duplicate ∧
      d.decideRequest false .get true 8 true running.mover.guards = .accept ∧ d.dataAddr 8 = 0x110018 := by
  decide +kernel

/-- Table 2-6: OVERWRITE, then SWAP once the host has returned its buffer. -/
theorem test_alternate_put :
    let m1 := message alternate20 .put true 20 false
    let m2 := message m1.2.context .put false 24 true
    m1.1.record = 0x120000 ∧ m1.2.milestone = some .overwrite ∧ m1.2.context.active = false ∧
      m2.1.record = 0x120000 ∧ m2.2.milestone = some .swap ∧ m2.2.context.active = true ∧ m2.2.returned = false ∧
      m2.2.context.recordAddr = 0x120100 := by decide

/-- What a run of PUTs, each with its SEQ and LENGTH, gives: data address, record address, cursor, RECIDX, GEN and
milestone. -/
def putRun : Descriptor → List (Bool × Byte) → List ((Addr × Addr × Addr) × (Byte × Bool × Option Milestone))
  | _, [] => []
  | d, (seq, len) :: rest =>
    let m := message d .put seq len false
    ((m.1.data, m.1.record, m.2.context.cursor), (m.2.context.recIdx, m.2.context.gen, m.2.milestone)) ::
      putRun m.2.context rest

/-- Table 2-8: the six messages of channel 30 and their cursors, record slots and milestones. -/
theorem test_ring_two_wraps :
    putRun ring30 [(true, 20), (false, 30), (true, 12), (false, 8), (true, 32), (false, 28)] =
      [((0x140000, 0x141000, 0x140014), (1, false, none)), ((0x140014, 0x141008, 0x140034), (2, false, none)),
        ((0x140034, 0x141010, 0x140000), (0, true, some .ringWrap)),
        ((0x140000, 0x141000, 0x140008), (1, true, none)), ((0x140008, 0x141008, 0x140028), (2, true, none)),
        ((0x140000, 0x141010, 0x14001C), (0, false, some .ringWrap))] := by
  decide

/-- Section 1.3, example of wrapping: MSG_COUNT 65534 is 1 after three messages. -/
theorem test_msgCount_wraps :
    let d := { counted9 with w6 := 0xFFFE0000 }
    let d1 := (message d .put true 4 false).2.context
    let d2 := (message d1 .put false 4 false).2.context
    d1.msgCount = 65535 ∧ d2.msgCount = 0 ∧ (message d2 .put true 4 false).2.context.msgCount = 1 := by decide

/-- The windows of Table 7-7. -/
def windows (third : GuardWindow) : Vector GuardWindow 4 :=
  (((Vector.replicate 4 GuardWindow.reset).set 0 ⟨0x100000, 0x110000, true, true, false⟩).set 1
    ⟨0x110000, 0x120000, true, true, true⟩).set 2 third

/-- Table 7-7: the four guard tests. -/
theorem test_guard_windows :
    let cursor (w0 : Word) (a : Addr) : Descriptor := ⟨w0, 0, 0, a, 0, 9, 0, 0⟩
    (cursor 0x00800001 0x10FFF8).guardsPass .put 16 (windows .reset) = true ∧
      (cursor 0x00800001 0x10FFF0).guardsPass .put 16 (windows .reset) = false ∧
      (cursor 0x00800005 0x108000).guardsPass .get 8 (windows .reset) = false ∧
      (cursor 0x00800005 0x108000).guardsPass .get 8 (windows ⟨0x100000, 0x120000, true, false, true⟩) = true := by
  decide

/-- Record 1 of a ring whose RECBASE + 8 is 2^32 lies in no window (R138), one below does. -/
theorem test_guard_record_past_top :
    let ring (base : Word) : Descriptor := ⟨0x00200203, 0x110000, 0x110040, 0x110000, base, 0x20001, 0, 0⟩
    let low := windows ⟨0, 0x200000, true, true, true⟩
    (ring 0xFFFFFFF8).guardsPass .put 8 low = false ∧ (ring 0x1000).guardsPass .put 8 low = true := by decide

/-- Table 7-6: the fetch bursts of a 100-byte GET from 0x0011_0038 are 2, 8, 8 and 7 words, the third waiting for room. -/
theorem test_fetch_bursts :
    Staging.burstWords ⟨0, 0x110038, 100, []⟩ = 2 ∧ Staging.burstWords ⟨0, 0x110040, 92, []⟩ = 8 ∧
      Staging.burstWords ⟨0, 0x110060, 60, []⟩ = 8 ∧ Staging.burstWords ⟨0, 0x110080, 28, []⟩ = 7 ∧
      (State.presentFetch { running with
        mover := { running.mover with staging := some ⟨0, 0x110060, 60, List.replicate 40 0⟩ } }).port.fetch = none := by
  decide +kernel

/-- Table 7-6: with 24 bytes held the eight words from 0x0011_0060 find room, with 40 they do not; and they wait for a
request, and a burst in flight, of the fetch client. -/
theorem test_fetch_look :
    let b : Burst := ⟨.fetch 0 32, 0x110060, 8, []⟩
    let t (k : Nat) : Option Staging := some ⟨0, 0x110060, 60, List.replicate k 0⟩
    Port.reset.fetchLook (t 32) = some b ∧ Port.reset.fetchLook (t 33) = none ∧
      Port.reset.fetchLook (some ⟨0, 0x110080, 26, []⟩) = some ⟨.fetch 0 26, 0x110080, 7, []⟩ ∧
      Port.reset.fetchLook (some ⟨0, 0x110080, 0, []⟩) = none ∧
      ({ Port.reset with fetch := some b }).fetchLook (t 0) = some b ∧
      ({ Port.reset with inFlight := some b }).fetchLook (t 0) = none := by decide

/-- Table 7-5, its first row: message 0 is presented with its fourth byte, not with its third, and waits while a burst of
the store client flies; the last byte of a message is presented whatever its number; a WAITING segment is passed over. -/
theorem test_store_look :
    let x (state : SegmentState) (held : List Byte) (due : Nat) : Segment := ⟨0, state, 0x100008, held, due, false, false⟩
    let y : Segment := { x .storing [9] 0 with msg := 1 }
    Port.reset.storeLook [x .storing [1, 2, 3] 125] = none ∧ Port.reset.storeLook [x .storing [1, 2, 3, 4] 124] = some 0 ∧
      Port.reset.storeLook [x .storing [1, 2, 3] 125, y] = none ∧ Port.reset.storeLook [x .waiting [1, 2, 3, 4] 124, y] = some 1 ∧
      Port.reset.storeLook [x .storing [] 124, y] = some 1 ∧
      ({ Port.reset with inFlight := some (twoWords (.store 0 8) 0x100008) }).storeLook [y] = none ∧
      ({ Port.reset with store := some 0 }).storeLook [y] = some 0 := by decide

/-- Table 8-6: P 12, consumer 0, and the ring is full at P 15; at consumer 4 the count is 11. -/
theorem test_ring_count :
    ({ running.writer with producer := 12 }).count = 12 ∧ ({ running.writer with producer := 15 }).full = true ∧
      ({ running.writer with producer := 15, consumer := 4 }).count = 11 ∧
      ({ running.writer with producer := 0, consumer := 4 }).count = 12 ∧
      ({ running.writer with producer := 15 }).nextProducer = 0 := by decide

/-- Table 8-6, its eighth and ninth rows: at the consumer write a GAP that carries 2 is presented at slot 15 with SERIAL
103, and after it is written E4 is presented at slot 0 with SERIAL 104. -/
theorem test_gap_after_full_ring :
    let s := { withEvents running 8 with
      writer := { (withEvents running 8).writer with producer := 15, dropped := 2, serial := 103, fullPeriod := true } }
    let t := after (.eqConsumerWrite 4) s
    let u := afterAll [.burstGrant, .eventEntryWriteEnd .completion] t
    t.port.writer = some ⟨.event, 0x40F0, 4, [⟨0x0000FF08, 0xF⟩, ⟨0x00020067, 0xF⟩, ⟨0, 0xF⟩, ⟨0, 0xF⟩]⟩ ∧
      u.writer.producer = 0 ∧ u.writer.dropped = 0 ∧ u.writer.queue.length = 8 ∧ u.host.intPending = 1 ∧
      u.port.writer = some ⟨.event, 0x4000, 4, [⟨0x0001FF06, 0xF⟩, ⟨0x00000068, 0xF⟩, ⟨0, 0xF⟩, ⟨0, 0xF⟩]⟩ := by
  decide +kernel

/-- Section 9.5, START checks: EQ_SIZE 8 asks EQ_BASE to be aligned to 0x1000; EQ_SIZE 13 is refused. -/
theorem test_start_checks :
    let s (base : Addr) (size : BitVec 4) : State := { node .halted with
      host := { (node .halted).host with tableBase := 0x200000 }
      writer := { (node .halted).writer with eqBase := base, eqSize := size } }
    (after (.start 0) (s 0x301000 8)).cmd.result = .done ∧
      (after (.start 0) (s 0x301800 8)).cmd.result = .refusedBadConfig ∧
      (after (.start 0) (s 0x301000 13)).cmd.result = .refusedBadConfig := by decide +kernel

/-- Section 11.6, reading a faulted channel: 0x0000_1023, and after HOLD 22 the same read gives 0x0000_1002. -/
theorem test_channel_status_word :
    let s := running.setRecord 22 fun _ => ⟨.faulted, .castoutFault, 0, true, false, false⟩
    let t := after (.channelSelectWrite 22) s
    t.readRegister 0x74 = 0x1023 ∧ (after (.hold 22) t).readRegister 0x74 = 0x1002 := by decide +kernel

/-- A PUT to resident channel 9, symbol by symbol (Table 2-4, first row): admitted to CURSOR + 8, closed good, its reply
started, and its stores and record written: ten data bytes from 0x0010_0008, and LENGTH 10 in the record. -/
theorem test_put_exchange :
    let s := withEntry running 0 9 .clean counted9
    let t := afterAll (frame ([0x81, 5, 9, 10] ++ [1, 2, 3, 4, 5, 6, 7, 8, 9, 10])) s
    let u := afterAll [.earliestStart, .replyReady, .replyStart] t
    let v := afterAll [.burstGrant, .storeBurstEnd .completion, .burstGrant, .storeBurstEnd .completion, .retireRecordStep,
      .burstGrant, .recordWordEnd .completion, .burstGrant, .recordWordEnd .completion] u
    t.mover.segments = [⟨0, .storing, 0x100008, [1, 2, 3, 4, 5, 6, 7, 8, 9, 10], 0, false, true⟩] ∧
      u.link.lineOut = [.control 0x5A, .data 0x81, .data 5, .data 9, .data 0] ∧ u.engine = none ∧
      (u.context 0).cursor = 0x100014 ∧ (u.record 9).seqValid = true ∧ v.retire.queue = [] ∧
      Memory.readBytes v.mem 0x100008 10 = [1, 2, 3, 4, 5, 6, 7, 8, 9, 10] ∧ Memory.readWord v.mem 0x100000 = 0xA4 := by
  decide +kernel

/-- A GET of 6 bytes on channel 12 (Table 2-5, first row): the bytes sent come from 0x0011_0008. -/
theorem test_get_exchange :
    let s := { withEntry running 0 12 .clean counted12 with mem := Memory.hostWrites [] [(0x110008, 7), (0x11000D, 9)] }
    let t := afterAll (frame [0x82, 5, 12, 6]) s
    let u := afterAll [.burstGrant, .fetchBurstEnd (.completion []), .replyReady, .earliestStart, .replyStart,
      .transmitByteDue, .transmitByteDue, .transmitByteDue, .transmitByteDue, .transmitByteDue, .transmitByteDue] t
    let v := after .replyEnd u
    (u.link.lineOut.drop 5) = [.data 7, .data 0, .data 0, .data 0, .data 0, .data 9] ∧ v.link.rx = .recovery ∧
      (v.context 0).cursor = 0x110010 ∧ (v.context 0).prevLen = 6 ∧ (v.retire.queue.map fun c => c.filled) = [true] := by
  decide +kernel

/-- A linefill of channel 9 reads the descriptor's 32 bytes from TABLE_BASE + 32 · 9 (R1, R92). -/
theorem test_linefill :
    let s := { running with mem := Memory.writeWords [] 0x2120 (counted9.toWords.map WriteWord.full) }
    let t := afterAll [.pin 9, .fillTakesEntry, .burstGrant] s
    (t.port.inFlight.map fun b => (b.addr, b.words)) = some (0x2120, 8) ∧
      (after (.linefillEnd (.completion [])) t).context 0 = counted9 ∧
      ((after (.linefillEnd .busError) t).record 9).hold = .faulted := by decide +kernel

/-- A DIRTY victim is cast out before its entry is filled under the new tag (R91). -/
theorem test_dirty_victim :
    let s := entryOrder.foldl (fun s e => withEntry s e (Fin.ofNat 64 (e.val + 20)) .dirty counted9) running
    let t := afterAll [.pin 40, .fillTakesEntry, .burstGrant] s
    let u := after (.evictionCastoutEnd .completion) t
    (t.cache.entry 0).state = .evicting ∧ (t.port.inFlight.map fun b => b.addr) = some 0x2280 ∧
      (u.cache.entry 0).state = .filling ∧ (u.cache.entry 0).tag = 40 ∧ Memory.readWord u.mem 0x228C = 0x100000 := by
  decide +kernel

/-- FLUSH of one DIRTY entry ends DONE once its castout has ended (R102). -/
theorem test_flush_one_entry :
    let s := withEntry running 3 9 .dirty counted9
    let t := afterAll [.flush 0, .flushMember, .burstGrant, .writeEnd .completion, .flushMember] s
    t.cmd.result = .done ∧ t.cmd.busy = false ∧ (t.cache.entry 3).state = .clean ∧
      Memory.readWord t.mem 0x2120 = 0x00800201 := by decide +kernel

/-- PURGE leaves no unpinned entry (R103). -/
theorem test_purge :
    let s := withRecord (withEntry (withEntry running 3 9 .clean counted9) 4 20 .clean alternate20) 20 .free true false
    let t := afterAll [.purge 0, .purgeMember] s
    t.cmd.result = .done ∧ (t.cache.entry 3).state = .invalid ∧ (t.cache.entry 4).state = .clean := by decide +kernel

/-- STOP from an idle RUNNING node reaches HALTED through its steps (R168, R169). -/
theorem test_orderly_stop :
    let s := withEntry running 3 9 .clean counted9
    let t := afterAll [.stop 0, .stopDrainCompletions, .stopCacheStep, .stopEventStep, .stopEnd] s
    t.cmd.node = .halted ∧ t.cmd.result = .done ∧ (t.cache.entry 3).state = .invalid ∧ t.host.intPending = 4 := by
  decide +kernel

/-! ### Witnesses: states and operands that meet the hypotheses of the statements, clause by clause -/

/-- A completion entry of message 0 on channel 9. -/
def completion (pending write : Bool) : Completion :=
  ⟨0, 9, 0x100000, ⟨false, true, false, 10, 0, 0, 0⟩, false, pending, write, true, false, [], true⟩

/-- The receiver with a frame open after the bytes `header`. -/
def withFrame (s : State) (header : List Byte) (cls : Option FrameClass) : State :=
  s.setRx (.receiving ⟨header, header.length, cls, 0xFFFF, [], [], none⟩)

theorem witness_StepRunsFrontCommand :
    (running.withPending [.pin 3, .stop 0]).pending = .pin 3 :: [.stop 0] ∧ State.reset.pending = [] := ⟨rfl, rfl⟩

/-- With a write burst at 0x100 in flight: the addresses just below and just past its eight bytes are missed, its first
and its last are not. -/
theorem witness_ResetHoldsInitialState :
    (withFlight running (twoWords .event 0x100)).resetAsserted = false ∧ (twoWords .event 0x100).Misses 0xFF ∧
      (twoWords .event 0x100).Misses 0x108 ∧ ¬ (twoWords .event 0x100).Misses 0x100 ∧
      ¬ (twoWords .event 0x100).Misses 0x107 ∧ Instr.start 0 ≠ .resetRelease := by
  refine ⟨rfl, ?_, ?_, ?_, ?_, by decide⟩ <;> (unfold Burst.Misses; decide)

theorem witness_SoftResetIsAssertThenRelease :
    running.resetAsserted = false ∧ (2#32).getLsbD 0 = false ∧ (1#32).getLsbD 0 = true := by decide +kernel

theorem witness_IdentAndNodeStateRead :
    running.resetAsserted = false ∧ (after .resetAssert running).resetAsserted = true ∧ (3#32).getLsbD 0 = true := by
  decide +kernel

theorem witness_PlainRegisterWrites : running.resetAsserted = false ∧ (node .halted).resetAsserted = false := ⟨rfl, rfl⟩

theorem witness_ConfigWriteReadsBack :
    (node .halted).cmd.node = .halted ∧ (0x63#8).toNat / 4 * 4 = ConfigReg.guardRights.offset ∧
      (0x64#8).toNat / 4 * 4 ≠ ConfigReg.guardRights.offset ∧ (node .stopping).cmd.node ≠ .halted := by decide +kernel

theorem witness_RingAndEnableWrites :
    (node .halted).cmd.node = .halted ∧ running.cmd.node ≠ .halted ∧ running.writer.queue = [] := by decide +kernel

/-- An access that enables bytes 0 and 2, at offsets of no register, of GUARD3_LIMIT and of COMMAND. -/
theorem witness_RegisterWriteByOffset :
    (∀ k < 4, (deliveredWord 0x5 0x89ABCDEF).extractLsb' (8 * k) 8 =
      if (0x5#4).getLsbD k then (0x89ABCDEF#32).extractLsb' (8 * k) 8 else 0#8) ∧
      writableOffset ((0x84#8).toNat / 4 * 4) = false ∧ writableOffset ((0x0F#8).toNat / 4 * 4) = false ∧
      (0x5F#8).toNat / 4 * 4 = (ConfigReg.guardLimit 3).offset ∧ (0x0B#8).toNat / 4 * 4 = 0x08 := by decide +kernel

theorem witness_CommandChecksRefuse :
    (withWork running (.hold 9)).cmd.busy = true ∧ running.cmd.busy = false ∧ (0#8).toNat = 0 ∧ 10 < (11#8).toNat ∧
      63 < (64#8).toNat ∧ (63#8).toNat ≤ 63 ∧ running.cmd.node ≠ .halted ∧ (node .halted).cmd.node ≠ .running ∧
      (node .stopping).cmd.node = .stopping ∧ (node .stopping).cmd.busy = false := by decide +kernel

/-- START: each bad value just outside its range, a good configuration at EQ_SIZE 4 and 12; STOP; and RESUME_EVENTS
with the writer halted and ACTIVE. -/
theorem witness_StartStopAndResume :
    (node .halted).cmd.node = .halted ∧ (node .halted).cmd.busy = false ∧ (63#6 : BitVec 6) = 63 ∧
      (0x2400#32).toNat % 2048 ≠ 0 ∧ (3#4).toNat < 4 ∧ 12 < (13#4).toNat ∧ (0x4080#32).toNat % (16 * 2 ^ (4#4).toNat) ≠ 0 ∧
      (node .halted).host.nodeAddress ≠ 63 ∧ (node .halted).host.tableBase.toNat % 2048 = 0 ∧
      4 ≤ (node .halted).writer.eqSize.toNat ∧ (node .halted).writer.eqSize.toNat ≤ 12 ∧
      (node .halted).writer.eqBase.toNat % (16 * 2 ^ (node .halted).writer.eqSize.toNat) = 0 ∧
      (0x10000#32).toNat % (16 * 2 ^ (12#4).toNat) = 0 ∧ running.cmd.node = .running ∧ running.cmd.node ≠ .stopping ∧
      ({ running.writer with active := false }).queue = [] ∧ running.writer.active = true := by decide +kernel

theorem witness_StartStopAndResume_empty_cache : (node .halted).cache.Empty := by
  unfold Cache.Empty
  decide +kernel

theorem witness_HoldActsByHoldState :
    running.cmd.busy = false ∧ running.cmd.node ≠ .stopping ∧ (running.record 63).hold = .free ∧
      ((node .halted).record 63).hold = .free ∧ ((withRecord running 63 .faulted false false).record 63).hold = .faulted ∧
      ((withRecord running 0 .held false false).record 0).hold = .held := by decide +kernel

theorem witness_ReleaseAndReturn :
    ((withRecord running 63 .held true false).record 63).hold = .held ∧
      ((withRecord running 63 .held true false).record 63).pinned = true ∧
      ((withRecord running 0 .faulted false false).record 0).pinned = false ∧ running.cache.fillPending 63 = false ∧
      (running.record 0).hold = .free ∧ (running.record 0).returned = false ∧
      ((withRecord running 0 .free false true).record 0).returned = true := by decide +kernel

theorem witness_ReleaseAndReturn_absent : running.cache.Absent 63 := by
  unfold Cache.Absent
  decide +kernel

/-- Seven channels pinned, one place left; eight, and none left. -/
def pinned (k : Nat) : State := (List.range k).foldl (fun s i => withRecord s (Fin.ofNat 64 i) .free true false) running

theorem witness_PinAndUnpin :
    ((withRecord running 9 .faulted false false).record 9).hold = .faulted ∧ ((pinned 1).record 0).pinned = true ∧
      8 ≤ (pinned 8).pinnedCount ∧ (pinned 7).pinnedCount < 8 ∧ ((pinned 7).record 63).pinned = false ∧
      ((pinned 7).record 63).hold ≠ .faulted ∧ (pinned 7).cache.fillPending 63 = false ∧
      (∀ e : EntryIx, ((pinned 7).cache.entry e).tag = 63 → ((pinned 7).cache.entry e).state = .invalid ∨
        ((pinned 7).cache.entry e).state = .evicting) ∧
      (withEntry (pinned 7) 15 63 .clean counted9).cache.find 63 = some 15 := by decide +kernel

theorem witness_FlushAndPurgeTakeSets :
    (node .halted).cmd.busy = false ∧ (node .halted).cmd.node = .halted ∧ running.cmd.busy = false ∧
      running.cmd.node = .running := by decide +kernel

theorem witness_FramesOpenAndBreak :
    (node .halted).cmd.node = .halted ∧ running.cmd.node ≠ .halted ∧ running.link.rx = .idle ∧
      (withFrame running [] none).link.rx = .receiving ⟨[], 0, none, 0xFFFF, [], [], none⟩ ∧
      (running.setRx .recovery).link.rx = .recovery ∧
      (running.setRx (.replying ⟨false, 0, 0, false⟩)).link.rx = .replying ⟨false, 0, 0, false⟩ ∧
      (running.setRx (.replyWait ⟨.status, false, 0⟩ .closed)).link.rx = .replyWait ⟨.status, false, 0⟩ .closed ∧
      (withFrame running [1, 5] (some .addressed)).link.rx =
        .receiving ⟨[1, 5], 2, some .addressed, 0xFFFF, [], [], none⟩ ∧ (1#8 ≠ 0x5A ∧ 1#8 ≠ 0xA5 ∧ 1#8 ≠ 0x00) := by
  decide +kernel

/-- A frame whose message is in progress. -/
theorem witness_FramesOpenAndBreak_request :
    let s := withEngine running (request .put 9 4 .admitted .acceptNew 7)
    s.engine = some (request .put 9 4 .admitted .acceptNew 7) ∧
      (⟨[1, 5, 9, 4], 4, some .addressed, 0xFFFF, [], [], some 7⟩ : Frame).msg =
        some (request .put 9 4 .admitted .acceptNew 7).msg := ⟨rfl, rfl⟩

/-- A frame that plainly concerned a PUT of resident channel 9, whose descriptor has EV_ERROR set, and one whose header
is not complete. -/
theorem witness_FramesOpenAndBreak_report :
    let s := withEntry running 15 9 .dirty { counted9 with w0 := 0x00800601 }
    s.FrameConcerns ⟨[0x81, 5, 9, 4], 4, some .addressed, 0xFFFF, [], [], none⟩ 15 9 4 ∧
      ∀ e channel length, ¬ s.FrameConcerns ⟨[0x81, 5, 9], 3, some .addressed, 0xFFFF, [], [], none⟩ e channel length := by
  refine ⟨⟨rfl, ⟨0x81, 5, rfl, .inl rfl⟩, by decide, by decide +kernel, by decide +kernel, by decide +kernel⟩, ?_⟩
  rintro e channel length ⟨-, ⟨b0, b1, h, -⟩, -⟩
  cases h

/-- The receiver with no frame open, in each of its states, and a payload next to the opening flag's. -/
theorem witness_FramesOpenAndBreak_ignored :
    ∀ rx ∈ [Receiver.idle, .replyWait ⟨.status, false, 0⟩ .closed, .replying ⟨false, 0, 0, false⟩, .recovery],
      (running.setRx rx).cmd.node ≠ .halted ∧ (∀ f, (running.setRx rx).link.rx ≠ .receiving f) ∧ 0x5B#8 ≠ 0x5A := by
  simp only [List.mem_cons, List.not_mem_nil, or_false]
  rintro rx (rfl | rfl | rfl | rfl) <;> exact ⟨nofun, nofun, by decide⟩

theorem witness_HeaderByteTaken :
    running.cmd.node ≠ .halted ∧ running.link.rx = .idle ∧ Frame.opened.count < 3 ∧ Frame.opened.cls ≠ some .foreign ∧
      (⟨[1, 5], 2, some .addressed, 0xFFFF, [], [], none⟩ : Frame).count < 3 ∧
      (⟨[1, 6], 2, some .foreign, 0xFFFF, [], [], none⟩ : Frame).cls = some .foreign := by decide +kernel

/-- A frame at its fourth byte; and each row of Table 3-6 at the edge of its range. -/
theorem witness_HeaderCheck :
    (withFrame running [0x81, 5, 63] (some .addressed)).AtFourthByte
      ⟨[0x81, 5, 63], 3, some .addressed, 0xFFFF, [], [], none⟩ 0x81 5 63 ∧
      (0x81#8 &&& 0x7F).toNat = 1 ∧ (0x80#8 &&& 0x7F).toNat = 0 ∧ 5 < (0x06#8 &&& 0x7F).toNat ∧ 63 < (64#8).toNat ∧
      ¬ 63 < (63#8).toNat ∧ 3#8 ≠ 2 ∧ 1#8 ≠ 0 := by
  refine ⟨?_, ?_⟩
  · unfold State.AtFourthByte
    decide +kernel
  · decide +kernel

theorem witness_HeaderReadsHoldState :
    (withFrame running [0x81, 5, 63] (some .addressed)).HeaderReaches
      ⟨[0x81, 5, 63], 3, some .addressed, 0xFFFF, [], [], none⟩ 0x81 5 63 .put ∧
      (withFrame running [0x02, 5, 0] (some .addressed)).HeaderReaches
        ⟨[0x02, 5, 0], 3, some .addressed, 0xFFFF, [], [], none⟩ 0x02 5 0 .get ∧
      (63 : Channel).val = (63#8).toNat ∧ ((withRecord running 63 .held false false).record 63).hold ≠ .free ∧
      (running.record 63).hold = .free ∧ running.cache.fillPending 63 = false := by
  unfold State.HeaderReaches State.AtFourthByte
  decide +kernel

/-- A FREE channel 63 that misses: FILLING, EVICTING with and without a pending fill, and absent with one. -/
theorem witness_HeaderReadsHoldState_miss :
    let s (x : EntryState) (fills : List Channel) : State :=
      let s := withFrame (withEntry running 15 63 x counted9) [0x81, 5, 63] (some .addressed)
      { s with cache := { s.cache with fills := fills } }
    (∀ x ∈ [EntryState.filling, .evicting, .invalid], (s x [63]).HeaderReaches
      ⟨[0x81, 5, 63], 3, some .addressed, 0xFFFF, [], [], none⟩ 0x81 5 63 .put ∧ ((s x [63]).record 63).hold = .free) ∧
      (s .filling []).cache.find 63 = some 15 ∧ ((s .filling []).cache.entry 15).state = .filling ∧
      (s .evicting []).cache.find 63 = some 15 ∧ ((s .evicting []).cache.entry 15).state = .evicting ∧
      (s .evicting []).cache.fillPending 63 = false ∧ (s .evicting [63]).cache.fillPending 63 = true ∧
      (s .invalid [63]).cache.Absent 63 ∧ (s .invalid [63]).cache.fillPending 63 = true := by
  unfold State.HeaderReaches State.AtFourthByte Cache.Absent
  decide +kernel

theorem witness_HeaderHitDecides :
    let s := withFrame (withEntry running 15 63 .writingDirty counted9) [0x81, 5, 63] (some .addressed)
    s.HeaderReaches ⟨[0x81, 5, 63], 3, some .addressed, 0xFFFF, [], [], none⟩ 0x81 5 63 .put ∧
      (s.record 63).hold = .free ∧ s.cache.find 63 = some 15 ∧ (s.cache.entry 15).state.answers = true := by
  unfold State.HeaderReaches State.AtFourthByte
  decide +kernel

/-- An accepted GET of an ALTERNATE channel whose returned flag is set: it swaps. -/
theorem witness_HeaderHitDecides_swap :
    let d : Descriptor := { alternate20 with w0 := 0x00400206, w1 := 0x100000, w2 := 0x100100 }
    let s := withRecord (withFrame (withEntry running 15 63 .clean d) [0x82, 5, 63] (some .addressed)) 63 .free false true
    s.HeaderReaches ⟨[0x82, 5, 63], 3, some .addressed, 0xFFFF, [], [], none⟩ 0x82 5 63 .get ∧
      s.cache.find 63 = some 15 ∧ (s.cache.entry 15).state.answers = true ∧ d.mode = .alternate ∧
      (s.record 63).returned = true ∧
      (s.context 15).decideRequest false .get true 64 (s.record 63).seqValid s.mover.guards = .accept := by
  unfold State.HeaderReaches State.AtFourthByte
  decide +kernel

/-- A GET sent again, and a PUT of the last SEQ: duplicates. -/
theorem witness_HeaderHitDecides_duplicate :
    let d : Descriptor := { counted12 with w4 := 0x110000, w6 := 0x00000801 }
    let s := withFrame (withEntry { running with status := (Vector.replicate 64 { ChannelRecord.reset with seqValid := true }),
                                                 mover := { running.mover with guards := windows .reset } } 15 12 .clean d)
      [0x82, 5, 12] (some .addressed)
    s.HeaderReaches ⟨[0x82, 5, 12], 3, some .addressed, 0xFFFF, [], [], none⟩ 0x82 5 12 .get ∧
      s.cache.find 12 = some 15 ∧ (s.cache.entry 15).state.answers = true ∧
      (s.context 15).decideRequest false .get true (s.context 15).prevLen true s.mover.guards = .duplicate := by
  unfold State.HeaderReaches State.AtFourthByte
  decide +kernel

/-- Each step of admission at an operand that meets it: OFF, direction, length 0 and 129, a duplicate, quota 0. -/
theorem witness_AdmissionOrder :
    ({ counted9 with w0 := 0 }).mode = .off ∧ counted9.mode ≠ .off ∧ counted9.dir ≠ .get ∧ counted9.dir = .put ∧
      counted9.maxLen.toNat < (129#8).toNat ∧ (128#8).toNat ≤ counted9.maxLen.toNat ∧ (128#8 : Byte) ≠ 0 ∧
      false = counted9.lastSeq ∧ true ≠ counted9.lastSeq ∧ counted9.mode = .counted ∧
      ({ counted9 with w5 := 0 }).quota = 0 ∧ counted9.quota ≠ 0 ∧ counted12.dir = .get ∧
      alternate20.mode = .alternate ∧ ring30.mode = .ring ∧
      ({ counted9 with w0 := 0x00800221 }).bcast = true := by decide +kernel

/-- A PUT's body byte with 255 bytes held, the last that is staged, and with 256, the first that overflows. -/
theorem witness_BodyByteStagedOrOverflows :
    let x (k : Nat) : Segment := ⟨7, .storing, 0x100008, List.replicate k 0, 4, false, false⟩
    let s (k : Nat) : State := withEngine { running with
      mover := { running.mover with segments := [x k] }
      link := { running.link with rx := .receiving ⟨[0x81, 5, 9, 8], 4, some .addressed, 0xFFFF, [], [], some 7⟩ } }
      { request .put 9 8 .admitted .acceptNew 7 with closed := false }
    (s 255).mover.occupancy < 256 ∧ 256 ≤ (s 256).mover.occupancy ∧ (s 256).mover.segment 7 = some (x 256) ∧
      (x 256).state ≠ .discarding ∧ (x 256).frameEnded = false ∧ 0x81#8 &&& 0x7F = 1 ∧ 4 < 4 + (8#8).toNat ∧
      (s 256).link.rx = .receiving ⟨[0x81, 5, 9, 8], 4, some .addressed, 0xFFFF, [], [], some 7⟩ ∧
      (s 256).engine = some { request .put 9 8 .admitted .acceptNew 7 with closed := false } := by decide +kernel

/-- A body byte of a SYNC, of a PUT taken in STOPPING, and of a PUT whose segment is DISCARDING. -/
theorem witness_BodyByteStagedOrOverflows_dropped :
    let f (b0 : Byte) (m : Option Nat) : Frame := ⟨[b0, 63, 9, 2], 5, some .broadcast, 0xFFFF, [], [], m⟩
    let x : Segment := ⟨7, .discarding, 0, [], 1, false, false⟩
    let s : State := { running with mover := { running.mover with segments := [x] } }
    headerOf (f 0x03 none).header = some ⟨.sync, false, 9, 2⟩ ∧ headerOf (f 0x01 none).header = some ⟨.put, false, 9, 2⟩ ∧
      5 < 4 + FrameKind.sync.bodyLength 2 ∧ 5 < 4 + FrameKind.put.bodyLength 2 ∧ (f 0x01 (some 7)).msg = some 7 ∧
      s.mover.segment 7 = some x ∧ x.state = .discarding := by decide +kernel

/-- A frame with three header bytes at its closing flag, and one with all its symbols before a further data symbol. -/
theorem witness_ClosingFlagServed_early :
    ([0x81, 5, 9] : List Byte).length < 4 ∧ headerOf [0x05, 5, 0, 0] = some ⟨.nodeReset, false, 0, 0⟩ ∧
      4 + FrameKind.nodeReset.bodyLength 0 + 2 ≤ 6 ∧ running.cmd.node ≠ .halted := by decide +kernel

/-- The closing flag: one byte short, a wrong CRC byte, and a good close. -/
theorem witness_ClosingFlagServed :
    let h : RequestHeader := ⟨.nodeReset, false, 0, 0⟩
    let good : Frame := ⟨[5, 5, 0, 0], 6, some .addressed, 0x1234, [], [0x34, 0x12], none⟩
    headerOf good.header = some h ∧ good.count = 4 + h.kind.bodyLength h.length + 2 ∧
      ({ good with count := 5 }).count ≠ 4 + h.kind.bodyLength h.length + 2 ∧
      good.crcBytes = [good.crc.extractLsb' 0 8, good.crc.extractLsb' 8 8] ∧
      ({ good with crcBytes := [0x35, 0x12] }).crcBytes ≠ [good.crc.extractLsb' 0 8, good.crc.extractLsb' 8 8] ∧
      headerOf [0x81, 5, 9, 4] = some ⟨.put, true, 9, 4⟩ ∧ running.cmd.node ≠ .halted := by decide +kernel

/-- A broadcast in progress, and ones that were dropped and ignored, in the frame that closes. -/
theorem witness_ClosingFlagServed_broadcast :
    let r (p : Phase) (v : Verdict) : Request := { request .put 9 4 p v 7 with broadcast := true, closed := false }
    let f : Frame := ⟨[0x01, 63, 9, 4], 10, some .broadcast, 0x1234, [], [0x34, 0x12], some 7⟩
    headerOf f.header = some ⟨.put, false, 9, 4⟩ ∧ f.count = 4 + FrameKind.put.bodyLength 4 + 2 ∧
      f.crcBytes = [f.crc.extractLsb' 0 8, f.crc.extractLsb' 8 8] ∧ f.msg = some (r .admitted .acceptNew).msg ∧
      (r .admitted .acceptNew).phase ≠ .awaitReady ∧ (r .awaitReady (.dropped true)).phase = .awaitReady ∧
      (r .awaitReady (.dropped true)).entry = some 0 ∧ (r .awaitReady .ignored).verdict ≠ .dropped true ∧
      (withEngine running (r .awaitReady .ignored)).engine = some (r .awaitReady .ignored) := by decide +kernel

theorem witness_SyncFrameLoadsCycle :
    running.resetAsserted = false ∧ running.cmd.node ≠ .halted ∧ running.link.rx = .idle ∧
      running.host.nodeAddress ≠ 63 := by decide +kernel

theorem witness_ProbeIsAnswered :
    (node .stopping).resetAsserted = false ∧ (node .stopping).cmd.node ≠ .halted ∧ (node .stopping).link.rx = .idle ∧
      (node .stopping).host.nodeAddress ≠ 63 := by decide +kernel

theorem witness_TimersPass :
    (running.setRx (.replyWait ⟨.status, false, 0⟩ .closed)).link.rx = .replyWait ⟨.status, false, 0⟩ .closed ∧
      (∀ o, running.link.rx ≠ .replyWait o .closed) ∧ (running.setRx .recovery).link.rx = .recovery ∧
      running.link.rx ≠ .recovery ∧ (node .halted).cmd.node = .halted ∧ running.cmd.node ≠ .halted :=
  ⟨rfl, fun _ => nofun, rfl, nofun, rfl, nofun⟩

/-- A request in each row of Table 4-5, the GETs with 32 bytes staged, and one that lacks a condition. -/
theorem witness_ReadinessDeclared :
    let s (r : Request) (staged : Nat) (q : Nat) : State := withQueue (withEngine { running with
      mover := { running.mover with staging := some ⟨7, 0, 0, List.replicate staged 0⟩ } } r)
      (List.replicate q (completion false false)) .stores
    let put := request .put 9 64 .admitted .acceptNew 7
    let get := request .get 12 64 .admitted .acceptNew 7
    (s put 0 3).engine = some put ∧ put.broadcast = false ∧ put.closed = true ∧ put.phase ≠ .replying ∧
      (s put 0 3).retire.queue.length < 4 ∧ ¬ (s put 0 4).retire.queue.length < 4 ∧ put.overflow = false ∧
      put.fault = .none ∧ min get.length.toNat 32 ≤ (s get 32 0).mover.stagedFor get.msg ∧
      ¬ min get.length.toNat 32 ≤ (s get 31 0).mover.stagedFor get.msg ∧ get.verdict = .acceptNew := by decide +kernel

/-- A reply of message 7 that may start. -/
def mayStart (r : Request) : State :=
  (withEngine (withEntry running 0 r.channel .clean counted9) r).setRx (.replyWait ⟨.engine, true, 9⟩ .earliest)

theorem mayStart_replyMayStart (r : Request) (h : r.ready = true) (h' : r.phase ≠ .replying) :
    (mayStart r).ReplyMayStart ⟨.engine, true, 9⟩ r := ⟨rfl, rfl, rfl, rfl, h, h'⟩

/-- A ready request. -/
def ready (kind : MsgKind) (v : Verdict) : Request :=
  { request kind 9 10 .admitted v 7 with ready := true, ranges := some ⟨0x100008, 10, 0x100000⟩ }

theorem witness_PutCommits :
    (mayStart (ready .put .acceptNew)).ReplyMayStart ⟨.engine, true, 9⟩ (ready .put .acceptNew) ∧
      (ready .put .acceptNew).entry = some 0 ∧ (ready .put .acceptNew).ranges = some ⟨0x100008, 10, 0x100000⟩ ∧
      (ready .put .acceptNew).fault ≠ .storeFault :=
  ⟨mayStart_replyMayStart _ rfl nofun, rfl, rfl, nofun⟩

theorem witness_RefusalsCountAndReport (v : Verdict) :
    (mayStart (ready .put v)).ReplyMayStart ⟨.engine, true, 9⟩ (ready .put v) ∧ (ready .put v).entry = some 0 ∧
      (ready .put v).verdict = v ∧ (ready .put v).kind = .put :=
  ⟨mayStart_replyMayStart _ rfl nofun, rfl, rfl, rfl⟩

/-- A request that the hold state answered has no entry. -/
theorem witness_RefusalsCountAndReport_hold (v : Verdict) :
    let r := { ready .put v with entry := none, byHold := true }
    (mayStart r).ReplyMayStart ⟨.engine, true, 9⟩ r ∧ r.entry = none ∧ r.verdict = v :=
  ⟨mayStart_replyMayStart _ rfl nofun, rfl, rfl⟩

/-- A GET whose fetch has faulted, and one whose context is lost, with a data byte due. -/
theorem witness_GetReplySendsBytes_abort :
    let r := { ready .get .acceptNew with phase := .replying, fault := .fetchFault }
    let l := { ready .get .acceptNew with phase := .replying, entry := none, lost := true }
    let s (r : Request) := (withEngine running r).setRx (.replying ⟨true, 1, 5, false⟩)
    (s r).link.rx = .replying ⟨true, 0 + 1, 5, false⟩ ∧ (s r).engine = some r ∧ r.lost = false ∧ r.fault = .fetchFault ∧
      r.entry = some 0 ∧ r.kind = .get ∧ (s l).engine = some l ∧ l.lost = true := ⟨rfl, rfl, rfl, rfl, rfl, rfl, rfl, rfl⟩

/-- No reply on the line, one without data, one aborted, and one with its data gone out. -/
theorem witness_GetReplySendsBytes_nothing_due :
    ∀ rx ∈ [Receiver.idle, .replying ⟨false, 0, 0, false⟩, .replying ⟨true, 1, 5, true⟩, .replying ⟨true, 0, 10, false⟩],
      ∀ tx, (running.setRx rx).link.rx = .replying tx → tx.data = false ∨ tx.aborted = true ∨ tx.left = 0 := by
  simp only [List.mem_cons, List.not_mem_nil, or_false]
  rintro rx (rfl | rfl | rfl | rfl) tx h <;> cases h
  exacts [.inl rfl, .inr (.inl rfl), .inr (.inr rfl)]

/-- A reply without data as BUSY starts it, an aborted one, and one with a byte still due. -/
theorem witness_ReplyEndsAndGetCompletes_others :
    let s (tx : Transmission) := running.setRx (.replying tx)
    (∀ tx, running.link.rx ≠ .replying tx) ∧
      (s ⟨false, 0, 0, false⟩).link.rx = .replying ⟨false, 0, 0, false⟩ ∧
      (s ⟨true, 1, 5, true⟩).link.rx = .replying ⟨true, 1, 5, true⟩ ∧
      (s ⟨true, 1, 5, false⟩).link.rx = .replying ⟨true, 1, 5, false⟩ ∧ (1 : Nat) ≠ 0 :=
  ⟨nofun, rfl, rfl, rfl, nofun⟩

/-- A GET whose context is lost once every data byte has gone out. -/
theorem witness_ReplyEndsAndGetCompletes_lost :
    let l := { ready .get .acceptNew with phase := .replying, entry := none, lost := true }
    let s := (withEngine running l).setRx (.replying ⟨true, 0, 10, false⟩)
    s.link.rx = .replying ⟨true, 0, 10, false⟩ ∧ s.engine = some l ∧ l.lost = true := ⟨rfl, rfl, rfl⟩

theorem witness_GetReplySendsBytes :
    (mayStart (ready .get .acceptNew)).ReplyMayStart ⟨.engine, true, 9⟩ (ready .get .acceptNew) ∧
      (ready .get .acceptNew).kind = .get ∧ (ready .get .acceptNew).lost = false ∧
      (ready .get .acceptNew).fault ≠ .fetchFault ∧ (ready .get .acceptNew).entry = some 0 ∧
      (running.setRx (.replying ⟨true, 1, 0, false⟩)).link.rx = .replying ⟨true, 0 + 1, 0, false⟩ ∧
      (⟨7, 0, 0, [1]⟩ : Staging).held = 1 :: [] ∧ running.mover.staging = none :=
  ⟨mayStart_replyMayStart _ rfl nofun, rfl, rfl, nofun, rfl, rfl, rfl, rfl⟩

/-- A duplicate GET that may start. -/
theorem witness_GetReplySendsBytes_duplicate :
    (mayStart (ready .get .acceptDuplicate)).ReplyMayStart ⟨.engine, true, 9⟩ (ready .get .acceptDuplicate) ∧
      (ready .get .acceptDuplicate).verdict = .acceptDuplicate ∧ (ready .get .acceptDuplicate).kind = .get :=
  ⟨mayStart_replyMayStart _ rfl nofun, rfl, rfl⟩

theorem witness_ReplyEndsAndGetCompletes :
    let s (v : Verdict) := (withEngine (withEntry running 0 12 .clean counted12) (ready .get v)).setRx
      (.replying ⟨true, 0, 10, false⟩)
    (s .acceptNew).link.rx = .replying ⟨true, 0, 10, false⟩ ∧ (s .acceptNew).engine = some (ready .get .acceptNew) ∧
      (ready .get .acceptNew).ranges = some ⟨0x100008, 10, 0x100000⟩ ∧ (ready .get .acceptNew).entry = some 0 ∧
      (s .acceptDuplicate).engine = some (ready .get .acceptDuplicate) := ⟨rfl, rfl, rfl, rfl, rfl⟩

theorem witness_ExpiryAnswersBusy :
    let r := request .get 9 10 .lookup .undecided 7
    (mayStart r).link.rx = .replyWait ⟨.engine, true, 9⟩ .earliest ∧ (mayStart r).engine = some r ∧ r.ready = false ∧
      (ready .get .acceptNew).ready = true := ⟨rfl, rfl, rfl, rfl⟩

/-- A broadcast that may commit with three entries in the queue, and may not with four. -/
theorem witness_BroadcastCommits :
    let r := { ready .put .acceptNew with broadcast := true }
    let s (k : Nat) := withQueue (withEngine running r) (List.replicate k (completion false false)) .stores
    (s 3).engine = some r ∧ r.broadcast = true ∧ r.closed = true ∧ (s 3).retire.queue.length < 4 ∧
      r.overflow = false ∧ r.fault = .none ∧ ¬ (s 4).retire.queue.length < 4 ∧ r.ranges = some ⟨0x100008, 10, 0x100000⟩ := by
  decide +kernel

/-- A broadcast that waits for room as the fourth header byte of the next frame comes, and one in LOOKUP. -/
theorem witness_BroadcastCommits_overtaken :
    let r := { ready .put .acceptNew with broadcast := true }
    let l := { request .put 9 4 .lookup .undecided 7 with broadcast := true, entry := none }
    let s (r : Request) := withFrame (withEngine running r) [0x81, 5, 63] (some .addressed)
    (s r).AtFourthByte ⟨[0x81, 5, 63], 3, some .addressed, 0xFFFF, [], [], none⟩ 0x81 5 63 ∧ (s r).cmd.node = .running ∧
      (63#8).toNat ≤ 63 ∧ 0x81#8 &&& 0x7F = 1 ∧ (s r).engine = some r ∧ r.broadcast = true ∧ r.kind = .put ∧
      r.entry = some 0 ∧ (s l).engine = some l ∧ l.phase = .lookup ∧ l.verdict = .undecided ∧ l.entry = none := by
  unfold State.AtFourthByte
  decide +kernel

/-- The modes, quota 1 and the last record of a ring. -/
theorem witness_SchemesAdvance :
    counted9.mode = .counted ∧ alternate20.mode = .alternate ∧ ring30.mode = .ring ∧
      ({ ring30 with w5 := 0x20002 }).recIdx = ({ ring30 with w5 := 0x20002 }).recCountLess1 ∧
      ring30.recIdx ≠ ring30.recCountLess1 ∧ ({ counted9 with w5 := 1 }).quota = 1 := by decide +kernel

/-- A fill behind one whose channel is being cast out, with an INVALID entry, and with none but a DIRTY one. -/
theorem witness_FillTakesOldestEntry :
    let s := withEntry { running with cache := { running.cache with fills := [9, 40] } } 3 9 .evicting counted9
    let full := entryOrder.foldl (fun s e => withEntry s e (Fin.ofNat 64 (e.val + 20)) .filling counted9) running
    let t := withEntry { full with cache := { full.cache with fills := [40] } } 15 35 .dirty counted9
    s.cache.fills = [9] ++ 40 :: [] ∧ s.cache.fills.Nodup ∧ s.cache.find 9 = some 3 ∧
      (s.cache.entry 3).state = .evicting ∧ s.cache.find 40 = none ∧ (s.cache.entry 0).state = .invalid ∧
      t.cache.fills = [] ++ 40 :: [] ∧ (∀ f : EntryIx, (t.cache.entry f).state ≠ .invalid) ∧
      (t.cache.entry 15).eligible (t.record (t.cache.entry 15).tag).pinned = true ∧ t.cache.find 40 = none := by
  decide +kernel

/-- The cache client free, and with a request waiting; a PURGE in progress, and none. -/
theorem witness_FillTakesOldestEntry_burst :
    running.CachePortFree ∧ (after .fillTakesEntry { running with cache := { running.cache with fills := [9] } }).port.cache ≠ none ∧
      (withWork running (.purge ⟨[], [], .waiting⟩ ⟨[(0, 9)], [(0, 9)], .waiting⟩ false)).cmd.work =
        .purge ⟨[], [], .waiting⟩ ⟨[(0, 9)], [(0, 9)], .waiting⟩ false ∧
      (∀ j k f, running.cmd.work ≠ .purge j k f) :=
  ⟨⟨rfl, rfl, nofun⟩, by decide +kernel, rfl, nofun⟩

/-- Each client's request waiting alone; and a store segment with four bytes just below the end of a block. -/
theorem witness_GrantByPriority :
    let x : Segment := ⟨7, .storing, 0x10001C, [1, 2, 3, 4], 6, false, false⟩
    let s : State := { running with
      mover := { running.mover with segments := [x] }, port := { running.port with store := some 7 } }
    s.port.inFlight = none ∧ s.port.fetch = none ∧ s.port.cache = none ∧ s.port.store = some 7 ∧
      s.mover.segment 7 = some x ∧ 4 ≤ x.held.length ∧ x.held ≠ [] ∧ x.next.toNat % 4 = 0 ∧
      (withFlight running (twoWords .event 0x100)).port.inFlight = some (twoWords .event 0x100) ∧
      ({ Port.reset with writer := some (twoWords .event 0x100) }).retire = none := by decide +kernel

/-- A linefill of channel 9 in flight, memory with a valid descriptor of its, and with an invalid one. -/
def filling : State :=
  withFlight (withEntry running 0 9 .filling .zero) ⟨.cache (.linefill 0), 0x2120, 8, []⟩

def descriptorBytes (w0 : Byte) : List (Addr × Byte) := [(0x2120, w0), (0x2122, 0x80)]

theorem witness_LinefillEndsOrFaults :
    filling.port.inFlight = some ⟨.cache (.linefill 0), 0x2120, 8, []⟩ ∧ (filling.cache.entry 0).state = .filling ∧
      (filling.cache.entry 0).tag = 9 ∧ filling.engine = none ∧
      (Descriptor.readFrom (Memory.hostWrites filling.mem (descriptorBytes 0x01)) 0x2120).subCode = 0 ∧
      (Descriptor.readFrom (Memory.hostWrites filling.mem (descriptorBytes 0x41)) 0x2120).subCode = 1 ∧
      (filling.record 9).hold = .free ∧ ((withRecord filling 9 .holdWait false false).record 9).hold = .holdWait ∧
      ((withRecord filling 9 .holdWait false false).record 9).reason = .none := by decide +kernel

theorem witness_LinefillAnswersLookup :
    let r := { request .put 9 10 .lookup .undecided 7 with entry := none, ranges := none, overflow := true }
    (withEngine filling r).engine = some r ∧ r.channel = 9 ∧ r.phase = .lookup ∧ r.broadcast = false ∧
      (withEngine filling r).port.inFlight = some ⟨.cache (.linefill 0), 0x2120, 8, []⟩ ∧
      ((withEngine filling r).cache.entry 0).tag = 9 ∧ r.entry = none ∧
      (Descriptor.readFrom (Memory.hostWrites filling.mem (descriptorBytes 0x01)) 0x2120).subCode = 0 ∧
      (Descriptor.readFrom (Memory.hostWrites filling.mem (descriptorBytes 0x41)) 0x2120).subCode ≠ 0 := by decide +kernel

/-- A burst of the cache in flight with two more due, and with one of its requests waiting: the next that is due is then
presented, at its own channel's descriptor, or none. -/
theorem witness_CastoutsEnd_turn :
    let s (kind : BurstKind) (x : EntryState) (waits : Option Burst) : State :=
      let s := withEntry (withEntry (withFlight running (twoWords kind 0x2120)) 0 9 x counted9) 1 20 .filling .zero
      { s with
        cache := { s.cache.modify 0 fun y => { y with next := some 40 } with due := [.linefill 1, .eviction 3] }
        port := { s.port with cache := waits } }
    let turn (t : State) (due : List CacheBurst) := t.port.cache = some ⟨.cache (.linefill 1), 0x2280, 8, []⟩ ∧
      t.cache.due = due
    (∀ kind x w, (s kind x w).port.inFlight = some (twoWords kind 0x2120)) ∧
      turn (after (.linefillEnd .busError) (s (.cache (.linefill 0)) .filling none)) [.eviction 3] ∧
      turn (after (.invalidationCastoutEnd .completion) (s (.cache (.invalidation 0)) .evicting none)) [.eviction 3] ∧
      turn (after (.writeEnd .completion) (s (.cache (.flushCastout 0)) .writing none)) [.eviction 3] ∧
      turn (after (.evictionCastoutEnd .completion) (s (.cache (.eviction 0)) .evicting none)) [.eviction 3, .linefill 0] ∧
      (after (.linefillEnd .busError)
        (s (.cache (.linefill 0)) .filling (some (twoWords (.cache (.eviction 3)) 0x2140)))).cache.due =
        [.linefill 1, .eviction 3] := by
  refine ⟨fun _ _ _ => rfl, ?_⟩
  decide +kernel

theorem witness_CastoutsEnd :
    let s (kind : CacheBurst) (next : Option Channel) : State := withFlight { running with
      cache := running.cache.modify 0 fun x => { x with tag := 9, state := .evicting, next := next } }
      (twoWords (.cache kind) 0x2120)
    ((s (.eviction 0) (some 40)).cache.entry 0).state = .evicting ∧
      ((s (.eviction 0) (some 40)).cache.entry 0).next = some 40 ∧ (s (.eviction 0) (some 40)).engine = none ∧
      (s (.eviction 0) (some 40)).retire.queue = [] ∧
      (s (.invalidation 0) none).port.inFlight = some (twoWords (.cache (.invalidation 0)) 0x2120) ∧
      ((s (.invalidation 0) none).record 9).hold = .free ∧ (s (.eviction 0) (some 40)).cache.due = [] ∧
      (s (.eviction 0) (some 40)).port.cache = none := by decide +kernel

/-- A head that waits for the castout of its channel's entry in such a state, and the jobs that wait for it. -/
theorem witness_CastoutsEnd_waiting :
    let s (next : Option Channel) : State := withQueue { running with
      cache := running.cache.modify 0 fun x => { x with tag := 9, state := .evicting, next := next } }
      [completion false true] .descriptorWait
    let l := { request .put 9 10 .lookup .undecided 7 with entry := none }
    (s (some 40)).cache.ResidencyLaw ∧ (s none).cache.ResidencyLaw ∧
      (s none).retire = ⟨completion false true :: [], .descriptorWait⟩ ∧ (completion false true).descriptorWrite = true ∧
      (s none).cache.foundAfter 0 none (completion false true).channel = none ∧
      (withEngine (s none) l).engine = some l ∧ l.entry = none ∧ l.channel = 9 ∧ l.phase = .lookup ∧
      (withWork (s none) (.purge ⟨[(0, 9)], [], .waiting⟩ ⟨[(0, 9)], [(0, 9)], .casting⟩ false)).cmd.work =
        .purge ⟨[(0, 9)], [], .waiting⟩ ⟨[(0, 9)], [(0, 9)], .casting⟩ false := by
  unfold Cache.ResidencyLaw Cache.Absent
  refine ⟨⟨by decide +kernel, by decide +kernel, by decide +kernel, ?_⟩,
    ⟨by decide +kernel, by decide +kernel, by decide +kernel, ?_⟩, rfl, rfl, by decide +kernel, rfl, rfl, rfl, rfl, rfl⟩
  all_goals
    intro e he
    revert e
    decide +kernel

/-- A write-through under way for the head's channel: at the end of a FLUSH castout the head finds the entry DIRTY again,
or CLEAN. -/
theorem witness_WriteEndSettlesEntry_waiting :
    let s (x : EntryState) : State := withQueue (withEntry running 0 9 x counted9) [completion false true] .descriptorWait
    (s .writingDirty).cache.ResidencyLaw ∧ (s .writingDirty).cache.foundAfter 0 (some .dirty) 9 = some (0, .dirty) ∧
      (s .writing).cache.foundAfter 0 (some .clean) 9 = some (0, .clean) ∧
      (s .writing).retire = ⟨completion false true :: [], .descriptorWait⟩ := by
  unfold Cache.ResidencyLaw Cache.Absent
  refine ⟨⟨by decide +kernel, by decide +kernel, by decide +kernel, ?_⟩, by decide +kernel, by decide +kernel, rfl⟩
  intro e he
  revert e
  decide +kernel

theorem witness_WriteEndSettlesEntry :
    let s (kind : BurstKind) (x : EntryState) := withFlight (withEntry running 0 9 x counted9) (twoWords kind 0x2120)
    ((s (.writeThrough 0) .writing).cache.entry 0).state = .writing ∧
      ((s (.cache (.flushCastout 0)) .writingDirty).cache.entry 0).state = .writingDirty ∧
      (s (.cache (.flushCastout 0)) .writingDirty).retire.step ≠ .descriptorWait ∧
      (s (.writeThrough 0) .writing).port.inFlight = some (twoWords (.writeThrough 0) 0x2120) ∧
      ((s (.writeThrough 0) .writing).record 9).hold = .free := by decide +kernel

/-- A request that works on the entry whose write ends in bus error: awaiting its reply, and replying. -/
theorem witness_WriteEndSettlesEntry_request :
    let r (p : Phase) := request .get 9 8 p .acceptNew 7
    let s (p : Phase) := withEngine (withFlight (withEntry running 0 9 .writing counted9)
      (twoWords (.cache (.flushCastout 0)) 0x2120)) (r p)
    (s .admitted).engine = some (r .admitted) ∧ (r .admitted).entry = some 0 ∧ (r .admitted).phase ≠ .lookup ∧
      (r .admitted).phase ≠ .replying ∧ (s .replying).engine = some (r .replying) ∧ (r .replying).phase = .replying :=
  ⟨rfl, rfl, nofun, nofun, rfl, rfl⟩

/-- A segment's last bytes in flight; and one with more to come. -/
theorem witness_StoredBytesReachMemory :
    let x : Segment := ⟨7, .storing, 0x100008, [1, 2, 3, 4, 5], 0, false, true⟩
    let y : Segment := ⟨7, .storing, 0x100008, [1, 2, 3, 4, 5], 3, false, false⟩
    let s (x : Segment) : State := withFlight { running with mover := { running.mover with segments := [x] } } x.burst
    (s x).MemoryLaw ∧ (s x).mover.segment x.msg = some x ∧ (∀ z ∈ (s x).mover.segments, z.msg = x.msg → z = x) ∧
      (s x).port.inFlight = some x.burst ∧ x.held.length ≤ x.burstBytes ∧ x.due = 0 ∧
      (s y).mover.segment y.msg = some y ∧ y.burstBytes < y.held.length ∧ y.due ≠ 0 := by
  unfold State.MemoryLaw
  decide +kernel

theorem witness_StoreFaultReported :
    let s := withEngine (withFlight running (twoWords (.store 7 8) 0x100008)) (request .put 9 8 .admitted .acceptNew 7)
    s.port.inFlight = some (twoWords (.store 7 8) 0x100008) ∧ s.engine = some (request .put 9 8 .admitted .acceptNew 7) ∧
      (request .put 9 8 .admitted .acceptNew 7).ready = false ∧ (ready .put .acceptNew).ready = true := ⟨rfl, rfl, rfl, rfl⟩

/-- A broadcast whose store burst faults before its commit, its frame open, closed good, and with the drop decided. -/
theorem witness_StoreFaultReported_broadcast :
    let r (closed : Bool) : Request := { request .put 9 8 .admitted .acceptNew 7 with broadcast := true, closed := closed }
    let d : Request := { r false with phase := .awaitReady, verdict := .dropped true }
    let s (r : Request) := withEngine (withFlight (withEntry running 0 9 .clean counted9) (twoWords (.store 7 8) 0x100008)) r
    (∀ c, (s (r c)).engine = some (r c) ∧ (r c).msg = 7 ∧ (r c).broadcast = true ∧ (r c).kind = .put ∧
      (r c).verdict = .acceptNew ∧ (r c).ready = false ∧ (r c).entry = some 0 ∧ (r c).closed = c) ∧
      (s d).engine = some d ∧ d.verdict ≠ .acceptNew ∧ (s d).port.store = none :=
  ⟨fun _ => ⟨rfl, rfl, rfl, rfl, rfl, rfl, rfl, rfl⟩, rfl, nofun, rfl⟩

theorem witness_FetchedBytesJoinBuffer :
    let t : Staging := ⟨7, 0x110008, 6, []⟩
    let b : Burst := ⟨.fetch 7 6, 0x110008, 2, []⟩
    let r := request .get 12 6 .admitted .acceptNew 7
    let s := withEngine (withFlight { running with mover := { running.mover with staging := some t } } b) r
    s.port.inFlight = some b ∧ s.mover.staging = some t ∧ s.engine = some r ∧ r.msg = t.msg ∧ r.ready = false ∧
      r.kind = .get := ⟨rfl, rfl, rfl, rfl, rfl, rfl⟩

/-- A fetch burst of a message that was abandoned: no buffer, and a buffer that serves the next message. -/
theorem witness_FetchedBytesJoinBuffer_abandoned :
    let b : Burst := ⟨.fetch 7 6, 0x110008, 2, []⟩
    let s (x : Option Staging) := withFlight { running with mover := { running.mover with staging := x } } b
    (s none).port.inFlight = some b ∧ (∀ t, (s none).mover.staging = some t → t.msg ≠ 7) ∧
      (∀ t, (s (some ⟨8, 0, 4, []⟩)).mover.staging = some t → t.msg ≠ 7) :=
  ⟨rfl, nofun, fun t h => by cases h; decide⟩

theorem witness_RecordWordsWritten :
    let s (step : RetireStep) (p : Bool) := withFlight (withQueue running [completion p false] step)
      (twoWords .recordWord 0x100000)
    (s .stores false).retire.queue = completion false false :: [] ∧ (s .stores false).retire.step = .stores ∧
      (completion false false).filled = true ∧ (completion false false).storesPending = false ∧
      (completion true false).storesPending = true ∧ (s .word1 false).retire.step = .word1 ∧
      (s .word0 false).retire.step = .word0 ∧ (completion false false).descriptorWrite = false ∧
      (s .word0 false).port.inFlight = some (twoWords .recordWord 0x100000) := by decide +kernel

theorem witness_DescriptorWriteAnswered :
    let s (x : EntryState) := withFlight (withQueue (withEntry running 0 9 x counted9) [completion false true] .word0)
      (twoWords .recordWord 0x100000)
    (s .dirty).retire = ⟨completion false true :: [], .word0⟩ ∧ (completion false true).descriptorWrite = true ∧
      (s .dirty).cache.find 9 = some 0 ∧ (s .writing).cache.find 9 = some 0 ∧ (s .evicting).cache.find 9 = some 0 ∧
      (s .clean).cache.find 9 = some 0 ∧ (s .clean).port.inFlight = some (twoWords .recordWord 0x100000) := by
  decide +kernel

/-- An ACTIVE writer with seven and with eight events; a ring with room, and a full one at P 15 of 16. -/
theorem witness_EventTakenAndPresented :
    let full (w : Work) : State := { withWork (withEvents running 1) w with
      writer := { (withEvents running 1).writer with producer := 15 } }
    (withEvents running 7).writer.active = true ∧ (withEvents running 7).writer.queue.length < 8 ∧
      8 ≤ (withEvents running 8).writer.queue.length ∧
      (withEvents running 1).writer.queue = ⟨.linkError, 0xFF, 1, 0, 0, 0, 0⟩ :: [] ∧
      running.writer.queue = [] ∧ (withEvents running 1).writer.writing = none ∧ ¬ (0 % 16 + 16 - 0 % 16) % 16 = 16 - 1 ∧
      ((full .none).writer.producer.toNat % 16 + 16 - (full .none).writer.consumer.toNat % 16) % 16 = 16 - 1 ∧
      (full .none).cmd.work.stopsEvents = false ∧ (full (.stop .events false)).cmd.work.stopsEvents = true := by
  decide +kernel

theorem witness_EventEntryEnds :
    let s (x : EntryWrite) : State := withFlight { withEvents running 1 with
      writer := { (withEvents running 1).writer with writing := some x } } (twoWords .event 0x4000)
    (s .event).port.inFlight = some (twoWords .event 0x4000) ∧ (s .event).writer.writing = some .event ∧
      (s (.gap 2)).writer.writing = some (.gap 2) ∧ (s .event).cmd.work.stopsEvents = false := by decide +kernel

/-- Entry writes that complete in STOP's events step with one event pending behind them: at P 13 of 16 there is then room,
at P 14 the ring is then full. -/
theorem witness_EventEntryEnds_stopping :
    let s (p : BitVec 12) : State := withFlight { withWork (withEvents running 2) (.stop .events false) with
      writer := { (withEvents running 2).writer with writing := some .event, producer := p } } (twoWords .event 0x4000)
    (s 14).port.inFlight = some (twoWords .event 0x4000) ∧ (s 14).writer.writing = some .event ∧
      (s 14).cmd.work.stopsEvents = true ∧ (s 14).writer.active = true ∧ (s 14).writer.queue.tail ≠ [] ∧
      (15 % 16 + 16 - (s 14).writer.consumer.toNat % 16) % 16 = 16 - 1 ∧
      ¬ (14 % 16 + 16 - (s 13).writer.consumer.toNat % 16) % 16 = 16 - 1 ∧
      (after (.eventEntryWriteEnd .completion) (s 14)).writer.dropped = 1 := by decide +kernel

/-- A HOLD of channel 9 with its completion waiting, with its entry absent, CLEAN and DIRTY. -/
theorem witness_HoldEndsOnceIdle :
    let s (x : EntryState) := withWork (withEntry running 0 9 x counted9) (.hold 9)
    (s .clean).cmd.work = .hold 9 ∧ (s .clean).engine = none ∧ (s .clean).retire.queue = [] ∧
      (s .clean).cache.fillPending 9 = false ∧ (s .clean).cache.find 9 = some 0 ∧ (s .dirty).cache.find 9 = some 0 ∧
      (∀ e : EntryIx, ((s .invalid).cache.entry e).tag = 9 → ((s .invalid).cache.entry e).state = .invalid) ∧
      (withQueue (s .clean) [completion false false] .stores).retire.queue = [completion false false] ∧
      (completion false false).channel = 9 ∧ ((s .clean).record 9).reason = .none ∧
      (let r := { request .put 9 8 .awaitReady .busyHold 7 with entry := none, byHold := true };
        (withEngine (s .clean) r).engine = some r ∧ r.channel = 9 ∧ r.byHold = true) := by decide +kernel

/-- The events of such a HOLD (Table 6-6): its castout, a header answered BUSY meanwhile, and its end with that request
still in progress. -/
theorem test_hold_past_busy_header :
    let s := withWork (withRecord (withEntry running 0 9 .dirty counted9) 9 .holdWait false false) (.hold 9)
    let t := afterAll ([.holdEnd, .burstGrant, .openingFlag] ++ [0x81, 5, 9, 10].map Instr.dataSymbol ++
      [.invalidationCastoutEnd .completion, .holdEnd]) s
    (t.engine.map fun r => r.verdict) = some .busyHold ∧ (t.record 9).hold = .held ∧ t.cmd.result = .done := by
  decide +kernel

/-- A header answered BUSY while channel 9 was HELD, then RELEASE and HOLD: the HOLD waits for the request to end
(R62, R65, R111). -/
theorem test_hold_waits_for_earlier_answer :
    let s := withRecord (withEntry running 0 9 .clean counted9) 9 .held false false
    let t := afterAll ([.openingFlag] ++ [0x81, 5, 9, 10].map Instr.dataSymbol ++ [.release 9, .hold 9, .holdEnd]) s
    (t.engine.map fun r => r.verdict) = some .busyHold ∧ (t.record 9).hold = .holdWait ∧ t.cmd.busy = true ∧
      ((afterAll [.abortSymbol, .holdEnd] t).record 9).hold = .held := by decide +kernel

theorem witness_MembersDealtWith :
    let job (p : CastPhase) : CastJob := ⟨[(0, 9)], [(0, 9)], p⟩
    let s (x : EntryState) (w : Work) := withWork (withEntry running 0 9 x counted9) w
    (s .dirty (.flush (job .waiting) false)).cmd.work = .flush ⟨[(0, 9)], (0, 9) :: [], .waiting⟩ false ∧
      ((s .dirty (.flush (job .waiting) false)).cache.entry 0).tag = 9 ∧
      ((s .writing (.flush (job .waiting) false)).cache.entry 0).state = .writing ∧
      (s .clean (.flush (job .cast) true)).cmd.work = .flush ⟨[(0, 9)], (0, 9) :: [], .cast⟩ true ∧
      (s .clean (.purge ⟨[], [], .waiting⟩ (job .waiting) false)).cmd.work =
        .purge ⟨[], [], .waiting⟩ ⟨[(0, 9)], (0, 9) :: [], .waiting⟩ false ∧
      (s .clean (.purge (job .casting) (job .waiting) false)).cmd.work =
        .purge ⟨[(0, 9)], (0, 9) :: [], .casting⟩ (job .waiting) false ∧ (job .casting).todo ≠ [] ∧
      (s .clean (.purge ⟨[], [], .waiting⟩ (job .cast) false)).cmd.work =
        .purge ⟨[], [], .waiting⟩ ⟨[(0, 9)], (0, 9) :: [], .cast⟩ false ∧
      ((0, 9) : EntryIx × Channel) ∈ (job .waiting).members ∧ ((0, 9) : EntryIx × Channel) ∉ ([] : List (EntryIx × Channel)) ∧
      (s .clean .none).engine = none ∧ (s .clean .none).retire.queue = [] ∧ (s .clean .none).cache.due = [] ∧
      (s .clean .none).port = .reset ∧ ((s .filling .none).cache.entry 0).state = .filling := by decide +kernel

/-- Channel 9 leaves its entry for channel 40 and is filled there again after PURGE was taken: it stays (R103). -/
theorem test_purge_refilled_entry_stays :
    let s := entryOrder.foldl (fun s e => withEntry s e (Fin.ofNat 64 (e.val + 20)) .clean counted9) running
    let s := (List.range 16).foldl (fun s i => withRecord s (Fin.ofNat 64 (i + 20)) .free (i ≠ 0) false) s
    let t := withEngine (after (.purge 0) s) (request .put 20 8 .awaitReady .ignored 7)
    let fill (n : Channel) (s : State) := afterAll [.fillTakesEntry, .burstGrant, .linefillEnd (.completion (descriptorBytes 0))]
      { s with cache := { s.cache with fills := [n] } }
    let u := after .purgeMember { fill 20 (fill 40 t) with engine := none }
    (t.cmd.busy = true) ∧ ((fill 40 t).cache.entry 0).tag = 40 ∧ (u.cache.entry 0).tag = 20 ∧
      (u.cache.entry 0).state = .clean ∧ u.cmd.result = .done := by decide +kernel

theorem witness_StopStepsReachHalted :
    let s (x : StopStep) := withWork (node .stopping) (.stop x false)
    (s .request).cmd.work = .stop .request false ∧ (s .request).engine = none ∧
      (s .completions).cmd.work = .stop .completions false ∧ (s .completions).retire.queue = [] ∧
      (s .cache).cmd.work = .stop .cache false ∧ (s .cache).cacheQuiet = true ∧
      (∀ e : EntryIx, ((s .cache).cache.entry e).state ≠ .dirty) ∧
      ((withEntry (s .cache) 15 9 .dirty counted9).cache.entry 15).state = .dirty ∧
      (withEntry (s .cache) 15 9 .dirty counted9).cacheQuiet = true ∧
      (withEntry (s .cache) 15 9 .filling counted9).cacheQuiet = false ∧
      (s .events).cmd.work = .stop .events false ∧ (withEvents (s .events) 1).writer.queue ≠ [] ∧ (s .events).writer.queue = [] ∧ (s .events).writer.writing = none ∧
      (s .halting).cmd.work = .stop .halting false ∧ (s .halting).port = .reset ∧ (s .halting).link.rx = .idle := by
  decide +kernel

/-- The state of every law's premise, with a step that answers a next state. -/
theorem witness_laws :
    running.MemoryLaw ∧ running.cache.AgeLaw ∧ running.PinLaw ∧ (withEvents running 8).writer.Law := by
  unfold State.MemoryLaw Cache.AgeLaw State.PinLaw Writer.Law
  decide +kernel

/-- Three entries and a ready message that finds the fourth free. -/
theorem witness_CompletionLawKept :
    (withQueue (withEngine running (ready .put .acceptNew)) (List.replicate 3 (completion false false)) .stores).CompletionLaw := by
  refine ⟨by decide, fun r h => ?_⟩
  cases h
  exact ⟨nofun, fun _ _ _ => by decide⟩

theorem witness_StagingLawKept : running.StagingLaw :=
  ⟨by unfold State.ReceiveLaw; decide, nofun, nofun, nofun, nofun, nofun, nofun, fun h => absurd rfl h⟩

theorem witness_StatusLawKept : (withRecord (withWork running (.hold 9)) 9 .holdWait false false).HoldLaw := by
  refine ⟨fun _ => rfl, fun n => ?_⟩
  revert n
  decide +kernel

theorem witness_commandUnit_law : (withWork (node .stopping) (.stop .events false)).cmd.Law :=
  ⟨fun _ => rfl, nofun, fun _ => ⟨_, _, rfl⟩, nofun⟩

theorem witness_QuietLawKept : (node .halted).QuietLaw := by
  refine ⟨⟨fun h => absurd rfl h, fun _ => rfl, nofun, nofun⟩, fun _ => rfl, fun _ => rfl, fun _ => ?_, fun _ => ⟨rfl, rfl, rfl⟩⟩
  exact witness_StartStopAndResume_empty_cache

/-- A RUNNING node with channel 9 CLEAN in entry 0, a fill of channel 40 pending and channel 22 HELD. -/
theorem witness_ChannelLawKept :
    let s := withRecord (withEntry { running with cache := { running.cache with fills := [40] } } 0 9 .clean counted9) 22
      .held false false
    s.cache.ResidencyLaw ∧ s.OwnershipLaw := by
  unfold Cache.ResidencyLaw State.OwnershipLaw Cache.Absent
  refine ⟨⟨by decide +kernel, by decide +kernel, by decide +kernel, ?_⟩, by decide +kernel⟩
  intro e h
  exact absurd h (by revert e; decide +kernel)

theorem witness_NodeStateChangesAtFourEvents :
    (node .halted).cmd.Law ∧ (Instr.start 0).wellFormed = true ∧
      (after (.start 0) (node .halted)).cmd.node ≠ (node .halted).cmd.node ∧ (1#32).getLsbD 0 = true ∧
      (withWork (node .stopping) (.stop .request false)).cmd.node = .stopping := by
  refine ⟨⟨fun h => absurd rfl h, fun _ => rfl, nofun, nofun⟩, by decide, by decide +kernel, by decide, rfl⟩

end Sys2Proof.Tests
end

/-! PROOFS. The header check (R46): the rows of Table 3-6 in plain arithmetic, what a failed frame leaves, and what an
IDLE receiver ignores. -/

namespace Sys2Proof.Machine

/-! ### Table 3-6 in plain arithmetic -/

/-- KIND of a frame kind (Table 3-2). -/
def FrameKind.number : FrameKind → Nat
  | .put => 1
  | .get => 2
  | .sync => 3
  | .probe => 4
  | .nodeReset => 5

/-- A row of Table 3-6 applies to KIND `kind`, CHANNEL byte `channel` and LENGTH byte `length` in a frame of class
`cls`. -/
def HeaderRowApplies (cls : Option FrameClass) (kind : Nat) (channel length : Byte) : Prop :=
  kind = 0 ∨ 5 < kind ∨ (kind = 3 ∧ cls = some .addressed) ∨ ((kind = 2 ∨ kind = 4) ∧ cls = some .broadcast) ∨
    ((kind = 1 ∨ kind = 2) ∧ 63 < channel.toNat) ∨ (kind = 3 ∧ length ≠ 2) ∨ ((kind = 4 ∨ kind = 5) ∧ length ≠ 0)

/-- KIND is bits 6:0 of byte 0, by extraction as by mask (Table 11-1). -/
theorem extractLsb_toNat_eq_and_toNat (b0 : Byte) : (b0.extractLsb' 0 7).toNat = (b0 &&& 0x7F).toNat := by
  have hmask : b0.toNat &&& 127 = b0.toNat % 128 := Nat.and_two_pow_sub_one_eq_mod b0.toNat 7
  simp [hmask]

/-- A defined KIND is the number of its frame kind. -/
theorem number_of_frameKind_eq_some {b0 : Byte} {k : FrameKind} (h : frameKind b0 = some k) :
    (b0 &&& 0x7F).toNat = k.number := by
  rw [← extractLsb_toNat_eq_and_toNat]
  unfold frameKind at h
  split at h <;> cases h <;> assumption

/-- A bad KIND is 0 or greater than 5. -/
theorem bad_kind_of_frameKind_eq_none {b0 : Byte} (h : frameKind b0 = none) :
    (b0 &&& 0x7F).toNat = 0 ∨ 5 < (b0 &&& 0x7F).toNat := by
  rw [← extractLsb_toNat_eq_and_toNat]
  by_contra hdefined
  obtain hk | hk | hk | hk | hk : (b0.extractLsb' 0 7).toNat = 1 ∨ (b0.extractLsb' 0 7).toNat = 2 ∨
      (b0.extractLsb' 0 7).toNat = 3 ∨ (b0.extractLsb' 0 7).toNat = 4 ∨ (b0.extractLsb' 0 7).toNat = 5 := by omega
  all_goals simp [frameKind, hk] at h

/-- Of a header with a defined KIND, the model's check fails exactly when a row of Table 3-6 applies. -/
theorem RequestHeader.good_eq_false_iff (h : RequestHeader) (cls : FrameClass) :
    h.good cls = false ↔ HeaderRowApplies (some cls) h.kind.number h.channel h.length := by
  obtain ⟨kind, seq, channel, length⟩ := h
  cases kind <;> simp [RequestHeader.good, HeaderRowApplies, FrameKind.number, or_iff_not_imp_left]

/-- Where a row of Table 3-6 applies, the KIND is bad or the model's check fails. -/
theorem headerOf_of_row {b0 b1 b2 b3 : Byte} {cls : FrameClass}
    (h : HeaderRowApplies (some cls) (b0 &&& 0x7F).toNat b2 b3) :
    headerOf [b0, b1, b2, b3] = none ∨ ∃ hd, headerOf [b0, b1, b2, b3] = some hd ∧ hd.good cls = false := by
  cases hk : frameKind b0 with
  | none => exact .inl (by simp [headerOf, hk])
  | some k =>
    rw [number_of_frameKind_eq_some hk] at h
    exact .inr ⟨⟨k, b0.getLsbD 7, b2, b3⟩, by simp [headerOf, hk], (RequestHeader.good_eq_false_iff _ cls).mpr h⟩

/-- Where no row applies, the header is formed and passes the model's check. -/
theorem headerOf_of_no_row {b0 b1 b2 b3 : Byte} {cls : FrameClass}
    (h : ¬ HeaderRowApplies (some cls) (b0 &&& 0x7F).toNat b2 b3) :
    ∃ hd, headerOf [b0, b1, b2, b3] = some hd ∧ hd.good cls = true := by
  cases hk : frameKind b0 with
  | none =>
    exact absurd ((bad_kind_of_frameKind_eq_none hk).elim .inl fun h5 => .inr (.inl h5)) h
  | some k =>
    rw [number_of_frameKind_eq_some hk] at h
    refine ⟨⟨k, b0.getLsbD 7, b2, b3⟩, by simp [headerOf, hk], ?_⟩
    exact Bool.eq_true_of_not_eq_false fun hbad => h ((RequestHeader.good_eq_false_iff _ cls).mp hbad)

/-- An addressed PUT or GET whose CHANNEL is 0 to 63 is good, so a frame whose header a row refuses concerns no message
(R50). -/
theorem Frame.concerns_eq_none_of_row {f : Frame} {b0 b1 b2 b3 : Byte} {cls : FrameClass}
    (hheader : f.header = [b0, b1, b2, b3]) (hcls : f.cls = some cls)
    (hrow : HeaderRowApplies (some cls) (b0 &&& 0x7F).toNat b2 b3) : f.concerns = none := by
  unfold Frame.concerns
  rw [hheader, hcls]
  split
  · rename_i haddressed
    cases haddressed
    rcases headerOf_of_row (b1 := b1) hrow with hnone | ⟨⟨kind, seq, channel, length⟩, hsome, hbad⟩
    · simp [hnone]
    · rw [RequestHeader.good_eq_false_iff] at hbad
      cases kind <;> simp_all [HeaderRowApplies, FrameKind.number]
  · rfl

/-! ### Frames that fail -/

/-- The saturating count after one more (R51). -/
theorem saturate_one_toNat (x : Half) : (saturate x 1).toNat = min 65535 (x.toNat + 1) := by
  simp only [saturate, BitVec.toNat_ofNat]
  omega

@[simp] theorem State.lineError_link (s : State) (err : LineError) :
    (s.lineError err).link = s.link.countLineError err := by
  unfold State.lineError
  dsimp only
  split <;> rfl

@[simp] theorem State.failFrame_link (s : State) (f : Frame) (err : LineError) :
    (s.failFrame f err).link = Link.countLineError { s.link with rx := .idle } err := by
  unfold State.failFrame
  cases f.msg <;> simp

/-- A failed frame that concerned no message raises LINK_ERROR alone. -/
theorem State.failFrame_writer {f : Frame} (h : f.concerns = none) (s : State) (err : LineError) :
    (s.failFrame f err).writer = ((s.setRx .idle).lineError err).writer := by
  unfold State.failFrame State.frameMessageError
  cases f.msg <;> simp [h]

/-- LINK_ERROR(FRAME) carries the frame-error counter after its increment (R50). -/
theorem State.lineError_writer_of_frame (s : State) :
    (s.lineError .frame).writer =
      if s.host.linkErrorEnable then
        s.writer.take ⟨.linkError, 0xFF, 2, s.link.cycle, s.link.offset, saturate s.link.frameErrors 1, 0⟩
      else s.writer := by
  unfold State.lineError
  dsimp only
  split <;> rfl

/-! ### Symbols at the two gates, and in IDLE -/

/-- Where RESET is not asserted and the node is not HALTED a symbol is acted on (R171, R55). -/
theorem State.live_onLine {s : State} (hreset : s.resetAsserted = false) (hnode : s.cmd.node ≠ .halted)
    (f : State → State) : (s.live fun t => t.onLine f) = f s := by
  rw [State.live_of_not_reset hreset]
  exact if_neg hnode

/-- A symbol that changes nothing changes nothing behind the gates. -/
theorem State.live_onLine_of_fixed {s : State} {f : State → State} (h : f s = s) :
    (s.live fun t => t.onLine f) = s := by
  rcases s.live_cases fun t => t.onLine f with hlive | ⟨-, hlive⟩ <;> rw [hlive]
  rcases s.onLine_cases f with hline | ⟨-, hline⟩ <;> rw [hline]
  exact h

section
variable {s : State} (hidle : s.link.rx = .idle)
include hidle

theorem exec_dataSymbol_of_idle (b : Byte) : exec (.dataSymbol b) s = .next s :=
  congrArg _ (State.live_onLine_of_fixed (by simp [State.takeData, hidle]))

theorem State.takeClosing_of_idle : s.takeClosing = s := by simp [State.takeClosing, hidle]

theorem State.takeAbort_of_idle : s.takeAbort = s := by simp [State.takeAbort, hidle]

theorem exec_closingFlag_of_idle : exec .closingFlag s = .next s :=
  congrArg _ (State.live_onLine_of_fixed (State.takeClosing_of_idle hidle))

theorem exec_abortSymbol_of_idle : exec .abortSymbol s = .next s :=
  congrArg _ (State.live_onLine_of_fixed (State.takeAbort_of_idle hidle))

theorem exec_symbolSilenceLimit_of_idle : exec .symbolSilenceLimit s = .next s :=
  congrArg _ (State.live_onLine_of_fixed (State.takeAbort_of_idle hidle))

/-- In IDLE every control symbol but the opening flag is ignored (R47). -/
theorem State.takeControl_of_idle {b : Byte} (hb : b ≠ 0x5A) : s.takeControl b = s := by
  unfold State.takeControl
  split
  · rename_i hopening
    exact absurd (BitVec.eq_of_toNat_eq hopening) hb
  · exact State.takeClosing_of_idle hidle
  · exact State.takeAbort_of_idle hidle
  · simp [State.takeBad, hidle]

theorem exec_badSymbol_of_idle {b : Byte} (hb : b ≠ 0x5A) : exec (.badSymbol b) s = .next s :=
  congrArg _ (State.live_onLine_of_fixed (State.takeControl_of_idle hidle hb))

end

/-! ### The fourth header byte -/

/-- The fourth byte goes to the header check of the frame's class, whose frame then holds all four bytes. -/
theorem exec_dataSymbol_of_atFourthByte {s : State} {f : Frame} {b0 b1 b2 : Byte} (h : s.AtFourthByte f b0 b1 b2)
    (b3 : Byte) :
    ∃ g cls, f.cls = some cls ∧ g.header = [b0, b1, b2, b3] ∧ g.count = 4 ∧ g.cls = some cls ∧
      exec (.dataSymbol b3) s = .next (s.headerComplete g cls) := by
  obtain ⟨hreset, hnode, hrx, hcount, hheader, hcls⟩ := h
  have hexec : exec (.dataSymbol b3) s = .next (s.takeByte f b3) := by
    refine congrArg _ ((State.live_onLine hreset hnode _).trans ?_)
    simp [State.takeData, hrx]
  rcases hcls with hcls | hcls <;>
    exact ⟨f.takeHeaderByte s.host.nodeAddress b3, _, hcls,
      by simp [Frame.takeHeaderByte, hheader, hcount, hcls, hexec, State.takeByte]⟩

/-- A header that a row of Table 3-6 refuses fails its frame (R46). -/
theorem State.headerComplete_of_row (s : State) {g : Frame} {b0 b1 b2 b3 : Byte} {cls : FrameClass}
    (hheader : g.header = [b0, b1, b2, b3]) (hrow : HeaderRowApplies (some cls) (b0 &&& 0x7F).toNat b2 b3) :
    s.headerComplete g cls = s.failFrame g .frame := by
  unfold State.headerComplete
  rw [hheader]
  rcases headerOf_of_row (b1 := b1) hrow with hnone | ⟨hd, hsome, hbad⟩
  · simp [hnone]
  · simp [hsome, hbad]

/-- A good header leaves its frame open, with at most its message's name added, and counts nothing (R46, R48). -/
theorem State.headerComplete_link_of_no_row (s : State) {g : Frame} {b0 b1 b2 b3 : Byte} {cls : FrameClass}
    (hheader : g.header = [b0, b1, b2, b3]) (hrow : ¬ HeaderRowApplies (some cls) (b0 &&& 0x7F).toNat b2 b3) :
    ∃ msg, (s.headerComplete g cls).link = { s.link with rx := .receiving { g with msg := msg } } := by
  obtain ⟨hd, hsome, hgood⟩ := headerOf_of_no_row (b1 := b1) hrow
  rw [← hheader] at hsome
  simp only [State.headerComplete, hsome, hgood, Bool.true_eq_false, if_false]
  cases hd.kind.msgKind with
  | none => exact ⟨g.msg, rfl⟩
  | some k =>
    by_cases hrunning : s.cmd.node = .running
    · exact ⟨some s.nextMsg, by simp [hrunning]⟩
    · exact ⟨g.msg, by simp [hrunning]⟩

/-- Settles O18: a refused header fails its frame, which leaves an IDLE receiver; a good one leaves the frame open. -/
theorem headerCheck : Obligations.HeaderCheck := by
  unfold Obligations.HeaderCheck
  rintro s f b0 b1 b2 b3 hfourth _ rfl
  obtain ⟨g, cls, hfcls, hheader, hcount, hgcls, hexec⟩ := exec_dataSymbol_of_atFourthByte hfourth b3
  rw [hexec, hfcls]
  constructor
  · intro (hrow : HeaderRowApplies (some cls) (b0 &&& 0x7F).toNat b2 b3)
    have hlink := s.failFrame_link g .frame
    have hidle : (s.failFrame g .frame).link.rx = .idle := by rw [hlink]; rfl
    refine ⟨_, congrArg _ (s.headerComplete_of_row hheader hrow), hidle, ?_, ?_,
      fun b => ⟨exec_dataSymbol_of_idle hidle b, exec_badSymbol_of_idle hidle⟩, exec_closingFlag_of_idle hidle,
      exec_abortSymbol_of_idle hidle, exec_symbolSilenceLimit_of_idle hidle⟩
    · rw [hlink]
      exact saturate_one_toNat s.link.frameErrors
    · rw [State.failFrame_writer (Frame.concerns_eq_none_of_row hheader hgcls hrow), State.lineError_writer_of_frame,
        hlink]
      rfl
  · intro (hrow : ¬ HeaderRowApplies (some cls) (b0 &&& 0x7F).toNat b2 b3)
    obtain ⟨msg, hlink⟩ := s.headerComplete_link_of_no_row hheader hrow
    exact ⟨_, _, rfl, congrArg Link.rx hlink, hheader, hcount, hgcls, by rw [hlink]⟩

end Sys2Proof.Machine

/-! PROOFS. The resets (R171, R172), and the words the status registers read (R162, Table 11-9). -/

namespace Sys2Proof.Machine

/-! ### The state a reset gives -/

/-- Every block in its initial state, with the RESET input as `asserted` says: what RESET_ASSERT, RESET_RELEASE and
SOFT_RESET answer (R171, R172). -/
def State.afterReset (s : State) (asserted : Bool) : State := { s.resetBlocks with resetAsserted := asserted }

theorem exec_resetAssert_eq {s : State} (h : s.resetAsserted = false) :
    exec .resetAssert s = .next (s.afterReset true) :=
  congrArg _ (State.live_of_not_reset h _)

theorem exec_resetRelease_eq {s : State} (h : s.resetAsserted = true) :
    exec .resetRelease s = .next (s.afterReset false) :=
  congrArg _ (if_pos h)

theorem exec_softReset_of_clear {s : State} {v : Word} (hv : v.getLsbD 0 = false) :
    exec (.softReset v) s = .next s := by
  have hbit : getBit v 0 = false := hv
  have hkeep : s.writeSoftReset v = s := by simp [State.writeSoftReset, hbit]
  rcases s.live_cases fun t => t.writeSoftReset v with hlive | ⟨-, hlive⟩
  · exact congrArg _ hlive
  · exact congrArg _ (hlive.trans hkeep)

/-- The part is not held under RESET where it takes the write, nor after it. -/
theorem State.resetBlocks_eq_afterReset {s : State} (h : s.resetAsserted = false) :
    s.resetBlocks = s.afterReset false := by
  have hkeep : s.resetBlocks.resetAsserted = false := by
    change s.abandonBurst.resetAsserted = false
    unfold State.abandonBurst
    repeat' split
    all_goals exact h
  rw [State.afterReset, ← hkeep]

theorem exec_softReset_of_set {s : State} {v : Word} (h : s.resetAsserted = false) (hv : v.getLsbD 0 = true) :
    exec (.softReset v) s = .next (s.afterReset false) :=
  congrArg _ ((State.live_of_not_reset h _).trans ((if_pos hv).trans (State.resetBlocks_eq_afterReset h)))

section
variable (s : State) (asserted : Bool)

@[simp] theorem State.afterReset_resetAsserted : (s.afterReset asserted).resetAsserted = asserted := rfl
@[simp] theorem State.afterReset_host : (s.afterReset asserted).host = .reset := rfl
@[simp] theorem State.afterReset_cmd : (s.afterReset asserted).cmd = .reset := rfl
@[simp] theorem State.afterReset_link : (s.afterReset asserted).link = .reset := rfl
@[simp] theorem State.afterReset_engine : (s.afterReset asserted).engine = none := rfl
@[simp] theorem State.afterReset_cache : (s.afterReset asserted).cache = .resetOf s.cache.entries := rfl
@[simp] theorem State.afterReset_status : (s.afterReset asserted).status = Vector.replicate 64 .reset := rfl
@[simp] theorem State.afterReset_mover : (s.afterReset asserted).mover = .reset := rfl
@[simp] theorem State.afterReset_port : (s.afterReset asserted).port = .reset := rfl
@[simp] theorem State.afterReset_retire : (s.afterReset asserted).retire = .reset := rfl
@[simp] theorem State.afterReset_writer : (s.afterReset asserted).writer = .reset := rfl

@[simp] theorem State.afterReset_record (n : Channel) : (s.afterReset asserted).record n = .reset := by
  simp [State.record]

end

/-- Entry `e` after a reset (R85). -/
@[simp] theorem Cache.resetOf_entry (x : Vector Entry 16) (e : EntryIx) :
    (Cache.resetOf x).entry e = x[e.val].reset (15 - e.val) := by
  simp [Cache.entry, Cache.resetOf]

/-- A reset of a cache just reset gives the same cache. -/
theorem Cache.resetOf_resetOf (x : Vector Entry 16) : Cache.resetOf (Cache.resetOf x).entries = Cache.resetOf x := by
  simp [Cache.resetOf, Entry.reset]

/-- A second reset changes nothing but the RESET input: with no burst in flight it abandons none. -/
theorem State.afterReset_afterReset (s : State) (a b : Bool) : (s.afterReset a).afterReset b = s.afterReset b :=
  congrArg (fun c => { s.afterReset b with cache := c }) (Cache.resetOf_resetOf s.cache.entries)

/-- RESET_RELEASE after a RESET_ASSERT (R171). -/
theorem exec_resetRelease_afterReset (s : State) :
    exec .resetRelease (s.afterReset true) = .next (s.afterReset false) := by
  rw [exec_resetRelease_eq rfl, State.afterReset_afterReset]

/-- Memory keeps every byte that a write burst in flight at the reset misses (R140). -/
theorem State.readByte_afterReset (s : State) (asserted : Bool) {a : Addr}
    (h : ∀ b, s.port.inFlight = some b → b.Misses a) :
    Memory.readByte (s.afterReset asserted).mem a = Memory.readByte s.mem a := by
  change Memory.readByte s.abandonBurst.mem a = Memory.readByte s.mem a
  unfold State.abandonBurst
  split
  next b hflight =>
    split
    · rfl
    · exact Memory.readByte_writeLanded_miss _ b.data 0 s.mem (h b hflight)
  next => rfl

/-! ### The gate of the RESET input -/

/-- Every command but RESET_RELEASE acts behind the gate (R171). -/
theorem exec_eq_live {c : Instr} (hc : c ≠ .resetRelease) : ∃ f, ∀ s, exec c s = .next (s.live f) := by
  cases c with
  | resetRelease => exact absurd rfl hc
  | _ => exact ⟨_, fun _ => rfl⟩

theorem exec_of_reset {c : Instr} (hc : c ≠ .resetRelease) {s : State} (h : s.resetAsserted = true) :
    exec c s = .next s := by
  obtain ⟨f, hexec⟩ := exec_eq_live hc
  rw [hexec, State.live_of_reset h]

theorem State.readRegister_of_reset {s : State} (h : s.resetAsserted = true) (offset : Byte) :
    s.readRegister offset = 0 := if_pos h

theorem State.readRegister_of_not_reset {s : State} (h : s.resetAsserted = false) (offset : Byte) :
    s.readRegister offset = s.windowWord (offset.toNat / 4 * 4) := by
  simp [State.readRegister, h]

/-! ### The window after a reset (Table 9-6) -/

/-- No entry is counted as valid or dirty, and no channel as pinned. -/
theorem State.cacheStatusWord_afterReset (s : State) (asserted : Bool) :
    (s.afterReset asserted).cacheStatusWord = 0 := by
  have hvalid : (s.afterReset asserted).cache.validCount = 0 := by
    simp [Cache.validCount, Cache.countEntries, Entry.reset, EntryState.answers]
  have hdirty : (s.afterReset asserted).cache.dirtyCount = 0 := by
    simp [Cache.dirtyCount, Cache.countEntries, Entry.reset]
  have hpinned : (s.afterReset asserted).pinnedCount = 0 := by
    simp [State.pinnedCount, ChannelRecord.reset]
  rw [State.cacheStatusWord, hvalid, hdirty, hpinned]
  rfl

theorem State.windowWord_afterReset (s : State) (asserted : Bool) {k : Nat} (hk : k ≠ 0) :
    (s.afterReset asserted).windowWord k = 0 := by
  simp only [State.windowWord, State.afterReset_host, State.afterReset_cmd, State.afterReset_link,
    State.afterReset_mover, State.afterReset_writer, State.afterReset_record, State.cacheStatusWord_afterReset]
  split
  case h_1 => exact absurd rfl hk
  all_goals rfl

/-- No interrupt is pending or enabled after a reset. -/
theorem State.interruptLine_afterReset (s : State) (asserted : Bool) :
    (s.afterReset asserted).interruptLine = false := by
  simp [State.interruptLine, HostIf.reset]

/-- Once RESET is released IDENT reads its fixed value and every other register 0. -/
theorem State.readRegister_afterReset (s : State) (offset : Byte) :
    (s.afterReset false).readRegister offset = if offset.toNat / 4 = 0 then 0x6416A301#32 else 0 := by
  rw [State.readRegister_of_not_reset (State.afterReset_resetAsserted ..)]
  split
  · rename_i hident
    rw [hident]
    rfl
  · rename_i hother
    exact s.windowWord_afterReset false (Nat.mul_ne_zero hother (by decide))

/-- Settles O3: RESET_ASSERT answers `afterReset true`, whose gate is shut, and RESET_RELEASE then
`afterReset false`. -/
theorem resetHoldsInitialState : Obligations.ResetHoldsInitialState := by
  unfold Obligations.ResetHoldsInitialState
  intro s hlive
  refine ⟨s.afterReset true, exec_resetAssert_eq hlive, rfl, rfl, rfl, rfl, rfl, fun e => ?_, rfl, rfl,
    s.afterReset_record true, rfl, rfl, rfl, rfl, fun a hmiss => s.readByte_afterReset true hmiss,
    fun c hc => exec_of_reset hc rfl, State.readRegister_of_reset rfl, rfl, s.interruptLine_afterReset true,
    s.afterReset false, exec_resetRelease_afterReset s, rfl, s.interruptLine_afterReset false,
    s.readRegister_afterReset⟩
  simp [Entry.reset]

/-- Settles O4: both ways of resetting answer `afterReset false`. -/
theorem softResetIsAssertThenRelease : Obligations.SoftResetIsAssertThenRelease := by
  unfold Obligations.SoftResetIsAssertThenRelease
  intro s v hlive
  refine ⟨exec_softReset_of_clear, fun hset => ?_, State.readRegister_of_not_reset hlive 0x7C⟩
  refine ⟨s.afterReset true, s.afterReset false, exec_resetAssert_eq hlive, exec_resetRelease_afterReset s,
    exec_softReset_of_set hlive hset, rfl, rfl, rfl, rfl, rfl, fun e => ?_, s.afterReset_record false, rfl, rfl,
    rfl, rfl⟩
  simp [Entry.reset]

/-! ### The fields of the status registers (Table 11-9)

The rules for `++` are used on the way down (`↓`), before `simp` sums the widths that they match. -/

theorem CommandUnit.resultWord_fields (c : CommandUnit) :
    c.resultWord.getLsbD 31 = c.busy ∧ c.resultWord.extractLsb' 24 7 = 0 ∧ c.resultWord.extractLsb' 16 8 = c.operand ∧
      c.resultWord.extractLsb' 8 8 = c.code ∧ c.resultWord.extractLsb' 0 8 = c.result.code := by
  unfold CommandUnit.resultWord
  simp [↓BitVec.getLsbD_append, ↓BitVec.extractLsb'_append_eq_of_le, ↓BitVec.extractLsb'_append_eq_of_add_le]

theorem Writer.statusWord_fields (w : Writer) :
    w.statusWord.getLsbD 0 = !w.active ∧ w.statusWord.getLsbD 1 = w.showsFull ∧ w.statusWord.extractLsb' 2 6 = 0 ∧
      w.statusWord.extractLsb' 8 4 = BitVec.ofNat 4 w.queue.length ∧ w.statusWord.extractLsb' 12 20 = 0 := by
  unfold Writer.statusWord
  simp [↓BitVec.getLsbD_append, ↓BitVec.extractLsb'_append_eq_of_le, ↓BitVec.extractLsb'_append_eq_of_add_le]

theorem ChannelRecord.word_fields (x : ChannelRecord) :
    x.word.extractLsb' 0 2 = x.hold.code ∧ x.word.extractLsb' 2 2 = 0 ∧
      x.word.extractLsb' 4 2 = x.reason.code.setWidth 2 ∧ x.word.extractLsb' 6 2 = 0 ∧
      x.word.extractLsb' 8 4 = x.subCode ∧ x.word.getLsbD 12 = x.pinned ∧ x.word.getLsbD 13 = x.returned ∧
      x.word.getLsbD 14 = x.seqValid ∧ x.word.extractLsb' 15 17 = 0 := by
  unfold ChannelRecord.word
  simp [↓BitVec.getLsbD_append, ↓BitVec.extractLsb'_append_eq_of_le, ↓BitVec.extractLsb'_append_eq_of_add_le]

theorem State.cacheStatusWord_fields (s : State) :
    s.cacheStatusWord.extractLsb' 0 5 = BitVec.ofNat 5 s.cache.validCount ∧ s.cacheStatusWord.extractLsb' 5 3 = 0 ∧
      s.cacheStatusWord.extractLsb' 8 5 = BitVec.ofNat 5 s.cache.dirtyCount ∧ s.cacheStatusWord.extractLsb' 13 3 = 0 ∧
      s.cacheStatusWord.extractLsb' 16 4 = BitVec.ofNat 4 s.pinnedCount ∧ s.cacheStatusWord.extractLsb' 20 12 = 0 := by
  unfold State.cacheStatusWord
  simp [↓BitVec.extractLsb'_append_eq_of_le, ↓BitVec.extractLsb'_append_eq_of_add_le]

/-- When EQ_STATUS shows the ring full (R148, R151). -/
theorem Writer.showsFull_iff (w : Writer) :
    w.showsFull = true ↔ 4 ≤ w.eqSize.toNat ∧ w.eqSize.toNat ≤ 12 ∧ w.count = w.ringSize - 1 := by
  simp only [Writer.showsFull, Writer.full, Bool.and_eq_true, decide_eq_true_eq, and_assoc]

/-! ### The counts of CACHE_STATUS (R107) -/

/-- A field of five bits holds any count of the sixteen entries. -/
theorem Cache.countEntries_field (c : Cache) (p : EntryState → Bool) :
    (BitVec.ofNat 5 (c.countEntries p)).toNat = ((List.finRange 16).filter fun e => p (c.entry e).state).length := by
  have hfits : c.countEntries p ≤ 16 := List.length_filter_le _ entryOrder
  have horder : entryOrder = List.finRange 16 := by decide
  rw [BitVec.toNat_ofNat, Nat.mod_eq_of_lt (by omega), Cache.countEntries, horder]

/-- The status table, channel by channel. -/
theorem State.status_toList (s : State) : s.status.toList = (List.finRange 64).map s.record := by
  refine List.ext_getElem (by simp) fun i _ _ => ?_
  simp [State.record]

theorem State.pinnedCount_eq (s : State) :
    s.pinnedCount = ((List.finRange 64).filter fun n => (s.record n).pinned).length := by
  rw [State.pinnedCount, State.status_toList, List.filter_map, List.length_map]
  rfl

/-- Settles O5, register by register, each through the fields of its word. -/
theorem identAndNodeStateRead : Obligations.IdentAndNodeStateRead := by
  unfold Obligations.IdentAndNodeStateRead
  refine ⟨fun s hlive => ⟨State.readRegister_of_not_reset hlive 0x00, ?_⟩, fun s => State.readRegister_of_reset, rfl,
    fun s v hlive hset => ⟨_, exec_softReset_of_set hlive hset, s.readRegister_afterReset 0x00,
      s.readRegister_afterReset 0x04⟩,
    fun s hreset => ⟨_, exec_resetRelease_eq hreset, s.readRegister_afterReset 0x00, s.readRegister_afterReset 0x04⟩,
    fun s hlive => ?_, fun s hlive => ?_, fun s hlive => ?_, fun s hlive => ?_⟩
  · have hread : s.readRegister 0x04 = s.cmd.node.code.setWidth 32 := State.readRegister_of_not_reset hlive 0x04
    rw [hread]
    cases s.cmd.node <;> rfl
  · have hread : s.readRegister 0x0C = s.cmd.resultWord := State.readRegister_of_not_reset hlive 0x0C
    obtain ⟨hbusy, hzero, hoperand, hcode, hresult⟩ := s.cmd.resultWord_fields
    rw [hread]
    refine ⟨hbusy, hzero, hoperand, hcode, hresult.trans ?_⟩
    cases s.cmd.result <;> rfl
  · have hread : s.readRegister 0x38 = s.writer.statusWord := State.readRegister_of_not_reset hlive 0x38
    obtain ⟨hhalted, hfull, hlow, hqueue, hhigh⟩ := s.writer.statusWord_fields
    rw [hread]
    refine ⟨?_, ?_, hlow, ?_, hhigh⟩
    · rw [hhalted, Bool.not_eq_true']
    · rw [hfull]
      exact s.writer.showsFull_iff
    · rw [hqueue, BitVec.toNat_ofNat]
  · have hread : s.readRegister 0x74 = (s.record s.host.channelSelect).word :=
      State.readRegister_of_not_reset hlive 0x74
    rw [hread]
    obtain ⟨hhold, hlow, hreason, hrest⟩ := (s.record s.host.channelSelect).word_fields
    refine ⟨hhold.trans ?_, hlow, hreason.trans ?_, hrest⟩
    · cases (s.record s.host.channelSelect).hold <;> rfl
    · cases (s.record s.host.channelSelect).reason <;> rfl
  · have hread : s.readRegister 0x78 = s.cacheStatusWord := State.readRegister_of_not_reset hlive 0x78
    obtain ⟨hvalid, hlow, hdirty, hmid, hpinned, hhigh⟩ := s.cacheStatusWord_fields
    rw [hread]
    refine ⟨?_, hlow, ?_, hmid, ?_, hhigh⟩
    · rw [hvalid]
      exact (s.cache.countEntries_field _).trans
        (congrArg List.length (List.filter_congr fun e _ => by cases (s.cache.entry e).state <;> rfl))
    · rw [hdirty]
      exact (s.cache.countEntries_field _).trans
        (congrArg List.length (List.filter_congr fun e _ => by cases (s.cache.entry e).state <;> rfl))
    · rw [hpinned, BitVec.toNat_ofNat, State.pinnedCount_eq]

end Sys2Proof.Machine


/-! PROOFS. The frame of each command's operation: every field of State it leaves unchanged, whatever branch it takes. -/

namespace Sys2Proof.Machine

/-! ### Commands -/

@[simp] theorem State.startNode_frame (s : State) :
    (s.startNode).resetAsserted = s.resetAsserted ∧ (s.startNode).host = s.host ∧ (s.startNode).engine = s.engine ∧
    (s.startNode).mover = s.mover ∧ (s.startNode).port = s.port ∧ (s.startNode).retire = s.retire ∧
    (s.startNode).writer = s.writer ∧ (s.startNode).mem = s.mem ∧ (s.startNode).nextMsg = s.nextMsg ∧
    (s.startNode).free = s.free ∧ (s.startNode).pending = s.pending := by
  simp [State.startNode]

@[simp] theorem State.startCommand_frame (s : State) :
    (s.startCommand).resetAsserted = s.resetAsserted ∧ (s.startCommand).engine = s.engine ∧
    (s.startCommand).mover = s.mover ∧ (s.startCommand).port = s.port ∧ (s.startCommand).retire = s.retire ∧
    (s.startCommand).writer = s.writer ∧ (s.startCommand).mem = s.mem ∧ (s.startCommand).nextMsg = s.nextMsg ∧
    (s.startCommand).free = s.free ∧ (s.startCommand).pending = s.pending := by
  unfold State.startCommand
  repeat' split
  all_goals simp

@[simp] theorem State.stopCommand_frame (s : State) :
    (s.stopCommand).resetAsserted = s.resetAsserted ∧ (s.stopCommand).link = s.link ∧
    (s.stopCommand).engine = s.engine ∧ (s.stopCommand).cache = s.cache ∧ (s.stopCommand).status = s.status ∧
    (s.stopCommand).mover = s.mover ∧ (s.stopCommand).port = s.port ∧ (s.stopCommand).retire = s.retire ∧
    (s.stopCommand).writer = s.writer ∧ (s.stopCommand).mem = s.mem ∧ (s.stopCommand).nextMsg = s.nextMsg ∧
    (s.stopCommand).free = s.free ∧ (s.stopCommand).pending = s.pending := by
  unfold State.stopCommand
  repeat' split
  all_goals simp

@[simp] theorem State.holdChannel_frame (s : State) (n : Channel) :
    (State.holdChannel n s).resetAsserted = s.resetAsserted ∧ (State.holdChannel n s).link = s.link ∧
    (State.holdChannel n s).cache = s.cache ∧ (State.holdChannel n s).mover = s.mover ∧
    (State.holdChannel n s).port = s.port ∧ (State.holdChannel n s).retire = s.retire ∧
    (State.holdChannel n s).writer = s.writer ∧ (State.holdChannel n s).mem = s.mem ∧
    (State.holdChannel n s).nextMsg = s.nextMsg ∧ (State.holdChannel n s).free = s.free ∧
    (State.holdChannel n s).pending = s.pending := by
  unfold State.holdChannel
  repeat' split
  all_goals simp

@[simp] theorem State.refill_frame (s : State) (n : Channel) :
    (s.refill n).resetAsserted = s.resetAsserted ∧ (s.refill n).host = s.host ∧ (s.refill n).cmd = s.cmd ∧
    (s.refill n).link = s.link ∧ (s.refill n).engine = s.engine ∧ (s.refill n).status = s.status ∧
    (s.refill n).mover = s.mover ∧ (s.refill n).port = s.port ∧ (s.refill n).retire = s.retire ∧
    (s.refill n).writer = s.writer ∧ (s.refill n).mem = s.mem ∧ (s.refill n).nextMsg = s.nextMsg ∧
    (s.refill n).free = s.free ∧ (s.refill n).pending = s.pending := by
  unfold State.refill
  repeat' split
  all_goals simp

@[simp] theorem State.releaseChannel_frame (s : State) (n : Channel) :
    (State.releaseChannel n s).resetAsserted = s.resetAsserted ∧ (State.releaseChannel n s).link = s.link ∧
    (State.releaseChannel n s).engine = s.engine ∧ (State.releaseChannel n s).mover = s.mover ∧
    (State.releaseChannel n s).port = s.port ∧ (State.releaseChannel n s).retire = s.retire ∧
    (State.releaseChannel n s).writer = s.writer ∧ (State.releaseChannel n s).mem = s.mem ∧
    (State.releaseChannel n s).nextMsg = s.nextMsg ∧ (State.releaseChannel n s).free = s.free ∧
    (State.releaseChannel n s).pending = s.pending := by
  unfold State.releaseChannel
  repeat' split
  all_goals simp

@[simp] theorem State.returnChannel_frame (s : State) (n : Channel) :
    (State.returnChannel n s).resetAsserted = s.resetAsserted ∧ (State.returnChannel n s).link = s.link ∧
    (State.returnChannel n s).engine = s.engine ∧ (State.returnChannel n s).cache = s.cache ∧
    (State.returnChannel n s).mover = s.mover ∧ (State.returnChannel n s).port = s.port ∧
    (State.returnChannel n s).retire = s.retire ∧ (State.returnChannel n s).writer = s.writer ∧
    (State.returnChannel n s).mem = s.mem ∧ (State.returnChannel n s).nextMsg = s.nextMsg ∧
    (State.returnChannel n s).free = s.free ∧ (State.returnChannel n s).pending = s.pending := by
  unfold State.returnChannel
  repeat' split
  all_goals simp

@[simp] theorem State.pinChannel_frame (s : State) (n : Channel) :
    (State.pinChannel n s).resetAsserted = s.resetAsserted ∧ (State.pinChannel n s).link = s.link ∧
    (State.pinChannel n s).engine = s.engine ∧ (State.pinChannel n s).mover = s.mover ∧
    (State.pinChannel n s).port = s.port ∧ (State.pinChannel n s).retire = s.retire ∧
    (State.pinChannel n s).writer = s.writer ∧ (State.pinChannel n s).mem = s.mem ∧
    (State.pinChannel n s).nextMsg = s.nextMsg ∧ (State.pinChannel n s).free = s.free ∧
    (State.pinChannel n s).pending = s.pending := by
  unfold State.pinChannel
  repeat' split
  all_goals simp

@[simp] theorem State.unpinChannel_frame (s : State) (n : Channel) :
    (State.unpinChannel n s).resetAsserted = s.resetAsserted ∧ (State.unpinChannel n s).link = s.link ∧
    (State.unpinChannel n s).engine = s.engine ∧ (State.unpinChannel n s).cache = s.cache ∧
    (State.unpinChannel n s).mover = s.mover ∧ (State.unpinChannel n s).port = s.port ∧
    (State.unpinChannel n s).retire = s.retire ∧ (State.unpinChannel n s).writer = s.writer ∧
    (State.unpinChannel n s).mem = s.mem ∧ (State.unpinChannel n s).nextMsg = s.nextMsg ∧
    (State.unpinChannel n s).free = s.free ∧ (State.unpinChannel n s).pending = s.pending := by
  unfold State.unpinChannel
  repeat' split
  all_goals simp

@[simp] theorem State.flushWith_frame (s : State) (j : CastJob) (f : Bool) :
    (s.flushWith j f).resetAsserted = s.resetAsserted ∧ (s.flushWith j f).link = s.link ∧
    (s.flushWith j f).engine = s.engine ∧ (s.flushWith j f).cache = s.cache ∧ (s.flushWith j f).status = s.status ∧
    (s.flushWith j f).mover = s.mover ∧ (s.flushWith j f).port = s.port ∧ (s.flushWith j f).retire = s.retire ∧
    (s.flushWith j f).writer = s.writer ∧ (s.flushWith j f).mem = s.mem ∧ (s.flushWith j f).nextMsg = s.nextMsg ∧
    (s.flushWith j f).free = s.free ∧ (s.flushWith j f).pending = s.pending := by
  unfold State.flushWith
  repeat' split
  all_goals simp

@[simp] theorem State.purgeWith_frame (s : State) (j k : CastJob) (f : Bool) :
    (s.purgeWith j k f).resetAsserted = s.resetAsserted ∧ (s.purgeWith j k f).link = s.link ∧
    (s.purgeWith j k f).engine = s.engine ∧ (s.purgeWith j k f).cache = s.cache ∧
    (s.purgeWith j k f).status = s.status ∧ (s.purgeWith j k f).mover = s.mover ∧ (s.purgeWith j k f).port = s.port ∧
    (s.purgeWith j k f).retire = s.retire ∧ (s.purgeWith j k f).writer = s.writer ∧ (s.purgeWith j k f).mem = s.mem ∧
    (s.purgeWith j k f).nextMsg = s.nextMsg ∧ (s.purgeWith j k f).free = s.free ∧
    (s.purgeWith j k f).pending = s.pending := by
  unfold State.purgeWith
  repeat' split
  all_goals simp

@[simp] theorem State.flushCommand_frame (s : State) :
    (s.flushCommand).resetAsserted = s.resetAsserted ∧ (s.flushCommand).link = s.link ∧
    (s.flushCommand).engine = s.engine ∧ (s.flushCommand).cache = s.cache ∧ (s.flushCommand).status = s.status ∧
    (s.flushCommand).mover = s.mover ∧ (s.flushCommand).port = s.port ∧ (s.flushCommand).retire = s.retire ∧
    (s.flushCommand).writer = s.writer ∧ (s.flushCommand).mem = s.mem ∧ (s.flushCommand).nextMsg = s.nextMsg ∧
    (s.flushCommand).free = s.free ∧ (s.flushCommand).pending = s.pending := by
  unfold State.flushCommand
  repeat' split
  all_goals simp

@[simp] theorem State.purgeCommand_frame (s : State) :
    (s.purgeCommand).resetAsserted = s.resetAsserted ∧ (s.purgeCommand).link = s.link ∧
    (s.purgeCommand).engine = s.engine ∧ (s.purgeCommand).cache = s.cache ∧ (s.purgeCommand).status = s.status ∧
    (s.purgeCommand).mover = s.mover ∧ (s.purgeCommand).port = s.port ∧ (s.purgeCommand).retire = s.retire ∧
    (s.purgeCommand).writer = s.writer ∧ (s.purgeCommand).mem = s.mem ∧ (s.purgeCommand).nextMsg = s.nextMsg ∧
    (s.purgeCommand).free = s.free ∧ (s.purgeCommand).pending = s.pending := by
  unfold State.purgeCommand
  repeat' split
  all_goals simp

@[simp] theorem State.resumeCommand_frame (s : State) :
    (s.resumeCommand).resetAsserted = s.resetAsserted ∧ (s.resumeCommand).link = s.link ∧
    (s.resumeCommand).engine = s.engine ∧ (s.resumeCommand).cache = s.cache ∧ (s.resumeCommand).status = s.status ∧
    (s.resumeCommand).mover = s.mover ∧ (s.resumeCommand).retire = s.retire ∧ (s.resumeCommand).mem = s.mem ∧
    (s.resumeCommand).nextMsg = s.nextMsg ∧ (s.resumeCommand).free = s.free ∧
    (s.resumeCommand).pending = s.pending := by
  unfold State.resumeCommand
  repeat' split
  all_goals simp

@[simp] theorem State.writeStart_frame (s : State) (op : Byte) :
    (s.writeStart op).resetAsserted = s.resetAsserted ∧ (s.writeStart op).engine = s.engine ∧
    (s.writeStart op).mover = s.mover ∧ (s.writeStart op).port = s.port ∧ (s.writeStart op).retire = s.retire ∧
    (s.writeStart op).writer = s.writer ∧ (s.writeStart op).mem = s.mem ∧ (s.writeStart op).nextMsg = s.nextMsg ∧
    (s.writeStart op).free = s.free ∧ (s.writeStart op).pending = s.pending := by
  unfold State.writeStart State.takeCommand
  repeat' split
  all_goals simp

@[simp] theorem State.writeStop_frame (s : State) (op : Byte) :
    (s.writeStop op).resetAsserted = s.resetAsserted ∧ (s.writeStop op).link = s.link ∧
    (s.writeStop op).engine = s.engine ∧ (s.writeStop op).cache = s.cache ∧ (s.writeStop op).status = s.status ∧
    (s.writeStop op).mover = s.mover ∧ (s.writeStop op).port = s.port ∧ (s.writeStop op).retire = s.retire ∧
    (s.writeStop op).writer = s.writer ∧ (s.writeStop op).mem = s.mem ∧ (s.writeStop op).nextMsg = s.nextMsg ∧
    (s.writeStop op).free = s.free ∧ (s.writeStop op).pending = s.pending := by
  unfold State.writeStop State.takeCommand
  repeat' split
  all_goals simp

@[simp] theorem State.writeHold_frame (s : State) (op : Byte) :
    (s.writeHold op).resetAsserted = s.resetAsserted ∧ (s.writeHold op).link = s.link ∧
    (s.writeHold op).cache = s.cache ∧ (s.writeHold op).mover = s.mover ∧ (s.writeHold op).port = s.port ∧
    (s.writeHold op).retire = s.retire ∧ (s.writeHold op).writer = s.writer ∧ (s.writeHold op).mem = s.mem ∧
    (s.writeHold op).nextMsg = s.nextMsg ∧ (s.writeHold op).free = s.free ∧
    (s.writeHold op).pending = s.pending := by
  unfold State.writeHold State.takeCommand State.channelCommand
  dsimp only
  repeat' split
  all_goals simp

@[simp] theorem State.writeRelease_frame (s : State) (op : Byte) :
    (s.writeRelease op).resetAsserted = s.resetAsserted ∧ (s.writeRelease op).link = s.link ∧
    (s.writeRelease op).engine = s.engine ∧ (s.writeRelease op).mover = s.mover ∧ (s.writeRelease op).port = s.port ∧
    (s.writeRelease op).retire = s.retire ∧ (s.writeRelease op).writer = s.writer ∧ (s.writeRelease op).mem = s.mem ∧
    (s.writeRelease op).nextMsg = s.nextMsg ∧ (s.writeRelease op).free = s.free ∧
    (s.writeRelease op).pending = s.pending := by
  unfold State.writeRelease State.takeCommand State.channelCommand
  dsimp only
  repeat' split
  all_goals simp

@[simp] theorem State.writeReturn_frame (s : State) (op : Byte) :
    (s.writeReturn op).resetAsserted = s.resetAsserted ∧ (s.writeReturn op).link = s.link ∧
    (s.writeReturn op).engine = s.engine ∧ (s.writeReturn op).cache = s.cache ∧ (s.writeReturn op).mover = s.mover ∧
    (s.writeReturn op).port = s.port ∧ (s.writeReturn op).retire = s.retire ∧ (s.writeReturn op).writer = s.writer ∧
    (s.writeReturn op).mem = s.mem ∧ (s.writeReturn op).nextMsg = s.nextMsg ∧ (s.writeReturn op).free = s.free ∧
    (s.writeReturn op).pending = s.pending := by
  unfold State.writeReturn State.takeCommand State.channelCommand
  dsimp only
  repeat' split
  all_goals simp

@[simp] theorem State.writePin_frame (s : State) (op : Byte) :
    (s.writePin op).resetAsserted = s.resetAsserted ∧ (s.writePin op).link = s.link ∧
    (s.writePin op).engine = s.engine ∧ (s.writePin op).mover = s.mover ∧ (s.writePin op).port = s.port ∧
    (s.writePin op).retire = s.retire ∧ (s.writePin op).writer = s.writer ∧ (s.writePin op).mem = s.mem ∧
    (s.writePin op).nextMsg = s.nextMsg ∧ (s.writePin op).free = s.free ∧ (s.writePin op).pending = s.pending := by
  unfold State.writePin State.takeCommand State.channelCommand
  dsimp only
  repeat' split
  all_goals simp

@[simp] theorem State.writeUnpin_frame (s : State) (op : Byte) :
    (s.writeUnpin op).resetAsserted = s.resetAsserted ∧ (s.writeUnpin op).link = s.link ∧
    (s.writeUnpin op).engine = s.engine ∧ (s.writeUnpin op).cache = s.cache ∧ (s.writeUnpin op).mover = s.mover ∧
    (s.writeUnpin op).port = s.port ∧ (s.writeUnpin op).retire = s.retire ∧ (s.writeUnpin op).writer = s.writer ∧
    (s.writeUnpin op).mem = s.mem ∧ (s.writeUnpin op).nextMsg = s.nextMsg ∧ (s.writeUnpin op).free = s.free ∧
    (s.writeUnpin op).pending = s.pending := by
  unfold State.writeUnpin State.takeCommand State.channelCommand
  dsimp only
  repeat' split
  all_goals simp

@[simp] theorem State.writeFlush_frame (s : State) (op : Byte) :
    (s.writeFlush op).resetAsserted = s.resetAsserted ∧ (s.writeFlush op).link = s.link ∧
    (s.writeFlush op).engine = s.engine ∧ (s.writeFlush op).cache = s.cache ∧ (s.writeFlush op).status = s.status ∧
    (s.writeFlush op).mover = s.mover ∧ (s.writeFlush op).port = s.port ∧ (s.writeFlush op).retire = s.retire ∧
    (s.writeFlush op).writer = s.writer ∧ (s.writeFlush op).mem = s.mem ∧ (s.writeFlush op).nextMsg = s.nextMsg ∧
    (s.writeFlush op).free = s.free ∧ (s.writeFlush op).pending = s.pending := by
  unfold State.writeFlush State.takeCommand
  repeat' split
  all_goals simp

@[simp] theorem State.writePurge_frame (s : State) (op : Byte) :
    (s.writePurge op).resetAsserted = s.resetAsserted ∧ (s.writePurge op).link = s.link ∧
    (s.writePurge op).engine = s.engine ∧ (s.writePurge op).cache = s.cache ∧ (s.writePurge op).status = s.status ∧
    (s.writePurge op).mover = s.mover ∧ (s.writePurge op).port = s.port ∧ (s.writePurge op).retire = s.retire ∧
    (s.writePurge op).writer = s.writer ∧ (s.writePurge op).mem = s.mem ∧ (s.writePurge op).nextMsg = s.nextMsg ∧
    (s.writePurge op).free = s.free ∧ (s.writePurge op).pending = s.pending := by
  unfold State.writePurge State.takeCommand
  repeat' split
  all_goals simp

@[simp] theorem State.writeResume_frame (s : State) (op : Byte) :
    (s.writeResume op).resetAsserted = s.resetAsserted ∧ (s.writeResume op).link = s.link ∧
    (s.writeResume op).engine = s.engine ∧ (s.writeResume op).cache = s.cache ∧
    (s.writeResume op).status = s.status ∧ (s.writeResume op).mover = s.mover ∧
    (s.writeResume op).retire = s.retire ∧ (s.writeResume op).mem = s.mem ∧ (s.writeResume op).nextMsg = s.nextMsg ∧
    (s.writeResume op).free = s.free ∧ (s.writeResume op).pending = s.pending := by
  unfold State.writeResume State.takeCommand
  repeat' split
  all_goals simp

/-! ### The register window -/

@[simp] theorem State.writeIntPending_frame (s : State) (v : Word) :
    (s.writeIntPending v).resetAsserted = s.resetAsserted ∧ (s.writeIntPending v).cmd = s.cmd ∧
    (s.writeIntPending v).link = s.link ∧ (s.writeIntPending v).engine = s.engine ∧
    (s.writeIntPending v).cache = s.cache ∧ (s.writeIntPending v).status = s.status ∧
    (s.writeIntPending v).mover = s.mover ∧ (s.writeIntPending v).port = s.port ∧
    (s.writeIntPending v).retire = s.retire ∧ (s.writeIntPending v).writer = s.writer ∧
    (s.writeIntPending v).mem = s.mem ∧ (s.writeIntPending v).nextMsg = s.nextMsg ∧
    (s.writeIntPending v).free = s.free ∧ (s.writeIntPending v).pending = s.pending := by
  simp [State.writeIntPending]

@[simp] theorem State.writeIntMask_frame (s : State) (v : Word) :
    (s.writeIntMask v).resetAsserted = s.resetAsserted ∧ (s.writeIntMask v).cmd = s.cmd ∧
    (s.writeIntMask v).link = s.link ∧ (s.writeIntMask v).engine = s.engine ∧ (s.writeIntMask v).cache = s.cache ∧
    (s.writeIntMask v).status = s.status ∧ (s.writeIntMask v).mover = s.mover ∧ (s.writeIntMask v).port = s.port ∧
    (s.writeIntMask v).retire = s.retire ∧ (s.writeIntMask v).writer = s.writer ∧ (s.writeIntMask v).mem = s.mem ∧
    (s.writeIntMask v).nextMsg = s.nextMsg ∧ (s.writeIntMask v).free = s.free ∧
    (s.writeIntMask v).pending = s.pending := by
  simp [State.writeIntMask]

@[simp] theorem State.writeSticky_frame (s : State) (v : Word) :
    (s.writeSticky v).resetAsserted = s.resetAsserted ∧ (s.writeSticky v).cmd = s.cmd ∧
    (s.writeSticky v).link = s.link ∧ (s.writeSticky v).engine = s.engine ∧ (s.writeSticky v).cache = s.cache ∧
    (s.writeSticky v).status = s.status ∧ (s.writeSticky v).mover = s.mover ∧ (s.writeSticky v).port = s.port ∧
    (s.writeSticky v).retire = s.retire ∧ (s.writeSticky v).writer = s.writer ∧ (s.writeSticky v).mem = s.mem ∧
    (s.writeSticky v).nextMsg = s.nextMsg ∧ (s.writeSticky v).free = s.free ∧
    (s.writeSticky v).pending = s.pending := by
  simp [State.writeSticky]

@[simp] theorem State.setConfig_frame (s : State) (reg : ConfigReg) (v : Word) :
    (s.setConfig reg v).resetAsserted = s.resetAsserted ∧ (s.setConfig reg v).cmd = s.cmd ∧
    (s.setConfig reg v).link = s.link ∧ (s.setConfig reg v).engine = s.engine ∧ (s.setConfig reg v).cache = s.cache ∧
    (s.setConfig reg v).status = s.status ∧ (s.setConfig reg v).port = s.port ∧
    (s.setConfig reg v).retire = s.retire ∧ (s.setConfig reg v).writer = s.writer ∧ (s.setConfig reg v).mem = s.mem ∧
    (s.setConfig reg v).nextMsg = s.nextMsg ∧ (s.setConfig reg v).free = s.free ∧
    (s.setConfig reg v).pending = s.pending := by
  unfold State.setConfig
  repeat' split
  all_goals simp

@[simp] theorem State.writeConfig_frame (s : State) (reg : ConfigReg) (v : Word) :
    (s.writeConfig reg v).resetAsserted = s.resetAsserted ∧ (s.writeConfig reg v).cmd = s.cmd ∧
    (s.writeConfig reg v).link = s.link ∧ (s.writeConfig reg v).engine = s.engine ∧
    (s.writeConfig reg v).cache = s.cache ∧ (s.writeConfig reg v).status = s.status ∧
    (s.writeConfig reg v).port = s.port ∧ (s.writeConfig reg v).retire = s.retire ∧
    (s.writeConfig reg v).writer = s.writer ∧ (s.writeConfig reg v).mem = s.mem ∧
    (s.writeConfig reg v).nextMsg = s.nextMsg ∧ (s.writeConfig reg v).free = s.free ∧
    (s.writeConfig reg v).pending = s.pending := by
  unfold State.writeConfig State.configured
  repeat' split
  all_goals simp

@[simp] theorem State.writeEqBase_frame (s : State) (v : Word) :
    (s.writeEqBase v).resetAsserted = s.resetAsserted ∧ (s.writeEqBase v).cmd = s.cmd ∧
    (s.writeEqBase v).link = s.link ∧ (s.writeEqBase v).engine = s.engine ∧ (s.writeEqBase v).cache = s.cache ∧
    (s.writeEqBase v).status = s.status ∧ (s.writeEqBase v).mover = s.mover ∧ (s.writeEqBase v).port = s.port ∧
    (s.writeEqBase v).retire = s.retire ∧ (s.writeEqBase v).mem = s.mem ∧ (s.writeEqBase v).nextMsg = s.nextMsg ∧
    (s.writeEqBase v).free = s.free ∧ (s.writeEqBase v).pending = s.pending := by
  unfold State.writeEqBase State.configured
  repeat' split
  all_goals simp

@[simp] theorem State.writeEqSize_frame (s : State) (v : Word) :
    (s.writeEqSize v).resetAsserted = s.resetAsserted ∧ (s.writeEqSize v).cmd = s.cmd ∧
    (s.writeEqSize v).link = s.link ∧ (s.writeEqSize v).engine = s.engine ∧ (s.writeEqSize v).cache = s.cache ∧
    (s.writeEqSize v).status = s.status ∧ (s.writeEqSize v).mover = s.mover ∧ (s.writeEqSize v).port = s.port ∧
    (s.writeEqSize v).retire = s.retire ∧ (s.writeEqSize v).mem = s.mem ∧ (s.writeEqSize v).nextMsg = s.nextMsg ∧
    (s.writeEqSize v).free = s.free ∧ (s.writeEqSize v).pending = s.pending := by
  unfold State.writeEqSize State.configured
  repeat' split
  all_goals simp

@[simp] theorem State.writeGlobalEnables_frame (s : State) (v : Word) :
    (s.writeGlobalEnables v).resetAsserted = s.resetAsserted ∧ (s.writeGlobalEnables v).cmd = s.cmd ∧
    (s.writeGlobalEnables v).link = s.link ∧ (s.writeGlobalEnables v).engine = s.engine ∧
    (s.writeGlobalEnables v).cache = s.cache ∧ (s.writeGlobalEnables v).status = s.status ∧
    (s.writeGlobalEnables v).mover = s.mover ∧ (s.writeGlobalEnables v).port = s.port ∧
    (s.writeGlobalEnables v).retire = s.retire ∧ (s.writeGlobalEnables v).writer = s.writer ∧
    (s.writeGlobalEnables v).mem = s.mem ∧ (s.writeGlobalEnables v).nextMsg = s.nextMsg ∧
    (s.writeGlobalEnables v).free = s.free ∧ (s.writeGlobalEnables v).pending = s.pending := by
  unfold State.writeGlobalEnables
  repeat' split
  all_goals simp

@[simp] theorem State.writeEqConsumer_frame (s : State) (v : Word) :
    (s.writeEqConsumer v).resetAsserted = s.resetAsserted ∧ (s.writeEqConsumer v).cmd = s.cmd ∧
    (s.writeEqConsumer v).link = s.link ∧ (s.writeEqConsumer v).engine = s.engine ∧
    (s.writeEqConsumer v).cache = s.cache ∧ (s.writeEqConsumer v).status = s.status ∧
    (s.writeEqConsumer v).mover = s.mover ∧ (s.writeEqConsumer v).retire = s.retire ∧
    (s.writeEqConsumer v).mem = s.mem ∧ (s.writeEqConsumer v).nextMsg = s.nextMsg ∧
    (s.writeEqConsumer v).free = s.free ∧ (s.writeEqConsumer v).pending = s.pending := by
  simp [State.writeEqConsumer]

@[simp] theorem State.writeLinkErrors_frame (s : State) (v : Word) :
    (s.writeLinkErrors v).resetAsserted = s.resetAsserted ∧ (s.writeLinkErrors v).host = s.host ∧
    (s.writeLinkErrors v).cmd = s.cmd ∧ (s.writeLinkErrors v).engine = s.engine ∧
    (s.writeLinkErrors v).cache = s.cache ∧ (s.writeLinkErrors v).status = s.status ∧
    (s.writeLinkErrors v).mover = s.mover ∧ (s.writeLinkErrors v).port = s.port ∧
    (s.writeLinkErrors v).retire = s.retire ∧ (s.writeLinkErrors v).writer = s.writer ∧
    (s.writeLinkErrors v).mem = s.mem ∧ (s.writeLinkErrors v).nextMsg = s.nextMsg ∧
    (s.writeLinkErrors v).free = s.free ∧ (s.writeLinkErrors v).pending = s.pending := by
  simp [State.writeLinkErrors]

@[simp] theorem State.writeChannelSelect_frame (s : State) (v : Word) :
    (s.writeChannelSelect v).resetAsserted = s.resetAsserted ∧ (s.writeChannelSelect v).cmd = s.cmd ∧
    (s.writeChannelSelect v).link = s.link ∧ (s.writeChannelSelect v).engine = s.engine ∧
    (s.writeChannelSelect v).cache = s.cache ∧ (s.writeChannelSelect v).status = s.status ∧
    (s.writeChannelSelect v).mover = s.mover ∧ (s.writeChannelSelect v).port = s.port ∧
    (s.writeChannelSelect v).retire = s.retire ∧ (s.writeChannelSelect v).writer = s.writer ∧
    (s.writeChannelSelect v).mem = s.mem ∧ (s.writeChannelSelect v).nextMsg = s.nextMsg ∧
    (s.writeChannelSelect v).free = s.free ∧ (s.writeChannelSelect v).pending = s.pending := by
  simp [State.writeChannelSelect]

/-! ### The line -/

@[simp] theorem State.takeOpening_frame (s : State) :
    (s.takeOpening).resetAsserted = s.resetAsserted ∧ (s.takeOpening).host = s.host ∧ (s.takeOpening).cmd = s.cmd ∧
    (s.takeOpening).status = s.status ∧ (s.takeOpening).retire = s.retire ∧ (s.takeOpening).mem = s.mem ∧
    (s.takeOpening).nextMsg = s.nextMsg ∧ (s.takeOpening).free = s.free ∧ (s.takeOpening).pending = s.pending := by
  unfold State.takeOpening
  repeat' split
  all_goals simp

@[simp] theorem State.takeData_frame (s : State) (b : Byte) :
    (s.takeData b).resetAsserted = s.resetAsserted ∧ (s.takeData b).host = s.host ∧ (s.takeData b).cmd = s.cmd ∧
    (s.takeData b).retire = s.retire ∧ (s.takeData b).mem = s.mem ∧ (s.takeData b).free = s.free ∧
    (s.takeData b).pending = s.pending := by
  unfold State.takeData
  repeat' split
  all_goals simp

@[simp] theorem State.takeClosing_frame (s : State) :
    (s.takeClosing).resetAsserted = s.resetAsserted ∧ (s.takeClosing).host = s.host ∧ (s.takeClosing).cmd = s.cmd ∧
    (s.takeClosing).retire = s.retire ∧ (s.takeClosing).mem = s.mem ∧ (s.takeClosing).nextMsg = s.nextMsg ∧
    (s.takeClosing).free = s.free ∧ (s.takeClosing).pending = s.pending := by
  unfold State.takeClosing
  repeat' split
  all_goals simp

@[simp] theorem State.takeAbort_frame (s : State) :
    (s.takeAbort).resetAsserted = s.resetAsserted ∧ (s.takeAbort).host = s.host ∧ (s.takeAbort).cmd = s.cmd ∧
    (s.takeAbort).status = s.status ∧ (s.takeAbort).retire = s.retire ∧ (s.takeAbort).mem = s.mem ∧
    (s.takeAbort).nextMsg = s.nextMsg ∧ (s.takeAbort).free = s.free ∧ (s.takeAbort).pending = s.pending := by
  unfold State.takeAbort
  repeat' split
  all_goals simp

@[simp] theorem State.takeBad_frame (s : State) :
    (s.takeBad).resetAsserted = s.resetAsserted ∧ (s.takeBad).host = s.host ∧ (s.takeBad).cmd = s.cmd ∧
    (s.takeBad).status = s.status ∧ (s.takeBad).retire = s.retire ∧ (s.takeBad).mem = s.mem ∧
    (s.takeBad).nextMsg = s.nextMsg ∧ (s.takeBad).free = s.free ∧ (s.takeBad).pending = s.pending := by
  unfold State.takeBad
  repeat' split
  all_goals simp

/-! ### Replies -/

@[simp] theorem State.declareReady_frame (s : State) :
    (s.declareReady).resetAsserted = s.resetAsserted ∧ (s.declareReady).host = s.host ∧
    (s.declareReady).cmd = s.cmd ∧ (s.declareReady).link = s.link ∧ (s.declareReady).cache = s.cache ∧
    (s.declareReady).status = s.status ∧ (s.declareReady).mover = s.mover ∧ (s.declareReady).port = s.port ∧
    (s.declareReady).retire = s.retire ∧ (s.declareReady).writer = s.writer ∧ (s.declareReady).mem = s.mem ∧
    (s.declareReady).nextMsg = s.nextMsg ∧ (s.declareReady).free = s.free ∧
    (s.declareReady).pending = s.pending := by
  unfold State.declareReady
  repeat' split
  all_goals simp

@[simp] theorem State.commitBroadcast_frame (s : State) :
    (s.commitBroadcast).resetAsserted = s.resetAsserted ∧ (s.commitBroadcast).host = s.host ∧
    (s.commitBroadcast).cmd = s.cmd ∧ (s.commitBroadcast).link = s.link ∧ (s.commitBroadcast).mover = s.mover ∧
    (s.commitBroadcast).port = s.port ∧ (s.commitBroadcast).writer = s.writer ∧ (s.commitBroadcast).mem = s.mem ∧
    (s.commitBroadcast).nextMsg = s.nextMsg ∧ (s.commitBroadcast).free = s.free ∧
    (s.commitBroadcast).pending = s.pending := by
  unfold State.commitBroadcast
  repeat' split
  all_goals simp

@[simp] theorem State.startReply_frame (s : State) :
    (s.startReply).resetAsserted = s.resetAsserted ∧ (s.startReply).host = s.host ∧ (s.startReply).cmd = s.cmd ∧
    (s.startReply).mem = s.mem ∧ (s.startReply).nextMsg = s.nextMsg ∧ (s.startReply).free = s.free ∧
    (s.startReply).pending = s.pending := by
  unfold State.startReply
  repeat' split
  all_goals simp

@[simp] theorem State.reachEarliest_frame (s : State) :
    (s.reachEarliest).resetAsserted = s.resetAsserted ∧ (s.reachEarliest).host = s.host ∧
    (s.reachEarliest).cmd = s.cmd ∧ (s.reachEarliest).engine = s.engine ∧ (s.reachEarliest).cache = s.cache ∧
    (s.reachEarliest).status = s.status ∧ (s.reachEarliest).mover = s.mover ∧ (s.reachEarliest).port = s.port ∧
    (s.reachEarliest).retire = s.retire ∧ (s.reachEarliest).writer = s.writer ∧ (s.reachEarliest).mem = s.mem ∧
    (s.reachEarliest).nextMsg = s.nextMsg ∧ (s.reachEarliest).free = s.free ∧
    (s.reachEarliest).pending = s.pending := by
  unfold State.reachEarliest
  repeat' split
  all_goals simp

@[simp] theorem State.expire_frame (s : State) :
    (s.expire).resetAsserted = s.resetAsserted ∧ (s.expire).host = s.host ∧ (s.expire).cmd = s.cmd ∧
    (s.expire).status = s.status ∧ (s.expire).retire = s.retire ∧ (s.expire).writer = s.writer ∧
    (s.expire).mem = s.mem ∧ (s.expire).nextMsg = s.nextMsg ∧ (s.expire).free = s.free ∧
    (s.expire).pending = s.pending := by
  unfold State.expire
  repeat' split
  all_goals simp

@[simp] theorem State.transmitDue_frame (s : State) :
    (s.transmitDue).resetAsserted = s.resetAsserted ∧ (s.transmitDue).host = s.host ∧ (s.transmitDue).cmd = s.cmd ∧
    (s.transmitDue).status = s.status ∧ (s.transmitDue).mem = s.mem ∧ (s.transmitDue).nextMsg = s.nextMsg ∧
    (s.transmitDue).free = s.free ∧ (s.transmitDue).pending = s.pending := by
  unfold State.transmitDue
  repeat' split
  all_goals simp

@[simp] theorem State.endReply_frame (s : State) :
    (s.endReply).resetAsserted = s.resetAsserted ∧ (s.endReply).host = s.host ∧ (s.endReply).cmd = s.cmd ∧
    (s.endReply).writer = s.writer ∧ (s.endReply).mem = s.mem ∧ (s.endReply).nextMsg = s.nextMsg ∧
    (s.endReply).pending = s.pending := by
  unfold State.endReply
  repeat' split
  all_goals simp

@[simp] theorem State.endRecovery_frame (s : State) :
    (s.endRecovery).resetAsserted = s.resetAsserted ∧ (s.endRecovery).host = s.host ∧ (s.endRecovery).cmd = s.cmd ∧
    (s.endRecovery).engine = s.engine ∧ (s.endRecovery).cache = s.cache ∧ (s.endRecovery).status = s.status ∧
    (s.endRecovery).mover = s.mover ∧ (s.endRecovery).port = s.port ∧ (s.endRecovery).retire = s.retire ∧
    (s.endRecovery).writer = s.writer ∧ (s.endRecovery).mem = s.mem ∧ (s.endRecovery).nextMsg = s.nextMsg ∧
    (s.endRecovery).free = s.free ∧ (s.endRecovery).pending = s.pending := by
  unfold State.endRecovery
  repeat' split
  all_goals simp

@[simp] theorem State.tickOffset_frame (s : State) :
    (s.tickOffset).resetAsserted = s.resetAsserted ∧ (s.tickOffset).host = s.host ∧ (s.tickOffset).cmd = s.cmd ∧
    (s.tickOffset).engine = s.engine ∧ (s.tickOffset).cache = s.cache ∧ (s.tickOffset).status = s.status ∧
    (s.tickOffset).mover = s.mover ∧ (s.tickOffset).port = s.port ∧ (s.tickOffset).retire = s.retire ∧
    (s.tickOffset).writer = s.writer ∧ (s.tickOffset).mem = s.mem ∧ (s.tickOffset).nextMsg = s.nextMsg ∧
    (s.tickOffset).free = s.free ∧ (s.tickOffset).pending = s.pending := by
  unfold State.tickOffset
  repeat' split
  all_goals simp

/-! ### Bursts -/

@[simp] theorem State.takeFill_frame (s : State) :
    (s.takeFill).resetAsserted = s.resetAsserted ∧ (s.takeFill).host = s.host ∧ (s.takeFill).link = s.link ∧
    (s.takeFill).engine = s.engine ∧ (s.takeFill).status = s.status ∧ (s.takeFill).mover = s.mover ∧
    (s.takeFill).retire = s.retire ∧ (s.takeFill).writer = s.writer ∧ (s.takeFill).mem = s.mem ∧
    (s.takeFill).nextMsg = s.nextMsg ∧ (s.takeFill).free = s.free ∧ (s.takeFill).pending = s.pending := by
  unfold State.takeFill
  repeat' split
  all_goals simp

@[simp] theorem State.grant_frame (s : State) :
    (s.grant).resetAsserted = s.resetAsserted ∧ (s.grant).host = s.host ∧ (s.grant).cmd = s.cmd ∧
    (s.grant).link = s.link ∧ (s.grant).engine = s.engine ∧ (s.grant).cache = s.cache ∧ (s.grant).status = s.status ∧
    (s.grant).mover = s.mover ∧ (s.grant).retire = s.retire ∧ (s.grant).writer = s.writer ∧ (s.grant).mem = s.mem ∧
    (s.grant).nextMsg = s.nextMsg ∧ (s.grant).free = s.free ∧ (s.grant).pending = s.pending := by
  unfold State.grant
  repeat' split
  all_goals simp

@[simp] theorem State.endLinefill_frame (s : State) (r : ReadEnd) :
    (s.endLinefill r).resetAsserted = s.resetAsserted ∧ (s.endLinefill r).host = s.host ∧
    (s.endLinefill r).link = s.link ∧ (s.endLinefill r).retire = s.retire ∧ (s.endLinefill r).nextMsg = s.nextMsg ∧
    (s.endLinefill r).free = s.free ∧ (s.endLinefill r).pending = s.pending := by
  unfold State.endLinefill
  repeat' split
  all_goals simp

@[simp] theorem State.endEviction_frame (s : State) (r : WriteEnd) :
    (s.endEviction r).resetAsserted = s.resetAsserted ∧ (s.endEviction r).host = s.host ∧
    (s.endEviction r).link = s.link ∧ (s.endEviction r).nextMsg = s.nextMsg ∧
    (s.endEviction r).pending = s.pending := by
  unfold State.endEviction
  repeat' split
  all_goals simp

@[simp] theorem State.endInvalidation_frame (s : State) (r : WriteEnd) :
    (s.endInvalidation r).resetAsserted = s.resetAsserted ∧ (s.endInvalidation r).host = s.host ∧
    (s.endInvalidation r).link = s.link ∧ (s.endInvalidation r).nextMsg = s.nextMsg ∧
    (s.endInvalidation r).pending = s.pending := by
  unfold State.endInvalidation
  repeat' split
  all_goals simp

@[simp] theorem State.endWrite_frame (s : State) (r : WriteEnd) :
    (s.endWrite r).resetAsserted = s.resetAsserted ∧ (s.endWrite r).host = s.host ∧ (s.endWrite r).link = s.link ∧
    (s.endWrite r).nextMsg = s.nextMsg ∧ (s.endWrite r).pending = s.pending := by
  unfold State.endWrite
  repeat' split
  all_goals simp

@[simp] theorem State.endStore_frame (s : State) (r : WriteEnd) :
    (s.endStore r).resetAsserted = s.resetAsserted ∧ (s.endStore r).host = s.host ∧ (s.endStore r).cmd = s.cmd ∧
    (s.endStore r).link = s.link ∧ (s.endStore r).status = s.status ∧ (s.endStore r).nextMsg = s.nextMsg ∧
    (s.endStore r).pending = s.pending := by
  unfold State.endStore
  repeat' split
  all_goals simp

@[simp] theorem State.endFetch_frame (s : State) (r : ReadEnd) :
    (s.endFetch r).resetAsserted = s.resetAsserted ∧ (s.endFetch r).host = s.host ∧ (s.endFetch r).cmd = s.cmd ∧
    (s.endFetch r).link = s.link ∧ (s.endFetch r).status = s.status ∧ (s.endFetch r).retire = s.retire ∧
    (s.endFetch r).nextMsg = s.nextMsg ∧ (s.endFetch r).free = s.free ∧ (s.endFetch r).pending = s.pending := by
  unfold State.endFetch
  repeat' split
  all_goals simp

@[simp] theorem State.beginRecord_frame (s : State) :
    (s.beginRecord).resetAsserted = s.resetAsserted ∧ (s.beginRecord).host = s.host ∧ (s.beginRecord).cmd = s.cmd ∧
    (s.beginRecord).link = s.link ∧ (s.beginRecord).engine = s.engine ∧ (s.beginRecord).cache = s.cache ∧
    (s.beginRecord).status = s.status ∧ (s.beginRecord).mover = s.mover ∧ (s.beginRecord).writer = s.writer ∧
    (s.beginRecord).mem = s.mem ∧ (s.beginRecord).nextMsg = s.nextMsg ∧ (s.beginRecord).free = s.free ∧
    (s.beginRecord).pending = s.pending := by
  unfold State.beginRecord
  repeat' split
  all_goals simp

@[simp] theorem State.endRecordWord_frame (s : State) (r : WriteEnd) :
    (s.endRecordWord r).resetAsserted = s.resetAsserted ∧ (s.endRecordWord r).host = s.host ∧
    (s.endRecordWord r).cmd = s.cmd ∧ (s.endRecordWord r).link = s.link ∧ (s.endRecordWord r).engine = s.engine ∧
    (s.endRecordWord r).status = s.status ∧ (s.endRecordWord r).mover = s.mover ∧
    (s.endRecordWord r).nextMsg = s.nextMsg ∧ (s.endRecordWord r).pending = s.pending := by
  unfold State.endRecordWord
  repeat' split
  all_goals simp

@[simp] theorem State.endEntry_frame (s : State) (r : WriteEnd) :
    (s.endEntry r).resetAsserted = s.resetAsserted ∧ (s.endEntry r).cmd = s.cmd ∧ (s.endEntry r).link = s.link ∧
    (s.endEntry r).engine = s.engine ∧ (s.endEntry r).cache = s.cache ∧ (s.endEntry r).status = s.status ∧
    (s.endEntry r).mover = s.mover ∧ (s.endEntry r).retire = s.retire ∧ (s.endEntry r).nextMsg = s.nextMsg ∧
    (s.endEntry r).pending = s.pending := by
  unfold State.endEntry
  repeat' split
  all_goals simp

/-! ### The commands that wait -/

@[simp] theorem State.finishHold_frame (s : State) (n : Channel) :
    (s.finishHold n).resetAsserted = s.resetAsserted ∧ (s.finishHold n).link = s.link ∧
    (s.finishHold n).engine = s.engine ∧ (s.finishHold n).cache = s.cache ∧ (s.finishHold n).mover = s.mover ∧
    (s.finishHold n).port = s.port ∧ (s.finishHold n).retire = s.retire ∧ (s.finishHold n).writer = s.writer ∧
    (s.finishHold n).mem = s.mem ∧ (s.finishHold n).nextMsg = s.nextMsg ∧ (s.finishHold n).free = s.free ∧
    (s.finishHold n).pending = s.pending := by
  unfold State.finishHold
  repeat' split
  all_goals simp

@[simp] theorem State.actHold_frame (s : State) (n : Channel) :
    (s.actHold n).resetAsserted = s.resetAsserted ∧ (s.actHold n).link = s.link ∧ (s.actHold n).engine = s.engine ∧
    (s.actHold n).mover = s.mover ∧ (s.actHold n).retire = s.retire ∧ (s.actHold n).writer = s.writer ∧
    (s.actHold n).mem = s.mem ∧ (s.actHold n).nextMsg = s.nextMsg ∧ (s.actHold n).free = s.free ∧
    (s.actHold n).pending = s.pending := by
  unfold State.actHold
  repeat' split
  all_goals simp

@[simp] theorem State.holdStep_frame (s : State) :
    (s.holdStep).resetAsserted = s.resetAsserted ∧ (s.holdStep).link = s.link ∧ (s.holdStep).engine = s.engine ∧
    (s.holdStep).mover = s.mover ∧ (s.holdStep).retire = s.retire ∧ (s.holdStep).writer = s.writer ∧
    (s.holdStep).mem = s.mem ∧ (s.holdStep).nextMsg = s.nextMsg ∧ (s.holdStep).free = s.free ∧
    (s.holdStep).pending = s.pending := by
  unfold State.holdStep
  repeat' split
  all_goals simp

@[simp] theorem State.flushStep_frame (s : State) :
    (s.flushStep).resetAsserted = s.resetAsserted ∧ (s.flushStep).link = s.link ∧ (s.flushStep).engine = s.engine ∧
    (s.flushStep).status = s.status ∧ (s.flushStep).mover = s.mover ∧ (s.flushStep).retire = s.retire ∧
    (s.flushStep).writer = s.writer ∧ (s.flushStep).mem = s.mem ∧ (s.flushStep).nextMsg = s.nextMsg ∧
    (s.flushStep).free = s.free ∧ (s.flushStep).pending = s.pending := by
  unfold State.flushStep State.flushJob
  repeat' split
  all_goals simp

@[simp] theorem State.purgeJob_frame (s : State) (j k : CastJob) (f : Bool) :
    (s.purgeJob j k f).resetAsserted = s.resetAsserted ∧ (s.purgeJob j k f).link = s.link ∧
    (s.purgeJob j k f).engine = s.engine ∧ (s.purgeJob j k f).status = s.status ∧
    (s.purgeJob j k f).mover = s.mover ∧ (s.purgeJob j k f).retire = s.retire ∧
    (s.purgeJob j k f).writer = s.writer ∧ (s.purgeJob j k f).mem = s.mem ∧ (s.purgeJob j k f).nextMsg = s.nextMsg ∧
    (s.purgeJob j k f).free = s.free ∧ (s.purgeJob j k f).pending = s.pending := by
  unfold State.purgeJob
  repeat' split
  all_goals simp

@[simp] theorem State.purgeStep_frame (s : State) :
    (s.purgeStep).resetAsserted = s.resetAsserted ∧ (s.purgeStep).link = s.link ∧ (s.purgeStep).engine = s.engine ∧
    (s.purgeStep).status = s.status ∧ (s.purgeStep).mover = s.mover ∧ (s.purgeStep).retire = s.retire ∧
    (s.purgeStep).writer = s.writer ∧ (s.purgeStep).mem = s.mem ∧ (s.purgeStep).nextMsg = s.nextMsg ∧
    (s.purgeStep).free = s.free ∧ (s.purgeStep).pending = s.pending := by
  unfold State.purgeStep
  repeat' split
  all_goals simp

@[simp] theorem State.stopDrain_frame (s : State) :
    (s.stopDrain).resetAsserted = s.resetAsserted ∧ (s.stopDrain).host = s.host ∧ (s.stopDrain).link = s.link ∧
    (s.stopDrain).engine = s.engine ∧ (s.stopDrain).cache = s.cache ∧ (s.stopDrain).status = s.status ∧
    (s.stopDrain).mover = s.mover ∧ (s.stopDrain).port = s.port ∧ (s.stopDrain).retire = s.retire ∧
    (s.stopDrain).writer = s.writer ∧ (s.stopDrain).mem = s.mem ∧ (s.stopDrain).nextMsg = s.nextMsg ∧
    (s.stopDrain).free = s.free ∧ (s.stopDrain).pending = s.pending := by
  unfold State.stopDrain
  repeat' split
  all_goals simp

@[simp] theorem State.stopCache_frame (s : State) :
    (s.stopCache).resetAsserted = s.resetAsserted ∧ (s.stopCache).host = s.host ∧ (s.stopCache).link = s.link ∧
    (s.stopCache).engine = s.engine ∧ (s.stopCache).status = s.status ∧ (s.stopCache).mover = s.mover ∧
    (s.stopCache).retire = s.retire ∧ (s.stopCache).writer = s.writer ∧ (s.stopCache).mem = s.mem ∧
    (s.stopCache).nextMsg = s.nextMsg ∧ (s.stopCache).free = s.free ∧ (s.stopCache).pending = s.pending := by
  unfold State.stopCache
  repeat' split
  all_goals simp

@[simp] theorem State.stopEvents_frame (s : State) :
    (s.stopEvents).resetAsserted = s.resetAsserted ∧ (s.stopEvents).link = s.link ∧
    (s.stopEvents).engine = s.engine ∧ (s.stopEvents).cache = s.cache ∧ (s.stopEvents).status = s.status ∧
    (s.stopEvents).mover = s.mover ∧ (s.stopEvents).retire = s.retire ∧ (s.stopEvents).mem = s.mem ∧
    (s.stopEvents).nextMsg = s.nextMsg ∧ (s.stopEvents).free = s.free ∧ (s.stopEvents).pending = s.pending := by
  unfold State.stopEvents
  dsimp only
  repeat' split
  all_goals simp

@[simp] theorem State.stopFinish_frame (s : State) :
    (s.stopFinish).resetAsserted = s.resetAsserted ∧ (s.stopFinish).engine = s.engine ∧
    (s.stopFinish).cache = s.cache ∧ (s.stopFinish).status = s.status ∧ (s.stopFinish).mover = s.mover ∧
    (s.stopFinish).port = s.port ∧ (s.stopFinish).retire = s.retire ∧ (s.stopFinish).writer = s.writer ∧
    (s.stopFinish).mem = s.mem ∧ (s.stopFinish).nextMsg = s.nextMsg ∧ (s.stopFinish).free = s.free ∧
    (s.stopFinish).pending = s.pending := by
  unfold State.stopFinish
  repeat' split
  all_goals simp
/-! ### The resets -/

@[simp] theorem State.abandonBurst_frame (s : State) :
    s.abandonBurst.resetAsserted = s.resetAsserted ∧ s.abandonBurst.nextMsg = s.nextMsg ∧
    s.abandonBurst.pending = s.pending := by
  unfold State.abandonBurst
  repeat' split
  all_goals simp

@[simp] theorem State.afterReset_nextMsg (s : State) (asserted : Bool) :
    (s.afterReset asserted).nextMsg = s.nextMsg := s.abandonBurst_frame.2.1
@[simp] theorem State.afterReset_pending (s : State) (asserted : Bool) :
    (s.afterReset asserted).pending = s.pending := s.abandonBurst_frame.2.2

end Sys2Proof.Machine


/-! PROOFS. The step, and what a command does behind its gates: every law of the part is shown command by command. -/

namespace Sys2Proof

open Sys2Proof.Machine

/-! ### A command behind its gates -/

/-- The symbols of the line, which HALTED ignores (R55). -/
def Instr.isSymbol : Instr → Bool
  | .openingFlag | .dataSymbol _ | .closingFlag | .abortSymbol | .badSymbol _ | .symbolSilenceLimit => true
  | _ => false

/-- What a well-formed command does once the gates of the RESET input (R171) and of HALTED (R55) let it through. -/
def Instr.body : Instr → State → State
  | .resetAssert, s => s.afterReset true
  | .resetRelease, s => s.afterReset false
  | .softReset v, s => if getBit v 0 then s.afterReset false else s
  | .start op, s => s.writeStart op
  | .stop op, s => s.writeStop op
  | .hold op, s => s.writeHold op
  | .release op, s => s.writeRelease op
  | .returnBuffer op, s => s.writeReturn op
  | .pin op, s => s.writePin op
  | .unpin op, s => s.writeUnpin op
  | .flush op, s => s.writeFlush op
  | .purge op, s => s.writePurge op
  | .resumeEvents op, s => s.writeResume op
  | .badCommand code op, s => s.takeCommand code op fun t => t.endCommand .refusedBadCommand
  | .intPendingWrite v, s => s.writeIntPending v
  | .intMaskWrite v, s => s.writeIntMask v
  | .stickyStatusWrite v, s => s.writeSticky v
  | .configWrite reg v, s => s.writeConfig reg v
  | .eqBaseWrite v, s => s.writeEqBase v
  | .eqSizeWrite v, s => s.writeEqSize v
  | .globalEnablesWrite v, s => s.writeGlobalEnables v
  | .eqConsumerWrite v, s => s.writeEqConsumer v
  | .linkErrorsWrite v, s => s.writeLinkErrors v
  | .channelSelectWrite v, s => s.writeChannelSelect v
  | .registerWrite _ _ _, s => s
  | .openingFlag, s => s.takeOpening
  | .dataSymbol b, s => s.takeData b
  | .closingFlag, s => s.takeClosing
  | .abortSymbol, s => s.takeAbort
  | .badSymbol _, s => s.takeBad
  | .symbolSilenceLimit, s => s.takeAbort
  | .replyReady, s => s.declareReady
  | .earliestStart, s => s.reachEarliest
  | .replyStart, s => s.startReply
  | .commitExpiry, s => s.expire
  | .transmitByteDue, s => s.transmitDue
  | .replyEnd, s => s.endReply
  | .recoveryEnd, s => s.endRecovery
  | .broadcastCommit, s => s.commitBroadcast
  | .cycleOffsetTick, s => s.tickOffset
  | .fillTakesEntry, s => s.takeFill
  | .burstGrant, s => s.grant
  | .linefillEnd r, s => s.endLinefill r
  | .evictionCastoutEnd r, s => s.endEviction r
  | .invalidationCastoutEnd r, s => s.endInvalidation r
  | .writeEnd r, s => s.endWrite r
  | .storeBurstEnd r, s => s.endStore r
  | .fetchBurstEnd r, s => s.endFetch r
  | .retireRecordStep, s => s.beginRecord
  | .recordWordEnd r, s => s.endRecordWord r
  | .eventEntryWrite, s => s.writerLook
  | .eventEntryWriteEnd r, s => s.endEntry r
  | .holdEnd, s => s.holdStep
  | .flushMember, s => s.flushStep
  | .purgeMember, s => s.purgeStep
  | .stopDrainCompletions, s => s.stopDrain
  | .stopCacheStep, s => s.stopCache
  | .stopEventStep, s => s.stopEvents
  | .stopEnd, s => s.stopFinish

/-- A command gets through its gates: RESET is not asserted, but for its release, and no symbol is taken in HALTED. -/
def Instr.Passes (c : Instr) (s : State) : Prop :=
  (c ≠ .resetRelease → s.resetAsserted = false) ∧ (c.isSymbol = true → s.cmd.node ≠ .halted)

end Sys2Proof

namespace Sys2Proof.Machine

theorem exec_resetRelease_of_not_reset {s : State} (h : s.resetAsserted = false) :
    exec .resetRelease s = .next s :=
  congrArg _ (if_neg (by simp [h]))

/-- A payload that Table 3-1 does not define is a bad symbol (R40). -/
theorem State.takeControl_of_undefined {p : Byte} (h : (Instr.badSymbol p).wellFormed = true) (s : State) :
    s.takeControl p = s.takeBad := by
  simp only [Instr.wellFormed, Bool.and_eq_true, bne_iff_ne, ne_eq] at h
  obtain ⟨⟨hopening, hclosing⟩, habort⟩ := h
  unfold State.takeControl
  split
  next hp => exact absurd (BitVec.eq_of_toNat_eq hp) hopening
  next hp => exact absurd (BitVec.eq_of_toNat_eq hp) hclosing
  next hp => exact absurd (BitVec.eq_of_toNat_eq hp) habort
  next => rfl

/-- A code outside 1 to 10 is refused (R165). -/
theorem State.writeCommand_of_bad {code operand : Byte} (h : (Instr.badCommand code operand).wellFormed = true)
    (s : State) : s.writeCommand code operand = s.takeCommand code operand fun t => t.endCommand .refusedBadCommand := by
  simp only [Instr.wellFormed, Bool.or_eq_true, decide_eq_true_eq] at h
  unfold State.writeCommand
  split
  all_goals first | omega | rfl

/-- A write at an offset without a writable register is ignored (R158). -/
theorem State.writeWindow_of_not_writable {k : Nat} (h : writableOffset k = false) (s : State) (v : Word) :
    s.writeWindow k v = s := by
  unfold State.writeWindow
  split
  all_goals first | rfl | exact absurd h (by decide)

/-- A command is stopped at a gate and changes nothing, or gets through and does what its body says. -/
theorem exec_cases (c : Instr) (s : State) (hwf : c.wellFormed = true) :
    exec c s = .next s ∨ (exec c s = .next (c.body s) ∧ c.Passes s) := by
  cases hreset : s.resetAsserted with
  | true =>
    by_cases hc : c = .resetRelease
    · subst hc
      exact .inr ⟨exec_resetRelease_eq hreset, nofun, nofun⟩
    · exact .inl (exec_of_reset hc hreset)
  | false =>
    have symbol {i : Instr} {f : State → State} (hexec : exec i s = .next (s.live fun t => t.onLine f))
        (hi : i.isSymbol = true) (hf : f s = i.body s) :
        exec i s = .next s ∨ (exec i s = .next (i.body s) ∧ i.Passes s) := by
      rw [State.live_of_not_reset hreset] at hexec
      rcases s.onLine_cases f with hline | ⟨hnode, hline⟩
      · exact .inl (by rw [hexec, hline])
      · exact .inr ⟨by rw [hexec, hline, hf], fun _ => hreset, fun _ => hnode⟩
    have plain {i : Instr} {f : State → State} (hexec : exec i s = .next (s.live f)) (hi : i.isSymbol = false)
        (hf : f s = i.body s) : exec i s = .next s ∨ (exec i s = .next (i.body s) ∧ i.Passes s) :=
      .inr ⟨by rw [hexec, State.live_of_not_reset hreset, hf], fun _ => hreset, by simp [hi]⟩
    cases c with
    | resetRelease => exact .inl (exec_resetRelease_of_not_reset hreset)
    | softReset v =>
      refine plain rfl rfl ?_
      simp only [State.writeSoftReset, Instr.body, State.resetBlocks_eq_afterReset hreset]
    | badCommand code op => exact plain rfl rfl (State.writeCommand_of_bad hwf s)
    | registerWrite offset enables v =>
      exact plain rfl rfl (State.writeWindow_of_not_writable (by simpa [Instr.wellFormed] using hwf) s _)
    | openingFlag => exact symbol rfl rfl rfl
    | dataSymbol b => exact symbol rfl rfl rfl
    | closingFlag => exact symbol rfl rfl rfl
    | abortSymbol => exact symbol rfl rfl rfl
    | badSymbol p => exact symbol rfl rfl (State.takeControl_of_undefined hwf s)
    | symbolSilenceLimit => exact symbol rfl rfl rfl
    | _ => exact plain rfl rfl rfl

/-! ### A command that is not well formed acts as one that is (log 20) -/

/-- A word is the four bytes it is made of (R123). -/
theorem wordOfBytes_extract (w : Word) :
    wordOfBytes (w.extractLsb' 0 8) (w.extractLsb' 8 8) (w.extractLsb' 16 8) (w.extractLsb' 24 8) = w := by
  refine BitVec.eq_of_getLsbD_eq fun i hi => ?_
  simp only [wordOfBytes, BitVec.getLsbD_append, BitVec.getLsbD_extractLsb']
  grind

/-- Bytes that are the enabled ones of `v`, and 0 elsewhere, make the word the access delivers (R158). -/
theorem eq_deliveredWord {enables : BitVec 4} {v w : Word}
    (h : ∀ k < 4, w.extractLsb' (8 * k) 8 = if enables.getLsbD k then v.extractLsb' (8 * k) 8 else 0#8) :
    w = deliveredWord enables v := by
  rw [← wordOfBytes_extract w, deliveredWord]
  exact congr (congr (congr (congrArg _ (h 0 (by decide))) (h 1 (by decide))) (h 2 (by decide))) (h 3 (by decide))

/-- BAD_COMMAND acts as the command that its code spells. -/
theorem exec_badCommand_wellFormed (code operand : Byte) :
    ∃ c, c.wellFormed = true ∧ ∀ s, exec (.badCommand code operand) s = exec c s := by
  have spelled {c : Instr} (hwf : c.wellFormed = true)
      (h : ∀ s, exec c s = .next (s.live fun t => t.writeCommand code operand)) :
      ∃ c, c.wellFormed = true ∧ ∀ s, exec (.badCommand code operand) s = exec c s := ⟨c, hwf, fun s => (h s).symm⟩
  by_cases hbad : code.toNat = 0 ∨ 10 < code.toNat
  · exact ⟨_, by simpa [Instr.wellFormed] using hbad, fun _ => rfl⟩
  · obtain h | h | h | h | h | h | h | h | h | h : code = 1 ∨ code = 2 ∨ code = 3 ∨ code = 4 ∨ code = 5 ∨ code = 6 ∨
        code = 7 ∨ code = 8 ∨ code = 9 ∨ code = 10 := by bv_omega
    · exact spelled (c := .start operand) rfl (by subst h; intro; rfl)
    · exact spelled (c := .stop operand) rfl (by subst h; intro; rfl)
    · exact spelled (c := .hold operand) rfl (by subst h; intro; rfl)
    · exact spelled (c := .release operand) rfl (by subst h; intro; rfl)
    · exact spelled (c := .returnBuffer operand) rfl (by subst h; intro; rfl)
    · exact spelled (c := .pin operand) rfl (by subst h; intro; rfl)
    · exact spelled (c := .unpin operand) rfl (by subst h; intro; rfl)
    · exact spelled (c := .flush operand) rfl (by subst h; intro; rfl)
    · exact spelled (c := .purge operand) rfl (by subst h; intro; rfl)
    · exact spelled (c := .resumeEvents operand) rfl (by subst h; intro; rfl)


section
variable {s : State} {offset : Byte} {enables : BitVec 4} {v w : Word}

/-- A write at the offset of a writable register is that register's write. -/
theorem exec_registerWrite_eq (hw : w = deliveredWord enables v) {k : Nat} (hk : offset.toNat / 4 * 4 = k) {c : Instr}
    (hc : exec c s = .next (s.live fun t => t.writeWindow k w)) :
    exec (.registerWrite offset enables v) s = exec c s := by
  subst hw hk
  exact hc.symm

theorem exec_registerWrite_configWrite (hw : w = deliveredWord enables v) (reg : ConfigReg)
    (hk : offset.toNat / 4 * 4 = reg.offset) :
    exec (.registerWrite offset enables v) s = exec (.configWrite reg w) s := by
  refine exec_registerWrite_eq hw hk ?_
  cases reg with
  | guardBase i => fin_cases i <;> rfl
  | guardLimit i => fin_cases i <;> rfl
  | _ => rfl

/-- The command whose write a REGISTER_WRITE at a word offset is, at the registers that CONFIG_WRITE does not write. -/
theorem exec_registerWrite_other (hw : w = deliveredWord enables v) {p : Nat × Instr}
    (hp : p ∈ [(0x10, Instr.intPendingWrite w), (0x14, .intMaskWrite w), (0x1C, .globalEnablesWrite w),
        (0x24, .eqBaseWrite w), (0x28, .eqSizeWrite w), (0x30, .eqConsumerWrite w), (0x6C, .linkErrorsWrite w),
        (0x70, .channelSelectWrite w), (0x7C, .softReset w), (0x80, .stickyStatusWrite w),
        (0x08, .badCommand (w.extractLsb' 0 8) (w.extractLsb' 8 8))])
    (hk : offset.toNat / 4 * 4 = p.1) : exec (.registerWrite offset enables v) s = exec p.2 s := by
  refine exec_registerWrite_eq hw hk ?_
  simp only [List.mem_cons, List.not_mem_nil, or_false] at hp
  rcases hp with rfl | rfl | rfl | rfl | rfl | rfl | rfl | rfl | rfl | rfl | rfl <;> rfl

end

/-- Settles O9: by the offset, the write of the register that stands there, of the bytes the access delivers. -/
theorem registerWriteByOffset : Obligations.RegisterWriteByOffset := by
  unfold Obligations.RegisterWriteByOffset
  intro s offset enables v w _ hbytes
  have hw := eq_deliveredWord hbytes
  refine ⟨fun hoffset => ?_, exec_registerWrite_configWrite hw, fun p => exec_registerWrite_other hw⟩
  change Host.Outcome.next (s.live fun t => t.writeAccess offset enables v) = .next s
  rw [State.live]
  split
  · rfl
  · exact congrArg _ (State.writeWindow_of_not_writable hoffset s _)

/-- REGISTER_WRITE acts as a well-formed command. -/
theorem exec_registerWrite_wellFormed (offset : Byte) (enables : BitVec 4) (v : Word) :
    ∃ c, c.wellFormed = true ∧ ∀ s, exec (.registerWrite offset enables v) s = exec c s := by
  cases hoffset : writableOffset (offset.toNat / 4 * 4) with
  | false => exact ⟨_, by simp [Instr.wellFormed, hoffset], fun _ => rfl⟩
  | true =>
    have config (reg : ConfigReg) (hk : offset.toNat / 4 * 4 = reg.offset) :
        ∃ c, c.wellFormed = true ∧ ∀ s, exec (.registerWrite offset enables v) s = exec c s :=
      ⟨.configWrite reg _, rfl, fun _ => exec_registerWrite_configWrite rfl reg hk⟩
    have other {k : Nat} {c : Instr} (hwf : c.wellFormed = true) (hk : offset.toNat / 4 * 4 = k)
        (hc : ∀ s, exec c s = .next (s.live fun t => t.writeWindow k (deliveredWord enables v))) :
        ∃ c, c.wellFormed = true ∧ ∀ s, exec (.registerWrite offset enables v) s = exec c s :=
      ⟨c, hwf, fun s => exec_registerWrite_eq rfl hk (hc s)⟩
    simp only [writableOffset, List.mem_cons, List.not_mem_nil, or_false, decide_eq_true_eq] at hoffset
    rcases hoffset with h | h | h | h | h | h | h | h | h | h | h | h | h | h | h | h | h | h | h | h | h | h
    · obtain ⟨c, hwf, hc⟩ := exec_badCommand_wellFormed ((deliveredWord enables v).extractLsb' 0 8)
        ((deliveredWord enables v).extractLsb' 8 8)
      exact other hwf h fun s => (hc s).symm
    · exact other (c := .intPendingWrite _) rfl h fun _ => rfl
    · exact other (c := .intMaskWrite _) rfl h fun _ => rfl
    · exact config .nodeAddress h
    · exact other (c := .globalEnablesWrite _) rfl h fun _ => rfl
    · exact config .tableBase h
    · exact other (c := .eqBaseWrite _) rfl h fun _ => rfl
    · exact other (c := .eqSizeWrite _) rfl h fun _ => rfl
    · exact other (c := .eqConsumerWrite _) rfl h fun _ => rfl
    · exact config (.guardBase 0) h
    · exact config (.guardLimit 0) h
    · exact config (.guardBase 1) h
    · exact config (.guardLimit 1) h
    · exact config (.guardBase 2) h
    · exact config (.guardLimit 2) h
    · exact config (.guardBase 3) h
    · exact config (.guardLimit 3) h
    · exact config .guardRights h
    · exact other (c := .linkErrorsWrite v) rfl h fun _ => rfl
    · exact other (c := .channelSelectWrite _) rfl h fun _ => rfl
    · exact other (c := .softReset _) rfl h fun _ => rfl
    · exact other (c := .stickyStatusWrite _) rfl h fun _ => rfl

/-- Every command acts as a well-formed one. -/
theorem exec_wellFormed (c : Instr) : ∃ d, d.wellFormed = true ∧ ∀ s, exec c s = exec d s := by
  cases c with
  | badCommand code operand => exact exec_badCommand_wellFormed code operand
  | registerWrite offset enables v => exact exec_registerWrite_wellFormed offset enables v
  | badSymbol p =>
    by_cases hopening : p = 0x5A#8
    · exact ⟨.openingFlag, rfl, fun _ => by subst hopening; rfl⟩
    · by_cases hclosing : p = 0xA5#8
      · exact ⟨.closingFlag, rfl, fun _ => by subst hclosing; rfl⟩
      · by_cases habort : p = 0x00#8
        · exact ⟨.abortSymbol, rfl, fun _ => by subst habort; rfl⟩
        · exact ⟨.badSymbol p, by simp [Instr.wellFormed, hopening, hclosing, habort], fun _ => rfl⟩
  | _ => exact ⟨_, rfl, fun _ => rfl⟩

/-- What every command does: nothing, or the body of a command that gets through its gates. -/
theorem exec_eq_body (c : Instr) (s : State) :
    exec c s = .next s ∨ ∃ d : Instr, d.wellFormed = true ∧ d.Passes s ∧ exec c s = .next (d.body s) := by
  obtain ⟨d, hwf, heq⟩ := exec_wellFormed c
  rw [heq]
  exact (exec_cases d s hwf).imp_right fun ⟨hbody, hpasses⟩ => ⟨d, hwf, hpasses, hbody⟩

/-! ### The step -/

/-- Settles O1: both are the cases of the queue. -/
theorem stepRunsFrontCommand : Obligations.StepRunsFrontCommand := by
  unfold Obligations.StepRunsFrontCommand
  refine ⟨fun c rest s h => ?_, fun s h => ?_⟩
  · rw [step, h]
    rfl
  · rw [step, h]

/-- No body touches the queue. -/
theorem body_pending (c : Instr) (s : State) : (c.body s).pending = s.pending := by
  cases c with
  | softReset v =>
    dsimp only [Instr.body]
    split <;> simp
  | badCommand code op =>
    dsimp only [Instr.body, State.takeCommand]
    split <;> simp
  | _ => simp [Instr.body]

/-- Settles O2: a command answers the state it was given or its body's, and both keep the queue. -/
theorem commandsAnswerNext : Obligations.CommandsAnswerNext := by
  unfold Obligations.CommandsAnswerNext
  intro c s
  obtain h | ⟨d, -, -, h⟩ := exec_eq_body c s
  · exact ⟨s, h, rfl⟩
  · exact ⟨_, h, body_pending d s⟩

/-- What a step does: with `q` the rest of the queue, nothing more or the body of a command that gets through its gates. -/
theorem step_eq_body {s t : State} (hstep : step s = .next t) :
    ∃ q, t = s.withPending q ∨ ∃ c : Instr, c.Passes (s.withPending q) ∧ t = c.body (s.withPending q) := by
  unfold step at hstep
  split at hstep
  · exact ⟨s.pending, .inl (Host.Outcome.next.inj hstep).symm⟩
  next c rest _ =>
    refine ⟨rest, ?_⟩
    obtain hexec | ⟨d, -, hpasses, hexec⟩ := exec_eq_body c (s.withPending rest)
    · exact .inl (Host.Outcome.next.inj (hexec.symm.trans hstep)).symm
    · exact .inr ⟨d, hpasses, (Host.Outcome.next.inj (hexec.symm.trans hstep)).symm⟩

/-- The induction that every law rests on: what no queue touches and every body keeps, every step keeps. -/
theorem step_keeps {P : State → Prop} (hqueue : ∀ s q, P s → P (s.withPending q))
    (hbody : ∀ (c : Instr) s, c.Passes s → P s → P (c.body s)) (s t : State) (h : P s) (hstep : step s = .next t) :
    P t := by
  obtain ⟨q, rfl | ⟨c, hpasses, rfl⟩⟩ := step_eq_body hstep
  · exact hqueue s q h
  · exact hbody c _ hpasses (hqueue s q h)

end Sys2Proof.Machine


/-! PROOFS. Host memory: the end of a burst, or a reset that abandons one, is all that changes it, and each keeps its
canonical form (log 4). -/

namespace Sys2Proof.Machine

/-! ### What a command leaves in memory -/

/-- What a command can leave in host memory (R122, R140; log 7): what was there; the words of the write burst in flight,
all or some; or what the host wrote before the read burst in flight. -/
inductive MemoryAfter (s : State) : Memory → Prop where
  | kept : MemoryAfter s s.mem
  | written {b : Burst} (r : WriteEnd) (h : s.port.inFlight = some b) : MemoryAfter s (s.burstWrites b r).mem
  | hostWrote {b : Burst} (ws : List (Addr × Byte)) (h : s.port.inFlight = some b) :
      MemoryAfter s (Memory.hostWrites s.mem ws)

@[simp] theorem State.landed_burstWrites_mem (s : State) (b : Burst) (r : WriteEnd) :
    (s.landed.burstWrites b r).mem = (s.burstWrites b r).mem := by
  cases r <;> rfl

@[simp] theorem State.evictionEnds_mem (s : State) (e : EntryIx) (n : Channel) (b : Burst) (r : WriteEnd) :
    (s.evictionEnds e n b r).mem = (s.burstWrites b r).mem := by
  unfold State.evictionEnds
  cases r <;> simp

@[simp] theorem State.invalidationEnds_mem (s : State) (e : EntryIx) (b : Burst) (r : WriteEnd) :
    (s.invalidationEnds e b r).mem = (s.burstWrites b r).mem := by
  unfold State.invalidationEnds
  cases r <;> simp

@[simp] theorem State.writeEnds_mem (s : State) (e : EntryIx) (b : Burst) (r : WriteEnd) :
    (s.writeEnds e b r).mem = (s.burstWrites b r).mem := by
  unfold State.writeEnds
  cases r <;> simp

@[simp] theorem State.storeEnds_mem (s : State) (msg bytes : Nat) (b : Burst) (r : WriteEnd) :
    (s.storeEnds msg bytes b r).mem = (s.burstWrites b r).mem := by
  unfold State.storeEnds
  cases r <;> simp

@[simp] theorem State.recordWordEnds_mem (s : State) (b : Burst) (r : WriteEnd) :
    (s.recordWordEnds b r).mem = (s.burstWrites b r).mem := by
  unfold State.recordWordEnds
  dsimp only
  repeat' split
  all_goals simp

@[simp] theorem State.entryEnds_mem (s : State) (b : Burst) (r : WriteEnd) :
    (s.entryEnds b r).mem = (s.burstWrites b r).mem := by
  unfold State.entryEnds
  cases r <;> simp

/-- A linefill reads memory with the host's writes in it, or fails and reads nothing. -/
theorem State.linefillEnds_mem (s : State) (e : EntryIx) (b : Burst) (r : ReadEnd) :
    (s.linefillEnds e b r).mem = match r with
      | .completion ws => Memory.hostWrites s.mem ws
      | .busError => s.mem := by
  unfold State.linefillEnds
  cases r <;> simp

/-- So does a fetch burst. -/
theorem State.fetchEnds_mem (s : State) (msg bytes : Nat) (b : Burst) (r : ReadEnd) :
    (s.fetchEnds msg bytes b r).mem = match r with
      | .completion ws => Memory.hostWrites s.mem ws
      | .busError => s.mem := by
  unfold State.fetchEnds
  cases r with
  | completion ws => simp
  | busError =>
    dsimp only
    split <;> simp

/-- The blocks' reset abandons the burst in flight (R140). -/
theorem State.afterReset_memory (s : State) (asserted : Bool) : MemoryAfter s (s.afterReset asserted).mem := by
  change MemoryAfter s s.abandonBurst.mem
  unfold State.abandonBurst
  split
  next b hflight =>
    split
    · exact .kept
    · exact .written .busError hflight
  next => exact .kept

theorem State.endLinefill_memory (s : State) (r : ReadEnd) : MemoryAfter s (s.endLinefill r).mem := by
  unfold State.endLinefill
  split
  next b hflight =>
    repeat' split
    · rw [State.linefillEnds_mem]
      cases r with
      | completion ws => exact .hostWrote ws hflight
      | busError => exact .kept
    all_goals exact .kept
  next => exact .kept

theorem State.endFetch_memory (s : State) (r : ReadEnd) : MemoryAfter s (s.endFetch r).mem := by
  unfold State.endFetch
  split
  next b hflight =>
    split
    · rw [State.fetchEnds_mem]
      cases r with
      | completion ws => exact .hostWrote ws hflight
      | busError => exact .kept
    · exact .kept
  next => exact .kept

theorem State.endEviction_memory (s : State) (r : WriteEnd) : MemoryAfter s (s.endEviction r).mem := by
  unfold State.endEviction
  split
  next b hflight =>
    repeat' split
    · simpa using .written r hflight
    all_goals exact .kept
  next => exact .kept

theorem State.endInvalidation_memory (s : State) (r : WriteEnd) : MemoryAfter s (s.endInvalidation r).mem := by
  unfold State.endInvalidation
  split
  next b hflight =>
    repeat' split
    · simpa using .written r hflight
    all_goals exact .kept
  next => exact .kept

theorem State.endWrite_memory (s : State) (r : WriteEnd) : MemoryAfter s (s.endWrite r).mem := by
  unfold State.endWrite
  split
  next b hflight =>
    repeat' split
    · simpa using .written r hflight
    · exact .kept
    · simpa using .written r hflight
    all_goals exact .kept
  next => exact .kept

theorem State.endStore_memory (s : State) (r : WriteEnd) : MemoryAfter s (s.endStore r).mem := by
  unfold State.endStore
  split
  next b hflight =>
    split
    · simpa using .written r hflight
    · exact .kept
  next => exact .kept

theorem State.endRecordWord_memory (s : State) (r : WriteEnd) : MemoryAfter s (s.endRecordWord r).mem := by
  unfold State.endRecordWord
  split
  next b hflight =>
    split
    · simpa using .written r hflight
    · exact .kept
  next => exact .kept

theorem State.endEntry_memory (s : State) (r : WriteEnd) : MemoryAfter s (s.endEntry r).mem := by
  unfold State.endEntry
  split
  next b hflight =>
    split
    · simpa using .written r hflight
    · exact .kept
  next => exact .kept

/-- What any command leaves in memory. -/
theorem body_memory (c : Instr) (s : State) : MemoryAfter s (c.body s).mem := by
  have kept {t : State} (h : t.mem = s.mem) : MemoryAfter s t.mem := h ▸ .kept
  cases c with
  | resetAssert => exact s.afterReset_memory true
  | resetRelease => exact s.afterReset_memory false
  | softReset v =>
    dsimp only [Instr.body]
    split
    · exact s.afterReset_memory false
    · exact .kept
  | linefillEnd r => exact s.endLinefill_memory r
  | evictionCastoutEnd r => exact s.endEviction_memory r
  | invalidationCastoutEnd r => exact s.endInvalidation_memory r
  | writeEnd r => exact s.endWrite_memory r
  | storeBurstEnd r => exact s.endStore_memory r
  | fetchBurstEnd r => exact s.endFetch_memory r
  | recordWordEnd r => exact s.endRecordWord_memory r
  | eventEntryWriteEnd r => exact s.endEntry_memory r
  | badCommand code op =>
    refine kept ?_
    dsimp only [Instr.body, State.takeCommand]
    split <;> simp
  | _ => exact kept (by simp [Instr.body])

/-! ### The canonical form -/

theorem State.wf_burstWrites {s : State} (b : Burst) (r : WriteEnd) (h : s.MemoryLaw) :
    Memory.wf (s.burstWrites b r).mem = true := by
  cases r with
  | completion => exact Memory.wf_writeWords b.data b.addr h
  | busError => exact Memory.wf_writeLanded _ b.data 0 b.addr h

/-- Settles O52: whatever a command leaves in memory is in the canonical form. -/
theorem memoryLawKept : Obligations.MemoryLawKept := by
  unfold Obligations.MemoryLawKept
  refine step_keeps (fun _ _ h => h) fun c s _ h => ?_
  have hafter := body_memory c s
  unfold State.MemoryLaw
  generalize (c.body s).mem = m at hafter
  cases hafter with
  | kept => exact h
  | written r _ => exact State.wf_burstWrites _ r h
  | hostWrote ws _ => exact Memory.wf_hostWrites ws h

end Sys2Proof.Machine


/-! PROOFS. The small updates that the blocks are built from, each with what it rests on, and the operations as chains of
them. A law that every update keeps is kept by every operation. -/

namespace Sys2Proof.Machine

/-- A work without its members, phases and fault flags (R102, R103, R169). -/
def Work.kind : Work → Work
  | .none => .none
  | .hold n => .hold n
  | .flush _ _ => .flush ⟨[], [], .waiting⟩ false
  | .purge _ _ _ => .purge ⟨[], [], .waiting⟩ ⟨[], [], .waiting⟩ false
  | .stop a _ => .stop a false

/-- Two works that differ at most in members, phases and fault flags. -/
def Work.SameKind (w v : Work) : Prop := v.kind = w.kind

/-- A request the exchange engine has just formed from a header (R63). -/
def Request.Fresh (r : Request) : Prop := r.phase = .lookup ∧ r.verdict = .undecided ∧ r.ready = false

/-- One small update of the state. None changes the RESET input, the registers of the host interface, the node state or
the queue. -/
inductive State.Update (s : State) : State → Prop where
  /-- An event is raised (R147). -/
  | raises (ev : Event) : Update s { s with writer := s.writer.take ev }
  /-- The receiver or the transmitter moves (chapter 3). -/
  | links (l : Link) : Update s { s with link := l }
  /-- Host memory is written (chapter 7). -/
  | writes (m : Memory) (k : Nat) : Update s { s with mem := m, free := k }
  /-- The in-use mark is set or cleared (R62). -/
  | marks (e : EntryIx) (b : Bool) : Update s { s with cache := s.cache.setInUse e b }
  /-- The exchange engine changes a context (R94). -/
  | changes (e : EntryIx) (f : Descriptor → Descriptor) : Update s { s with cache := s.cache.change e f }
  /-- An entry is touched (R87). -/
  | touches (e : EntryIx) : Update s { s with cache := s.cache.touch e }
  /-- A lookup that misses asks for a fill (R88, R89). -/
  | asksFill (n : Channel) (hfree : (s.record n).hold = .free) (hrunning : s.cmd.node = .running) :
      Update s { s with cache := s.cache.requestFill n }
  /-- The pending fill of a channel is withdrawn (R89). -/
  | withdraws (n : Channel) : Update s { s with cache := s.cache.withdrawFill n }
  /-- A filling entry takes its context (R92). -/
  | fills (e : EntryIx) (d : Descriptor) (hfilling : (s.cache.entry e).state = .filling) :
      Update s { s with cache := s.cache.fillValid e d }
  /-- An entry becomes INVALID (R87). -/
  | invalidates (e : EntryIx) : Update s { s with cache := s.cache.invalidate e }
  /-- A DIRTY entry begins an invalidation castout (R104). -/
  | castsOut (e : EntryIx) (hdirty : (s.cache.entry e).state = .dirty) :
      Update s { s with cache := s.cache.beginEvict e none }
  /-- A DIRTY entry begins a write (R95). -/
  | beginsWrite (e : EntryIx) (hdirty : (s.cache.entry e).state = .dirty) :
      Update s { s with cache := s.cache.beginWrite e }
  /-- A write that began in WRITING has completed (R95). -/
  | settles (e : EntryIx) : Update s { s with cache := s.cache.writeCompletes e }
  /-- A burst of an entry in use becomes due (R96). -/
  | owes (b : CacheBurst) (hentry : (s.cache.entry b.entry).state ≠ .invalid) :
      Update s { s with cache := { s.cache with due := s.cache.due ++ [b] } }
  /-- The cache's first due burst is presented (R96). -/
  | presents (b : CacheBurst) (rest : List CacheBurst) (x : Burst) (hdue : s.cache.due = b :: rest)
      (hx : x.kind.client = .cache) :
      Update s { s with cache := { s.cache with due := rest }, port := { s.port with cache := some x } }
  /-- Returned flags or seq_valid change (R20, R31, R60). -/
  | flags (v : Vector ChannelRecord 64) (hv : ∀ n : Channel,
      (v[n.val]'n.isLt).hold = (s.record n).hold ∧ (v[n.val]'n.isLt).pinned = (s.record n).pinned) :
      Update s { s with status := v }
  /-- An entry is lost to a fault, which is noted in its channel's record and ends the fill that waits for it (R92, R93, R98). -/
  | fails (e : EntryIx) (reason : FaultReason) (subCode : BitVec 4) (hstate : (s.cache.entry e).state ≠ .invalid) :
      Update s (State.setRecord
        { s with cache := (s.cache.invalidate e).withdrawFill (s.cache.entry e).tag } (s.cache.entry e).tag
        fun x => x.report reason subCode)
  /-- A fill chooses a DIRTY victim, which is cast out for it (R90, R91). -/
  | evictsFor (e : EntryIx) (n : Channel) (hnext : s.cache.nextFill = some n)
      (hdirty : (s.cache.entry e).state = .dirty) :
      Update s { s with cache := (s.cache.withdrawFill n).beginEvict e (some n) }
  /-- A fill takes an entry that is INVALID or CLEAN (R90). -/
  | beginsFill (e : EntryIx) (n : Channel) (hnext : s.cache.nextFill = some n)
      (hstate : (s.cache.entry e).state = .invalid ∨ (s.cache.entry e).state = .clean) :
      Update s { s with cache := (s.cache.withdrawFill n).beginFill e n }
  /-- An entry that has been cast out goes on to the fill that chose it (R91). -/
  | goesOn (e : EntryIx) (n : Channel) (hstate : (s.cache.entry e).state = .evicting)
      (hnext : (s.cache.entry e).next = some n) :
      Update s { s with cache := s.cache.modify e fun x => { x with tag := n, state := .filling, next := none } }
  /-- The master port grants a request (R125). -/
  | grants : Update s s.grant
  /-- The work of the command unit goes on (R102, R103, R169). -/
  | works (w : Work) (hw : s.cmd.work.SameKind w) : Update s (s.setWork w)
  /-- The request in progress changes or ends (Table 4-2). -/
  | serves (o : Option Request) (hidle : s.engine = none → o = none)
      (hready : s.ReadyLaw → State.ReadyLaw { s with engine := o }) : Update s { s with engine := o }
  /-- A request is formed from a header, with the segment of a PUT (R63, R128). -/
  | takes (r : Request) (m : Mover) (hfresh : r.Fresh) (hrunning : s.cmd.node = .running)
      (hm : m = s.mover ∨ ∃ len, m = s.mover.openSegment s.nextMsg len) :
      Update s { s with engine := some r, nextMsg := s.nextMsg + 1, mover := m }
  /-- An entry or a reservation enters the completion queue for the request in progress (R71, R74). -/
  | enters (o : Option Request) (c : Completion) (hserved : s.engine ≠ none)
      (hroom : s.ReadyLaw → s.retire.queue.length < 4) (ho : ∀ r, o = some r → r.phase = .replying) :
      Update s { s with engine := o, retire := { s.retire with queue := s.retire.queue ++ [c] } }
  /-- The completion queue changes without growing, and the retire unit moves (R142 to R145). -/
  | retires (q : List Completion) (step : RetireStep) (hq : q.length ≤ s.retire.queue.length) :
      Update s { s with retire := ⟨q, step⟩ }
  /-- The retire unit presents a burst (R143). -/
  | asksRetire (b : Burst) (hb : b.kind.client = .retire) : Update s { s with port := { s.port with retire := some b } }
  /-- The store client's request changes (R129, R130). -/
  | asksStore (o : Option Nat) : Update s { s with port := { s.port with store := o } }
  /-- The fetch client looks at the buffer (R134). -/
  | asksFetch : Update s s.presentFetch
  /-- The burst in flight has ended (R126). -/
  | lands : Update s s.landed
  /-- A body byte is staged (R128). -/
  | stages (msg : Nat) (b : Byte) (hroom : s.mover.occupancy < 256) :
      Update s { s with mover := s.mover.modify msg fun x => { x with held := x.held ++ [b], due := x.due - 1 } }
  /-- A segment changes and holds no more than it did (R128 to R133). -/
  | segments (msg : Nat) (f : Segment → Segment)
      (hf : ∀ x, (f x).msg = x.msg ∧ (f x).held.length ≤ x.held.length) :
      Update s { s with mover := s.mover.modify msg f }
  /-- Segments leave the FIFO (R127). -/
  | sweeps (p : Segment → Bool) :
      Update s { s with mover := { s.mover with segments := s.mover.segments.filter p } }
  /-- The buffer is set to serve a message (R134). -/
  | startsFetch (msg : Nat) (start : Addr) (len : Nat) :
      Update s { s with mover := { s.mover with staging := some ⟨msg, start, len, []⟩ } }
  /-- The buffer goes on holding no more than it did (R53, R136). -/
  | restages (t u : Staging) (ht : s.mover.staging = some t) (hmsg : u.msg = t.msg)
      (hheld : u.held.length ≤ t.held.length) : Update s { s with mover := { s.mover with staging := some u } }
  /-- The buffer serves no message (R135). -/
  | abandons : Update s { s with mover := { s.mover with staging := none }, port := { s.port with fetch := none } }
  /-- The bytes of the fetch burst in flight join the buffer as the burst ends (R134). -/
  | joins (b : Burst) (t u : Staging) (bytes : Nat) (hflight : s.port.inFlight = some b)
      (hkind : b.kind = .fetch t.msg bytes) (ht : s.mover.staging = some t) (hmsg : u.msg = t.msg)
      (hheld : u.held.length = t.held.length + bytes) :
      Update s { s with
        mover := { s.mover with staging := some u }, port := { s.port with inFlight := none } }

/-- What the host's writes, the command unit and the event writer do beyond the small updates. None changes the entries
of the cache, the completion queue, the data mover's buffers or the master port, but for what the writer presents. -/
inductive State.HostUpdate (s : State) : State → Prop where
  /-- The registers of the host interface and the command unit change (chapter 9). -/
  | commands (h : HostIf) (c : CommandUnit) : HostUpdate s { s with host := h, cmd := c }
  /-- Channel status records change (chapter 6). -/
  | records (v : Vector ChannelRecord 64) : HostUpdate s { s with status := v }
  /-- Fills are asked for (R100, R101, R116). -/
  | asksFills (l : List Channel) : HostUpdate s { s with cache := { s.cache with fills := l } }
  /-- The guard windows change (R137). -/
  | guards (v : Vector GuardWindow 4) : HostUpdate s { s with mover := { s.mover with guards := v } }
  /-- The event writer looks at its queue (R149). -/
  | looks : HostUpdate s s.writerLook
  /-- The ring is placed anew (R148). -/
  | placesRing (base : Addr) (size : BitVec 4) :
      HostUpdate s { s with writer := { s.writer with eqBase := base, eqSize := size }.resetIndices }
  /-- The host has read entries (R148). -/
  | consumes (q : BitVec 12) : HostUpdate s { s with writer := { s.writer with consumer := q } }
  /-- The writer resumes (R154). -/
  | resumes : HostUpdate s { s with writer := { s.writer with active := true } }
  /-- An entry has been written (R150). -/
  | entryWritten : HostUpdate s { s with writer := s.writer.entryWritten }
  /-- The writer halts (R153). -/
  | halts : HostUpdate s { s with writer := s.writer.halt }

/-- A chain of small updates. -/
def State.Leads : State → State → Prop := Relation.ReflTransGen State.Update

/-- A chain of updates of either kind. -/
def State.Moves : State → State → Prop := Relation.ReflTransGen fun s t => s.Update t ∨ s.HostUpdate t

namespace State.Leads

theorem refl {s : State} : s.Leads s := Relation.ReflTransGen.refl
theorem of_update {s t : State} (h : s.Update t) : s.Leads t := Relation.ReflTransGen.single h
theorem trans {s t u : State} (h : s.Leads t) (h' : t.Leads u) : s.Leads u := Relation.ReflTransGen.trans h h'
theorem andThen {s t u : State} (h : s.Leads t) (h' : t.Update u) : s.Leads u := Relation.ReflTransGen.tail h h'

/-- What every update keeps, every chain keeps. -/
theorem keeps {P : State → Prop} (hP : ∀ s t, s.Update t → P s → P t) {s t : State} (h : s.Leads t) (hs : P s) :
    P t := by
  induction h with
  | refl => exact hs
  | tail _ hupdate ih => exact hP _ _ hupdate ih

theorem moves {s t : State} (h : s.Leads t) : s.Moves t := by
  induction h with
  | refl => exact .refl
  | tail _ hupdate ih => exact .tail ih (.inl hupdate)

end State.Leads

namespace State.Moves

theorem refl {s : State} : s.Moves s := Relation.ReflTransGen.refl
theorem of_update {s t : State} (h : s.HostUpdate t) : s.Moves t := Relation.ReflTransGen.single (.inr h)
theorem trans {s t u : State} (h : s.Moves t) (h' : t.Moves u) : s.Moves u := Relation.ReflTransGen.trans h h'
theorem andThen {s t u : State} (h : s.Moves t) (h' : t.HostUpdate u) : s.Moves u :=
  Relation.ReflTransGen.tail h (.inr h')

theorem keeps {P : State → Prop} (hP : ∀ s t, s.Update t → P s → P t) (hH : ∀ s t, s.HostUpdate t → P s → P t)
    {s t : State} (h : s.Moves t) (hs : P s) : P t := by
  induction h with
  | refl => exact hs
  | tail _ hupdate ih => exact hupdate.elim (hP _ _ · ih) (hH _ _ · ih)

end State.Moves

end Sys2Proof.Machine


/-! PROOFS. The operations of the blocks as chains of updates. -/

namespace Sys2Proof.Machine

open State.Leads (refl of_update)

/-! ### Events and counts -/

theorem State.raise_leads (s : State) (kind : EventKind) (channel detail : Byte) (aux16 : Half) (aux32 : Word) :
    s.Leads (s.raise kind channel detail aux16 aux32) := of_update (.raises _)

theorem State.requestError_leads (s : State) (r : Request) (detail : ErrorDetail) (aux32 : Word) :
    s.Leads (s.requestError r detail aux32) := by
  unfold State.requestError
  repeat' split
  · exact s.raise_leads ..
  all_goals exact refl

theorem State.countError_leads (s : State) (r : Request) (detail : ErrorDetail) (aux32 : Word) :
    s.Leads (s.countError r detail aux32) := by
  unfold State.countError
  split
  next e _ => exact (of_update (.changes e _)).trans (State.requestError_leads _ r detail aux32)
  next => exact refl

theorem State.refusal_leads (s : State) (r : Request) (reason : RefuseReason) : s.Leads (s.refusal r reason) := by
  unfold State.refusal
  repeat' split
  · exact s.raise_leads ..
  all_goals exact refl

theorem State.countDuplicate_leads (s : State) (r : Request) : s.Leads (s.countDuplicate r) := by
  unfold State.countDuplicate
  split
  next e _ => exact of_update (.changes e _)
  next => exact refl

theorem State.takeAll_leads (s : State) (evs : List Event) :
    s.Leads { s with writer := s.writer.takeAll evs } := by
  induction evs generalizing s with
  | nil => exact refl
  | cons ev evs ih => exact (of_update (.raises ev)).trans (ih _)

/-- A record changes in a flag that its channel alone has. -/
theorem State.setRecord_leads (s : State) (n : Channel) {f : ChannelRecord → ChannelRecord}
    (hf : ∀ x, (f x).hold = x.hold ∧ (f x).pinned = x.pinned) : s.Leads (s.setRecord n f) := by
  refine of_update (.flags _ fun m => ?_)
  change ((s.setRecord n f).record m).hold = _ ∧ ((s.setRecord n f).record m).pinned = _
  rw [State.record_setRecord]
  split
  next h => exact h ▸ hf _
  next => exact ⟨rfl, rfl⟩

/-! ### The data mover -/

theorem State.presentStore_leads (s : State) : s.Leads s.presentStore := by
  rw [State.presentStore_eq]
  exact of_update (.asksStore _)

theorem Segment.discard_le (x : Segment) (carried : Option Nat) :
    (x.discard carried).msg = x.msg ∧ (x.discard carried).held.length ≤ x.held.length :=
  ⟨rfl, by simp [Segment.discard]⟩

theorem State.sweepSegments_leads (s : State) : s.Leads s.sweepSegments := of_update (.sweeps _)

theorem State.discardSegment_leads (s : State) (msg : Nat) : s.Leads (s.discardSegment msg) :=
  (of_update (.segments msg _ fun x => x.discard_le (s.port.carried msg))).andThen (.asksStore _)
    |>.trans (State.sweepSegments_leads _) |>.trans (State.presentStore_leads _)

theorem State.endSegmentFrame_leads (s : State) (msg : Nat) : s.Leads (s.endSegmentFrame msg) :=
  (of_update (.segments msg (fun x => { x with due := 0, frameEnded := true }) fun _ => ⟨rfl, Nat.le_refl _⟩)).trans
    (State.sweepSegments_leads _) |>.trans (State.presentStore_leads _)

theorem State.presentFetch_leads (s : State) : s.Leads s.presentFetch := of_update .asksFetch

theorem State.startFetch_leads (s : State) (msg : Nat) (start : Addr) (len : Nat) :
    s.Leads (s.startFetch msg start len) := (of_update (.startsFetch msg start len)).trans (State.presentFetch_leads _)

theorem State.abandonFetch_leads (s : State) (msg : Nat) : s.Leads (s.abandonFetch msg) := by
  obtain ⟨h, -⟩ | ⟨t, -, -, h⟩ := s.abandonFetch_cases msg <;> rw [h]
  · exact refl
  · exact of_update .abandons

theorem State.abandonData_leads (s : State) (r : Request) : s.Leads (s.abandonData r) := by
  unfold State.abandonData
  split
  · exact s.discardSegment_leads r.msg
  · exact s.abandonFetch_leads r.msg

/-! ### The ends of a request -/

/-- The engine goes to IDLE. -/
theorem State.idle_leads (s : State) : s.Leads { s with engine := none } :=
  of_update (.serves none (fun _ => rfl) fun _ _ h => nomatch h)

theorem State.leaveRequest_leads (s : State) (r : Request) : s.Leads (s.leaveRequest r) := by
  unfold State.leaveRequest
  split
  next e _ => exact s.idle_leads.andThen (.marks e false)
  next => exact s.idle_leads

theorem State.endRequest_leads (s : State) (r : Request) : s.Leads (s.endRequest r) :=
  (s.abandonData_leads r).trans (State.leaveRequest_leads _ r)

theorem State.settleBroadcast_leads (s : State) : s.Leads s.settleBroadcast := by
  obtain h | ⟨r, -, -, -, -, h⟩ := s.settleBroadcast_cases <;> rw [h]
  · exact refl
  · refine .trans ?_ (State.endRequest_leads _ r)
    split
    · exact s.countError_leads ..
    · exact refl

/-- A request in progress takes an outcome that is not ACCEPT of a new message. -/
theorem State.serves_leads {s : State} {r : Request} (hserved : s.engine ≠ none)
    (hlookup : r.phase ≠ .lookup) (hverdict : r.verdict ≠ .acceptNew) : s.Leads { s with engine := some r } := by
  refine of_update (.serves _ (fun h => absurd h hserved) fun _ x hx => ?_)
  cases hx
  exact ⟨fun h => absurd h hlookup, fun _ h => absurd h hverdict⟩

/-- A request in progress changes in what neither its phase, its outcome nor its readiness is. -/
theorem State.edits_leads {s : State} {r r1 : Request} (hr : s.engine = some r) (hphase : r1.phase = r.phase)
    (hverdict : r1.verdict = r.verdict) (hready : r1.ready = r.ready) : s.Leads { s with engine := some r1 } := by
  refine of_update (.serves _ (fun h => by simp [hr] at h) fun h x hx => ?_)
  cases hx
  rw [hphase, hverdict, hready]
  exact h r hr

theorem State.conclude_leads {s : State} (hserved : s.engine ≠ none) (r : Request) {v : Verdict}
    (hv : v ≠ .acceptNew) : s.Leads (s.conclude r v) :=
  (State.serves_leads hserved (by simp) hv).trans (State.abandonData_leads _ r) |>.trans (State.settleBroadcast_leads _)

theorem Request.faultVerdict_ne (r : Request) : r.faultVerdict ≠ .acceptNew := by
  unfold Request.faultVerdict
  split <;> nofun

theorem State.contextLost_leads (s : State) (e : EntryIx) : s.Leads (s.contextLost e) := by
  obtain h | ⟨r, hr, -, ⟨hphase, h⟩ | ⟨-, h⟩⟩ := s.contextLost_cases e <;> rw [h]
  · exact refl
  · exact State.edits_leads hr rfl rfl rfl
  · exact State.conclude_leads (by simp [hr]) _ r.faultVerdict_ne

theorem State.lookupFaults_leads (s : State) (n : Channel) : s.Leads (s.lookupFaults n) := by
  obtain h | ⟨r, hr, -, -, h⟩ := s.lookupFaults_cases n <;> rw [h]
  · exact refl
  · exact State.conclude_leads (by simp [hr]) _ r.faultVerdict_ne

/-! ### Admission -/

theorem State.swapForGet_leads (s : State) (r : Request) (e : EntryIx) : s.Leads (s.swapForGet r e) := by
  have swapped : s.Leads ((s.changeContext e fun d => d.setActive (!d.active)).setRecord r.channel
      fun x => { x with returned := false }) :=
    (of_update (.changes e _)).trans (State.setRecord_leads _ r.channel fun _ => ⟨rfl, rfl⟩)
  unfold State.swapForGet
  dsimp only
  repeat' split
  · exact swapped.trans (State.raise_leads ..)
  · exact swapped
  · exact refl

/-- A request that is admitted was in LOOKUP, and so not ready. -/
def State.InLookup (s : State) (r : Request) : Prop := ∃ r0, s.engine = some r0 ∧ r0.phase = .lookup ∧ r0.ready = r.ready

theorem State.admits_leads {s : State} {r : Request} (hlookup : s.InLookup r) (hphase : r.phase = .admitted) :
    s.Leads { s with engine := some r } := by
  obtain ⟨r0, hr0, hphase0, hready0⟩ := hlookup
  refine of_update (.serves _ (fun h => by simp [hr0] at h) fun h x hx => ?_)
  cases hx
  have hnot := ((h r0 hr0).1 hphase0).2
  exact ⟨fun hl => by simp [hphase] at hl, fun _ _ hready => by simp [← hready0, hnot] at hready⟩

theorem State.acceptNew_leads {s : State} {r : Request} (hlookup : s.InLookup r) (e : EntryIx) :
    s.Leads (s.acceptNew r e) := by
  have hserved : s.engine ≠ none := by
    obtain ⟨r0, hr0, -⟩ := hlookup
    simp [hr0]
  unfold State.acceptNew
  split
  · refine .trans (s.swapForGet_leads r e) (.trans (State.admits_leads ?_ rfl) (State.startFetch_leads _ r.msg _ _))
    simpa [State.InLookup] using hlookup
  · split
    · exact State.conclude_leads hserved r (by split <;> nofun)
    · exact (State.admits_leads (r := { r with phase := .admitted, verdict := .acceptNew, ranges := some _ }) hlookup
        rfl).andThen (.segments r.msg (fun x => { x with state := .storing, next := _ }) fun _ => ⟨rfl, Nat.le_refl _⟩) |>.trans (State.presentStore_leads _)

theorem State.acceptDuplicate_leads {s : State} {r : Request} (hlookup : s.InLookup r) (e : EntryIx) :
    s.Leads (s.acceptDuplicate r e) := by
  have hadmitted : s.Leads { s with engine := some { r with phase := .admitted, verdict := .acceptDuplicate } } :=
    State.admits_leads hlookup rfl
  unfold State.acceptDuplicate
  dsimp only
  split
  · exact hadmitted.trans (State.discardSegment_leads _ r.msg)
  · exact hadmitted.trans (State.startFetch_leads _ r.msg _ _)

theorem State.admitRequest_leads {s : State} {r : Request} (hlookup : s.InLookup r) (e : EntryIx) :
    s.Leads (s.admitRequest r e) := by
  have hserved : s.engine ≠ none := by
    obtain ⟨r0, hr0, -⟩ := hlookup
    simp [hr0]
  unfold State.admitRequest
  refine .trans (of_update (.marks e true)) ?_
  dsimp only
  split
  · exact State.conclude_leads (by exact hserved) _ (by simp)
  · exact State.conclude_leads (by exact hserved) _ (by split <;> simp)
  · exact State.acceptDuplicate_leads (by exact hlookup) e
  · exact State.acceptNew_leads (by exact hlookup) e

theorem State.lookupAnswered_leads (s : State) (n : Channel) (e : EntryIx) : s.Leads (s.lookupAnswered n e) := by
  unfold State.lookupAnswered
  repeat' split
  next r hr h => exact State.admitRequest_leads ⟨r, hr, h.2, rfl⟩ e
  all_goals exact refl

theorem State.lookup_leads {s : State} {r : Request} (hlookup : s.InLookup r)
    (hfree : (s.record r.channel).hold = .free) (hrunning : s.cmd.node = .running) : s.Leads (s.lookup r) := by
  have hasks : s.Leads { s with cache := s.cache.requestFill r.channel } := of_update (.asksFill _ hfree hrunning)
  unfold State.lookup
  repeat' split
  · exact .trans (of_update (.touches _)) (State.admitRequest_leads (by exact hlookup) _)
  all_goals exact hasks

theorem State.holdCheck_leads {s : State} {r : Request} (hlookup : s.InLookup r) (hrunning : s.cmd.node = .running) :
    s.Leads (s.holdCheck r) := by
  have hserved : s.engine ≠ none := by
    obtain ⟨r0, hr0, -⟩ := hlookup
    simp [hr0]
  unfold State.holdCheck
  split
  next hfree => exact State.lookup_leads hlookup hfree hrunning
  · exact State.conclude_leads hserved _ r.faultVerdict_ne
  · exact State.conclude_leads hserved _ (by split <;> nofun)

theorem State.overtake_leads (s : State) : s.Leads s.overtake := by
  unfold State.overtake
  split
  next r _ =>
    refine .trans ?_ (State.endRequest_leads _ r)
    split
    · exact s.countError_leads ..
    · exact refl
  next => exact refl

theorem State.takeHeader_leads {s : State} (hrunning : s.cmd.node = .running) (kind : MsgKind) (broadcast : Bool)
    (h : RequestHeader) : s.Leads (s.takeHeader kind broadcast h) := by
  unfold State.takeHeader
  refine .trans s.overtake_leads ?_
  refine .trans (of_update (.takes _ _ ⟨rfl, rfl, rfl⟩ (by simpa using hrunning) ?_))
    (State.holdCheck_leads ⟨_, rfl, rfl, rfl⟩ (by simpa using hrunning))
  cases kind
  · exact .inr ⟨_, rfl⟩
  · exact .inl rfl

/-! ### The commit -/

theorem State.advance_leads (s : State) (r : Request) (e : EntryIx) (a : Advance) : s.Leads (s.advance r e a) :=
  (of_update (.changes e _)).trans (State.setRecord_leads _ r.channel fun _ => ⟨rfl, rfl⟩)

/-- A completion entry goes to the tail of its queue as the request ends. -/
theorem State.enters_leads {s : State} (hserved : s.engine ≠ none) (hroom : s.ReadyLaw → s.retire.queue.length < 4)
    (c : Completion) (r : Request) :
    s.Leads (State.leaveRequest { s with retire := { s.retire with queue := s.retire.queue ++ [c] } } r) := by
  have henters : s.Leads { s with engine := none, retire := { s.retire with queue := s.retire.queue ++ [c] } } :=
    of_update (.enters none c hserved hroom (by simp))
  unfold State.leaveRequest
  split
  next e _ => exact henters.andThen (.marks e false)
  next => exact henters

/-- A commit enters an entry at the tail where there is room for it. -/
theorem State.commit_enters {s : State} {r : Request} (hserved : s.engine ≠ none)
    (hroom : s.ReadyLaw → s.retire.queue.length < 4) : s.Leads (s.commit r enterAtTail) := by
  unfold State.commit
  split
  next e rg he _ =>
    exact (s.advance_leads r e _).trans (State.enters_leads (by exact hserved) (by exact hroom) _ r)
  next => exact s.leaveRequest_leads r

/-- A commit fills its reservation in place. -/
theorem State.commit_fills (s : State) (r : Request) : s.Leads (s.commit r fillReservation) := by
  unfold State.commit
  split
  next e rg _ _ =>
    exact (s.advance_leads r e _).andThen (.retires _ _ (by simp [fillReservation])) |>.trans
      (State.leaveRequest_leads _ r)
  next => exact s.leaveRequest_leads r

theorem State.releaseReservation_leads (s : State) (r : Request) : s.Leads (s.releaseReservation r) :=
  of_update (.retires _ _ (List.length_filter_le _ _))

theorem State.abortGet_leads (s : State) (r : Request) (detail : ErrorDetail) (sent : Nat) :
    s.Leads (s.abortGet r detail sent) :=
  (s.releaseReservation_leads r).trans (State.countError_leads ..) |>.trans (State.endRequest_leads _ r)

theorem State.abandonLost_leads (s : State) (r : Request) : s.Leads (s.abandonLost r) :=
  (s.releaseReservation_leads r).trans (State.endRequest_leads _ r)

/-! ### The retire unit -/

theorem State.releaseHead_leads (s : State) : s.Leads s.releaseHead := by
  obtain ⟨-, h⟩ | ⟨c, rest, hq, h⟩ := s.releaseHead_cases <;> rw [h]
  · exact refl
  · exact (s.takeAll_leads c.events).andThen (.retires rest .stores (by simp [hq]))

theorem State.askDescriptorWrite_leads (s : State) (n : Channel) : s.Leads (s.askDescriptorWrite n) := by
  obtain ⟨e, -, hdirty, h⟩ | ⟨e, -, -, h⟩ | ⟨-, h⟩ := s.askDescriptorWrite_cases n <;> rw [h]
  · exact (of_update (.beginsWrite e hdirty)).andThen (.retires _ .descriptorWrite (Nat.le_refl _))
      |>.andThen (.asksRetire _ rfl)
  · exact of_update (.retires _ .descriptorWait (Nat.le_refl _))
  · exact s.releaseHead_leads

theorem State.descriptorStep_leads (s : State) : s.Leads s.descriptorStep := by
  unfold State.descriptorStep
  repeat' split
  · exact s.askDescriptorWrite_leads _
  · exact s.releaseHead_leads
  · exact refl

theorem State.retryDescriptor_leads (s : State) : s.Leads s.retryDescriptor := by
  unfold State.retryDescriptor
  split
  · exact s.descriptorStep_leads
  · exact refl

theorem State.reportStoresEnd_leads (s : State) (msg : Nat) (faulted : Bool) :
    s.Leads (s.reportStoresEnd msg faulted) := of_update (.retires _ _ (by simp))

theorem State.presentRecord_leads (s : State) (step : RetireStep) (a : Addr) (w : Word) :
    s.Leads (s.presentRecord step a w) :=
  (of_update (.retires s.retire.queue step (Nat.le_refl _))).andThen (.asksRetire _ rfl)

/-! ### The context cache's bursts -/

theorem State.cacheBurst_client (s : State) (b : CacheBurst) : (s.cacheBurst b).kind.client = .cache := by
  cases b <;> rfl

theorem State.presentCache_leads (s : State) : s.Leads s.presentCache := by
  obtain h | ⟨b, rest, hdue, -, -, h⟩ := s.presentCache_cases <;> rw [h]
  · exact refl
  · exact of_update (.presents b rest _ hdue (s.cacheBurst_client b))

theorem State.cacheDue_leads {s : State} {b : CacheBurst} (h : (s.cache.entry b.entry).state ≠ .invalid) :
    s.Leads (s.cacheDue b) := (of_update (.owes b h)).trans (State.presentCache_leads _)

theorem State.beginInvalidation_leads {s : State} {e : EntryIx} (h : (s.cache.entry e).state = .dirty) :
    s.Leads (s.beginInvalidation e) := by
  refine (of_update (.castsOut e h)).trans (State.cacheDue_leads ?_)
  simp [CacheBurst.entry, Cache.entry_beginEvict]

theorem State.beginFlushCastout_leads {s : State} {e : EntryIx} (h : (s.cache.entry e).state = .dirty) :
    s.Leads (s.beginFlushCastout e) := by
  refine (of_update (.beginsWrite e h)).trans (State.cacheDue_leads ?_)
  simp [CacheBurst.entry, Cache.entry_beginWrite]

theorem State.burstWrites_leads (s : State) (b : Burst) (r : WriteEnd) : s.Leads (s.burstWrites b r) := by
  cases r <;> exact of_update (.writes _ _)

theorem State.landed_leads (s : State) : s.Leads s.landed := of_update .lands

/-! ### Faults -/

theorem Work.sameKind_noteReport (w : Work) : w.SameKind w.noteReport := by
  cases w <;> simp [Work.SameKind, Work.kind, Work.noteReport]

theorem Work.sameKind_memberFaults (w : Work) (e : EntryIx) (n : Channel) : w.SameKind (w.memberFaults e n) := by
  cases w <;> simp [Work.SameKind, Work.kind, Work.memberFaults]

theorem Work.sameKind_castEnds (w : Work) (e : EntryIx) : w.SameKind (w.castEnds e) := by
  cases w <;> simp [Work.SameKind, Work.kind, Work.castEnds]

theorem Work.sameKind_entryTaken (w : Work) (e : EntryIx) : w.SameKind (w.entryTaken e) := by
  cases w <;> simp [Work.SameKind, Work.kind, Work.entryTaken]

/-- An entry that a fault takes: its channel is reported, and a lookup that waits for it answered. -/
theorem State.failsEntry_leads {s : State} {e : EntryIx} (hstate : (s.cache.entry e).state ≠ .invalid)
    (reason : FaultReason) (subCode : BitVec 4) :
    s.Leads (State.reportFault { s with cache := s.cache.invalidate e } (s.cache.entry e).tag reason subCode) :=
  (of_update (.fails e reason subCode hstate)).andThen (.raises _)
    |>.andThen (.works _ (Work.sameKind_noteReport _)) |>.trans (State.lookupFaults_leads _ _)

theorem State.fillFaults_leads {s : State} {e : EntryIx} (hstate : (s.cache.entry e).state ≠ .invalid)
    (reason : FaultReason) (subCode : BitVec 4) :
    s.Leads (s.fillFaults e (s.cache.entry e).tag reason subCode) := State.failsEntry_leads hstate reason subCode

theorem State.entryFaults_leads {s : State} {e : EntryIx} (hstate : (s.cache.entry e).state ≠ .invalid) :
    s.Leads (s.entryFaults e) :=
  (of_update (.works _ (Work.sameKind_memberFaults _ e (s.cache.entry e).tag))).trans
    (State.failsEntry_leads (s := s.setWork (s.cmd.work.memberFaults e (s.cache.entry e).tag)) hstate .castoutFault 0) |>.trans (State.contextLost_leads _ e)

end Sys2Proof.Machine


/-! PROOFS. What the receiver, the reply window and the ends of bursts do, as chains of updates. -/

namespace Sys2Proof.Machine

open State.Leads (refl of_update)

/-! ### The receiver -/

theorem State.setRx_leads (s : State) (rx : Receiver) : s.Leads (s.setRx rx) := of_update (.links _)

theorem State.lineError_leads (s : State) (err : LineError) : s.Leads (s.lineError err) := by
  have hcounted : s.Leads { s with link := s.link.countLineError err } := of_update (.links _)
  unfold State.lineError
  dsimp only
  split
  · exact hcounted.trans (State.raise_leads ..)
  · exact hcounted

theorem State.frameMessageError_leads (s : State) (f : Frame) : s.Leads (s.frameMessageError f) := by
  unfold State.frameMessageError
  repeat' split
  · exact s.raise_leads ..
  all_goals exact refl

theorem State.requestFails_leads (s : State) (msg : Nat) : s.Leads (s.requestFails msg) := by
  unfold State.requestFails
  refine .trans ?_ (State.endSegmentFrame_leads _ msg)
  repeat' split
  · exact s.endRequest_leads _
  all_goals exact refl

theorem State.requestCloses_leads (s : State) (msg : Nat) : s.Leads (s.requestCloses msg) := by
  have hends := s.endSegmentFrame_leads msg
  unfold State.requestCloses
  dsimp only
  repeat' split
  next r hr _ =>
    exact hends.trans (State.edits_leads (r1 := { r with closed := true }) hr rfl rfl rfl)
      |>.trans (State.settleBroadcast_leads _)
  all_goals exact hends

theorem State.failFrame_leads (s : State) (f : Frame) (err : LineError) : s.Leads (s.failFrame f err) := by
  have hreported := (s.setRx_leads .idle).trans (State.lineError_leads _ err) |>.trans (State.frameMessageError_leads _ f)
  unfold State.failFrame
  dsimp only
  split
  · exact hreported.trans (State.requestFails_leads _ _)
  · exact hreported

theorem State.breakFrame_leads (s : State) (f : Frame) : s.Leads (s.breakFrame f) := by
  unfold State.breakFrame
  split
  · exact s.failFrame_leads f .frame
  · exact s.failFrame_leads f .frame
  · exact s.setRx_leads .idle

/-- A request in progress has lost a byte to an overflow. -/
theorem State.overflowMarks_leads {s : State} {r : Request} (hr : s.engine = some r) :
    s.Leads (if r.verdict = .acceptNew then
      s.conclude { r with overflow := true } (if r.broadcast then .dropped true else .busyOverflow)
      else { s with engine := some { r with overflow := true } }) := by
  split
  · exact State.conclude_leads (by simp [hr]) _ (by split <;> simp)
  · exact State.edits_leads hr rfl rfl rfl

theorem State.stageByte_leads (s : State) (msg : Nat) (b : Byte) : s.Leads (s.stageByte msg b) := by
  have hdue : s.Leads { s with mover := s.mover.modify msg fun x => { x with due := x.due - 1 } } :=
    of_update (.segments msg (fun x => { x with due := x.due - 1 }) fun _ => ⟨rfl, Nat.le_refl _⟩)
  unfold State.stageByte
  dsimp only
  split
  next => exact hdue
  next hfate =>
    refine .trans (of_update (.stages msg b ?_)) (State.presentStore_leads _)
    unfold Mover.byteFate at hfate
    repeat' split at hfate
    all_goals simp_all [Config.receiveCapacity]
  next =>
    have hdiscarded := hdue.trans (State.discardSegment_leads _ msg)
    split
    next r hr =>
      split
      · exact hdiscarded.trans (State.overflowMarks_leads hr)
      · exact hdiscarded
    next => exact hdiscarded

theorem State.headerComplete_leads (s : State) (f : Frame) (cls : FrameClass) : s.Leads (s.headerComplete f cls) := by
  unfold State.headerComplete
  repeat' split
  · exact s.failFrame_leads f .frame
  · exact s.failFrame_leads f .frame
  next hrunning => exact (s.setRx_leads _).trans (State.takeHeader_leads (by exact hrunning) _ _ _)
  all_goals exact s.setRx_leads _

theorem State.takeBodyByte_leads (s : State) (f : Frame) (b : Byte) : s.Leads (s.takeBodyByte f b) := by
  unfold State.takeBodyByte
  dsimp only
  repeat' split
  case h_1 => exact refl
  case isFalse.isFalse => exact s.failFrame_leads f .frame
  all_goals first | exact s.setRx_leads _ | exact (s.setRx_leads _).trans (State.stageByte_leads _ _ b)

theorem State.takeByte_leads (s : State) (f : Frame) (b : Byte) : s.Leads (s.takeByte f b) := by
  unfold State.takeByte
  dsimp only
  repeat' split
  all_goals first | exact s.setRx_leads _ | exact s.headerComplete_leads _ _ | exact s.takeBodyByte_leads f b

theorem State.clearSeqValid_leads (s : State) : s.Leads s.clearSeqValid := by
  refine of_update (.flags _ fun n => ?_)
  simp [State.record]

theorem State.nodeResetCloses_leads (s : State) (cls : FrameClass) : s.Leads (s.nodeResetCloses cls) := by
  have hreset := s.clearSeqValid_leads.andThen (.links { s.link with cycle := 0, offset := 0 })
  unfold State.nodeResetCloses
  dsimp only
  split
  · exact hreset.trans (State.raise_leads ..)
  · exact hreset

theorem State.afterClose_leads (s : State) (cls : FrameClass) (source : ReplySource) (h : RequestHeader) :
    s.Leads (s.afterClose cls source h) := by
  unfold State.afterClose
  split
  all_goals exact s.setRx_leads _

theorem State.syncCloses_leads (s : State) (body : List Byte) : s.Leads (s.syncCloses body) := by
  unfold State.syncCloses
  split
  · exact of_update (.links _)
  · exact refl

theorem State.goodClose_leads (s : State) (f : Frame) (cls : FrameClass) (h : RequestHeader) :
    s.Leads (s.goodClose f cls h) := by
  unfold State.goodClose
  repeat' split
  · exact (s.afterClose_leads ..).trans (State.syncCloses_leads ..)
  · exact s.afterClose_leads ..
  · exact (s.afterClose_leads ..).trans (State.nodeResetCloses_leads ..)
  · exact (s.afterClose_leads ..).trans (State.requestCloses_leads ..)
  · exact s.afterClose_leads ..

theorem State.closeFrame_leads (s : State) (f : Frame) (cls : FrameClass) : s.Leads (s.closeFrame f cls) := by
  unfold State.closeFrame
  repeat' split
  · exact s.failFrame_leads f .frame
  · exact s.failFrame_leads f .frame
  · exact s.failFrame_leads f .crc
  · exact s.goodClose_leads f cls _

theorem State.takeOpening_leads (s : State) : s.Leads s.takeOpening := by
  unfold State.takeOpening
  split
  · exact s.setRx_leads _
  · exact (s.breakFrame_leads _).trans (State.setRx_leads _ _)
  · exact s.lineError_leads _
  · exact refl
  · exact s.lineError_leads _

theorem State.takeData_leads (s : State) (b : Byte) : s.Leads (s.takeData b) := by
  unfold State.takeData
  split
  · exact s.takeByte_leads _ b
  · exact refl

theorem State.takeClosing_leads (s : State) : s.Leads s.takeClosing := by
  unfold State.takeClosing
  repeat' split
  · exact s.closeFrame_leads _ _
  · exact s.closeFrame_leads _ _
  · exact s.setRx_leads _
  · exact refl

theorem State.takeAbort_leads (s : State) : s.Leads s.takeAbort := by
  unfold State.takeAbort
  split
  · exact s.breakFrame_leads _
  · exact refl

theorem State.takeBad_leads (s : State) : s.Leads s.takeBad := by
  unfold State.takeBad
  repeat' split
  · exact refl
  · exact s.breakFrame_leads _
  · exact refl

/-! ### The reply window -/

theorem State.transmit_leads (s : State) (o : OwedReply) (code : ReplyCode) (length : Byte) (body : List Byte)
    (data : Bool) (left : Nat) : s.Leads (s.transmit o code length body data left) := of_update (.links _)

theorem State.sendSymbols_leads (s : State) (xs : List LineSymbol) : s.Leads (s.sendSymbols xs) :=
  of_update (.links _)

theorem State.closeReply_leads (s : State) : s.Leads s.closeReply :=
  (s.sendSymbols_leads _).trans (State.setRx_leads _ _)

theorem State.sendAbort_leads (s : State) (tx : Transmission) : s.Leads (s.sendAbort tx) :=
  (s.sendSymbols_leads _).trans (State.setRx_leads _ _)

/-- An accepted new message that is ready to be declared finds a free entry in the completion queue. -/
theorem State.room_of_readyConditions {s : State} {r : Request} (h : s.readyConditions r = true)
    (hnew : r.verdict = .acceptNew) : s.retire.queue.length < 4 := by
  cases hkind : r.kind
  all_goals
    simp only [State.readyConditions, hnew, hkind, Bool.and_eq_true] at h
    exact of_decide_eq_true h.1.1

theorem State.declareReady_leads (s : State) : s.Leads s.declareReady := by
  unfold State.declareReady
  split
  next r hr =>
    split
    next hcond =>
      obtain ⟨-, -, -, hready⟩ := hcond
      refine of_update (.serves _ (fun h => by simp [hr] at h) fun hlaw x hx => ?_)
      cases hx
      refine ⟨fun hlookup => ?_, fun _ hnew _ => State.room_of_readyConditions hready hnew⟩
      have hundecided := ((hlaw r hr).1 hlookup).1
      simp [State.readyConditions, hundecided] at hready
    next => exact refl
  next => exact refl

theorem State.commitBroadcast_leads (s : State) : s.Leads s.commitBroadcast := by
  unfold State.commitBroadcast
  split
  next r hr =>
    split
    next hcond =>
      obtain ⟨-, -, hnew, hready⟩ := hcond
      exact State.commit_enters (by simp [hr]) fun _ => State.room_of_readyConditions hready hnew
    next => exact refl
  next => exact refl

theorem State.replyStarts_leads {s : State} {r : Request} (hr : s.engine = some r) (hready : r.ready = true)
    (hphase : r.phase ≠ .replying) : s.Leads (s.replyStarts r) := by
  have hroom (hnew : r.verdict = .acceptNew) (hlaw : s.ReadyLaw) : s.retire.queue.length < 4 :=
    (hlaw r hr).2 hphase hnew hready
  unfold State.replyStarts
  split
  next hnew _ => exact State.commit_enters (by simp [hr]) (hroom hnew)
  next hnew _ =>
    refine of_update (.enters _ (reservation r) (by simp [hr]) (hroom hnew) fun x hx => ?_)
    cases hx
    rfl
  · exact (s.countDuplicate_leads r).trans (State.endRequest_leads _ r)
  next hverdict _ => exact State.serves_leads (by simp [hr]) (by simp) (by simp [hverdict])
  · exact (s.countError_leads ..).trans (State.endRequest_leads _ r)
  · exact (s.countError_leads ..).trans (State.endRequest_leads _ r)
  · exact (s.refusal_leads ..).trans (State.endRequest_leads _ r)
  · exact (s.requestError_leads ..).trans (State.endRequest_leads _ r)
  · exact (s.requestError_leads ..).trans (State.endRequest_leads _ r)
  · exact s.endRequest_leads r

theorem State.startEngineReply_leads {s : State} {r : Request} (hr : s.engine = some r) (hready : r.ready = true)
    (hphase : r.phase ≠ .replying) (o : OwedReply) : s.Leads (s.startEngineReply o r) := by
  unfold State.startEngineReply
  split
  all_goals exact (s.transmit_leads ..).trans (State.replyStarts_leads (by exact hr) hready hphase)

theorem State.startReply_leads (s : State) : s.Leads s.startReply := by
  unfold State.startReply
  split
  · split
    · exact s.transmit_leads ..
    · exact s.transmit_leads ..
    · exact s.transmit_leads ..
    · repeat' split
      next hr hcond => exact State.startEngineReply_leads hr hcond.1 hcond.2 _
      all_goals exact refl
  · exact refl

theorem State.reachEarliest_leads (s : State) : s.Leads s.reachEarliest := by
  unfold State.reachEarliest
  split
  · exact s.setRx_leads _
  · exact refl

theorem State.expire_leads (s : State) : s.Leads s.expire := by
  unfold State.expire
  repeat' split
  · exact refl
  · exact (s.endRequest_leads _).trans (State.transmit_leads ..)
  · exact s.transmit_leads ..
  all_goals exact refl

theorem State.sendByte_leads {s : State} {t : Staging} {b : Byte} {rest : List Byte} (ht : s.mover.staging = some t)
    (hheld : t.held = b :: rest) (tx : Transmission) : s.Leads (s.sendByte tx t b rest) :=
  (of_update (.restages t { t with held := rest } ht rfl (by simp [hheld]))).trans (State.sendSymbols_leads _ _)
    |>.trans (State.setRx_leads _ _) |>.trans (State.presentFetch_leads _)

theorem State.byteDue_leads (s : State) (tx : Transmission) (r : Request) : s.Leads (s.byteDue tx r) := by
  unfold State.byteDue
  repeat' split
  · exact (s.abandonLost_leads r).trans (State.sendAbort_leads _ tx)
  · exact (s.abortGet_leads ..).trans (State.sendAbort_leads _ tx)
  next ht _ _ _ hheld _ => exact State.sendByte_leads ht hheld tx
  all_goals exact (s.abortGet_leads ..).trans (State.sendAbort_leads _ tx)

theorem State.transmitDue_leads (s : State) : s.Leads s.transmitDue := by
  unfold State.transmitDue
  repeat' split
  · exact s.byteDue_leads _ _
  all_goals exact refl

theorem State.abortClose_leads (s : State) (r : Request) : s.Leads (s.abortClose r) :=
  (s.sendSymbols_leads _).andThen (.writes _ _) |>.trans (State.abandonLost_leads _ r) |>.trans (State.setRx_leads _ _)

theorem State.completeGet_leads (s : State) (r : Request) : s.Leads (s.completeGet r) := by
  unfold State.completeGet
  refine .trans ?_ (State.abandonFetch_leads _ r.msg)
  split
  · exact s.commit_fills r
  · exact (s.countDuplicate_leads r).trans (State.leaveRequest_leads _ r)

theorem State.endReply_leads (s : State) : s.Leads s.endReply := by
  unfold State.endReply
  repeat' split
  · exact s.setRx_leads _
  · exact s.closeReply_leads
  · exact refl
  · exact s.abortClose_leads _
  · exact s.closeReply_leads.trans (State.completeGet_leads _ _)
  · exact s.closeReply_leads
  · exact refl

theorem State.endRecovery_leads (s : State) : s.Leads s.endRecovery := by
  unfold State.endRecovery
  split
  · exact s.setRx_leads _
  · exact refl

theorem State.tickOffset_leads (s : State) : s.Leads s.tickOffset := by
  unfold State.tickOffset
  split
  · exact refl
  · exact of_update (.links _)

/-! ### Fills and grants -/

/-- The older of the best entry so far and an entry that satisfies `p`, as the search for the oldest goes on. -/
def Cache.olderOf (c : Cache) (p : Entry → Bool) (best : Option EntryIx) (e : EntryIx) : Option EntryIx :=
  if p (c.entry e) then
    match best with
    | none => some e
    | some b => if (c.entry b).age < (c.entry e).age then some e else some b
  else best

theorem Cache.oldest_eq (c : Cache) (p : Entry → Bool) : c.oldest p = entryOrder.foldl (c.olderOf p) none := rfl

theorem Cache.olderOf_some {c : Cache} {p : Entry → Bool} {best : Option EntryIx} {e x : EntryIx}
    (h : c.olderOf p best e = some x) :
    (best = some x ∨ (x = e ∧ p (c.entry e) = true)) ∧ (∀ b, best = some b → (c.entry b).age ≤ (c.entry x).age) ∧
      (p (c.entry e) = true → (c.entry e).age ≤ (c.entry x).age) := by
  unfold Cache.olderOf at h
  repeat' split at h
  all_goals grind

theorem Cache.olderOf_none {c : Cache} {p : Entry → Bool} {best : Option EntryIx} {e : EntryIx}
    (h : c.olderOf p best e = none) : best = none ∧ p (c.entry e) = false := by
  unfold Cache.olderOf at h
  repeat' split at h
  all_goals grind

/-- The search over a list, from a best entry so far. -/
theorem Cache.foldl_olderOf (c : Cache) (p : Entry → Bool) (l : List EntryIx) (best : Option EntryIx) :
    (∀ x, l.foldl (c.olderOf p) best = some x →
      (best = some x ∨ (x ∈ l ∧ p (c.entry x) = true)) ∧ (∀ b, best = some b → (c.entry b).age ≤ (c.entry x).age) ∧
        ∀ g ∈ l, p (c.entry g) = true → (c.entry g).age ≤ (c.entry x).age) ∧
    (l.foldl (c.olderOf p) best = none → best = none ∧ ∀ g ∈ l, p (c.entry g) = false) := by
  induction l generalizing best with
  | nil => exact ⟨fun x hx => ⟨.inl hx, fun b hb => by simp_all, by simp⟩, fun hx => ⟨hx, by simp⟩⟩
  | cons e l ih =>
    obtain ⟨hsome, hnone⟩ := ih (c.olderOf p best e)
    refine ⟨fun x hx => ?_, fun hx => ?_⟩
    · obtain ⟨hin, hbest, hle⟩ := hsome x hx
      cases hstep : c.olderOf p best e with
      | none =>
        have := Cache.olderOf_none hstep
        grind
      | some y =>
        have := Cache.olderOf_some hstep
        grind
    · obtain ⟨hstep, hl⟩ := hnone hx
      have := Cache.olderOf_none hstep
      grind

/-- The entry of greatest age among those that satisfy `p`. -/
theorem Cache.oldest_some {c : Cache} {p : Entry → Bool} {e : EntryIx} (h : c.oldest p = some e) :
    p (c.entry e) = true ∧ ∀ g, p (c.entry g) = true → (c.entry g).age ≤ (c.entry e).age := by
  obtain ⟨hin, -, hle⟩ := (c.foldl_olderOf p entryOrder none).1 e h
  exact ⟨(hin.resolve_left nofun).2, fun g => hle g (mem_entryOrder g)⟩

theorem Cache.oldest_none {c : Cache} {p : Entry → Bool} (h : c.oldest p = none) (g : EntryIx) :
    p (c.entry g) = false := ((c.foldl_olderOf p entryOrder none).2 h).2 g (mem_entryOrder g)

/-- The entry a fill takes (R90): the oldest INVALID one, or with none the oldest that is eligible. -/
theorem State.fillTarget_some {s : State} {e : EntryIx} (h : s.fillTarget = some e) :
    ((s.cache.entry e).state = .invalid ∧
      ∀ g, (s.cache.entry g).state = .invalid → (s.cache.entry g).age ≤ (s.cache.entry e).age) ∨
    ((∀ g, (s.cache.entry g).state ≠ .invalid) ∧
      (s.cache.entry e).eligible (s.record (s.cache.entry e).tag).pinned = true ∧
      ∀ g, (s.cache.entry g).eligible (s.record (s.cache.entry g).tag).pinned = true →
        (s.cache.entry g).age ≤ (s.cache.entry e).age) := by
  unfold State.fillTarget at h
  split at h
  next e' hinvalid =>
    cases h
    exact .inl (by simpa using Cache.oldest_some hinvalid)
  next hnone =>
    refine .inr ⟨fun g => by simpa using Cache.oldest_none hnone g, ?_⟩
    exact Cache.oldest_some h

theorem State.fillTarget_state {s : State} {e : EntryIx} (h : s.fillTarget = some e) :
    (s.cache.entry e).state = .invalid ∨ (s.cache.entry e).state = .clean ∨ (s.cache.entry e).state = .dirty := by
  obtain ⟨hinvalid, -⟩ | ⟨-, heligible, -⟩ := State.fillTarget_some h
  · exact .inl hinvalid
  · simp only [Entry.eligible, Bool.and_eq_true, Bool.or_eq_true, decide_eq_true_eq] at heligible
    exact .inr heligible.1.1

theorem State.takeFill_leads (s : State) : s.Leads s.takeFill := by
  unfold State.takeFill
  split
  next n e hnext htarget =>
    obtain ⟨hdirty, h⟩ | ⟨hdirty, h⟩ := s.fillTakes_cases n e <;> rw [h]
    · refine (of_update (.evictsFor e n hnext hdirty)).trans (State.cacheDue_leads ?_)
      simp [CacheBurst.entry, Cache.entry_beginEvict]
    · refine (of_update (.beginsFill e n hnext ?_)).andThen (.works _ ?_) |>.trans (State.cacheDue_leads ?_)
      · have := State.fillTarget_state htarget
        tauto
      · exact Work.sameKind_entryTaken _ e
      · simp [CacheBurst.entry, Cache.entry_beginFill]
  next => exact refl

theorem State.grant_leads (s : State) : s.Leads s.grant := of_update .grants

/-! ### The ends of bursts -/

theorem State.fillReads_leads {s : State} {e : EntryIx} (hfilling : (s.cache.entry e).state = .filling)
    (d : Descriptor) : s.Leads (s.fillReads e (s.cache.entry e).tag d) := by
  unfold State.fillReads
  split
  · exact (of_update (.fills e d hfilling)).trans (State.lookupAnswered_leads _ _ e)
  · exact State.fillFaults_leads (by simp [hfilling]) _ _

theorem State.linefillEnds_leads {s : State} {e : EntryIx} (hfilling : (s.cache.entry e).state = .filling) (b : Burst)
    (r : ReadEnd) : s.Leads (s.linefillEnds e b r) := by
  have hlanded := s.landed_leads.trans (State.presentCache_leads _)
  have hentry : (s.landed.presentCache.cache.entry e) = s.cache.entry e := by simp
  unfold State.linefillEnds
  dsimp only
  rw [← hentry]
  split
  · exact hlanded.trans (State.fillFaults_leads (by simp [hfilling]) _ _)
  · exact hlanded.andThen (.writes _ s.landed.presentCache.free) |>.trans
      (State.fillReads_leads (by exact hentry.symm ▸ hfilling) _)

theorem State.endLinefill_leads (s : State) (r : ReadEnd) : s.Leads (s.endLinefill r) := by
  unfold State.endLinefill
  repeat' split
  next hfilling => exact State.linefillEnds_leads hfilling _ r
  all_goals exact refl

/-- The completion of an eviction castout, or what is left of its end after a fault report. -/
theorem State.evictionGoesOn_leads {s : State} {e : EntryIx} {n : Channel} (hstate : (s.cache.entry e).state = .evicting)
    (hnext : (s.cache.entry e).next = some n) : s.Leads (s.evictionGoesOn e n) := by
  refine (of_update (.goesOn e n hstate hnext)).andThen (.works _ (Work.sameKind_entryTaken _ e)) |>.trans
    (State.cacheDue_leads ?_)
  simp [CacheBurst.entry]

theorem State.landedWrites_leads (s : State) (b : Burst) (r : WriteEnd) : s.Leads (s.landed.burstWrites b r) :=
  s.landed_leads.trans (State.burstWrites_leads _ b r)

theorem State.castEnds_leads (s : State) (e : EntryIx) : s.Leads (s.setWork (s.cmd.work.castEnds e)) :=
  of_update (.works _ (Work.sameKind_castEnds _ e))

theorem State.invalidationEnds_leads {s : State} {e : EntryIx} (hstate : (s.cache.entry e).state = .evicting) (b : Burst)
    (r : WriteEnd) : s.Leads (s.invalidationEnds e b r) := by
  have hwritten := (s.landedWrites_leads b r).trans (State.presentCache_leads _)
  unfold State.invalidationEnds
  refine .trans ?_ (State.retryDescriptor_leads _)
  refine .trans ?_ (State.castEnds_leads _ e)
  cases r with
  | completion => exact hwritten.andThen (.invalidates e)
  | busError => exact hwritten.trans (State.entryFaults_leads (by simp [hstate]))

theorem State.endInvalidation_leads (s : State) (r : WriteEnd) : s.Leads (s.endInvalidation r) := by
  unfold State.endInvalidation
  repeat' split
  next hstate => exact State.invalidationEnds_leads hstate _ r
  all_goals exact refl

theorem State.writeEnds_leads {s : State} {e : EntryIx} (hstate : (s.cache.entry e).state.isWriting = true) (b : Burst)
    (r : WriteEnd) : s.Leads (s.writeEnds e b r) := by
  have hwritten := s.landedWrites_leads b r
  unfold State.writeEnds
  refine .trans ?_ (State.castEnds_leads _ e)
  cases r with
  | completion => exact hwritten.andThen (.settles e)
  | busError =>
    refine hwritten.trans (State.entryFaults_leads fun hinvalid => ?_)
    have : (s.cache.entry e).state = .invalid := by simpa using hinvalid
    simp [this, EntryState.isWriting] at hstate

theorem State.endWrite_leads (s : State) (r : WriteEnd) : s.Leads (s.endWrite r) := by
  unfold State.endWrite
  repeat' split
  next hstate =>
    exact (State.writeEnds_leads hstate _ r).trans (State.presentCache_leads _) |>.trans
      (State.retryDescriptor_leads _)
  · exact refl
  next hstate => exact (State.writeEnds_leads hstate _ r).trans (State.releaseHead_leads _)
  all_goals exact refl

theorem State.reportIfEnded_leads (s : State) (msg : Nat) : s.Leads (s.reportIfEnded msg) := by
  unfold State.reportIfEnded
  repeat' split
  · exact s.reportStoresEnd_leads msg false
  all_goals exact refl

theorem State.storeFaultMarks_leads (s : State) (msg : Nat) : s.Leads (s.storeFaultMarks msg) := by
  unfold State.storeFaultMarks
  dsimp only
  split
  next r hr =>
    split
    · split
      · exact State.conclude_leads (by simp [hr]) _ (by split <;> simp)
      · exact State.edits_leads hr rfl rfl rfl
    · exact refl
  next => exact refl

theorem State.storeEnds_leads (s : State) (msg bytes : Nat) (b : Burst) (r : WriteEnd) :
    s.Leads (s.storeEnds msg bytes b r) := by
  have hwritten := s.landedWrites_leads b r
  unfold State.storeEnds
  refine .trans ?_ (State.presentStore_leads _)
  refine .trans ?_ (State.sweepSegments_leads _)
  cases r with
  | completion =>
    exact hwritten.andThen (.segments msg (fun x => x.stored bytes) fun _ => ⟨rfl, by simp [Segment.stored]⟩)
      |>.trans (State.reportIfEnded_leads _ msg)
  | busError =>
    exact hwritten.andThen (.segments msg Segment.faults fun _ => ⟨rfl, by simp [Segment.faults]⟩)
      |>.trans (State.reportStoresEnd_leads _ msg true) |>.trans (State.storeFaultMarks_leads _ msg)

theorem State.endStore_leads (s : State) (r : WriteEnd) : s.Leads (s.endStore r) := by
  unfold State.endStore
  repeat' split
  · exact s.storeEnds_leads _ _ _ r
  all_goals exact refl

theorem State.fetchFaultMarks_leads (s : State) (msg : Nat) : s.Leads (s.fetchFaultMarks msg) := by
  unfold State.fetchFaultMarks
  dsimp only
  split
  next r hr =>
    split
    · split
      · exact State.conclude_leads (by simp [hr]) _ (by simp)
      · exact State.edits_leads hr rfl rfl rfl
    · exact refl
  next => exact refl

@[simp] theorem Memory.readBytes_length (m : Memory) (a : Addr) (n : Nat) : (Memory.readBytes m a n).length = n := by
  induction n generalizing a with
  | zero => rfl
  | succ n ih => simp [Memory.readBytes, ih]

theorem State.modifyStaging_leads (s : State) (msg : Nat) {f : Staging → Staging}
    (hf : ∀ t, (f t).msg = t.msg ∧ (f t).held.length ≤ t.held.length) : s.Leads (s.modifyStaging msg f) := by
  unfold State.modifyStaging
  repeat' split
  next t ht _ => exact of_update (.restages t (f t) ht (hf t).1 (hf t).2)
  all_goals exact refl

theorem State.fetchEnds_leads {s : State} {b : Burst} {msg bytes : Nat} (hflight : s.port.inFlight = some b)
    (hkind : b.kind = .fetch msg bytes) (r : ReadEnd) : s.Leads (s.fetchEnds msg bytes b r) := by
  unfold State.fetchEnds
  dsimp only
  refine .trans ?_ (State.presentFetch_leads _)
  cases r with
  | completion ws =>
    have hread : s.Leads { s with mem := Memory.hostWrites s.mem ws } := of_update (.writes _ s.free)
    dsimp only
    unfold State.modifyStaging
    split
    next t ht =>
      split
      next hmsg => exact hread.andThen (.joins b t _ bytes hflight (by simp [hkind, hmsg]) ht rfl
          (by simp [Staging.fetched]))
      next => exact hread.andThen .lands
    next => exact hread.andThen .lands
  | busError =>
    dsimp only
    split
    · exact s.landed_leads.trans (State.modifyStaging_leads _ msg (f := Staging.faults) fun _ => ⟨rfl, by simp [Staging.faults]⟩)
        |>.trans (State.fetchFaultMarks_leads _ msg)
    · exact s.landed_leads

theorem State.endFetch_leads (s : State) (r : ReadEnd) : s.Leads (s.endFetch r) := by
  unfold State.endFetch
  split
  next hflight =>
    split
    next hkind => exact State.fetchEnds_leads hflight hkind r
    next => exact refl
  next => exact refl

/-! ### The retire unit's record step -/

theorem State.beginRecord_leads (s : State) : s.Leads s.beginRecord := by
  unfold State.beginRecord
  repeat' split
  · exact s.presentRecord_leads ..
  all_goals exact refl

theorem State.recordWordEnds_leads (s : State) (b : Burst) (r : WriteEnd) : s.Leads (s.recordWordEnds b r) := by
  have hwritten := s.landedWrites_leads b r
  unfold State.recordWordEnds
  dsimp only
  split
  next c rest hq =>
    have hnoted := hwritten.andThen (.retires (c.recordWordEnds r :: rest) s.retire.step (by simp [hq]))
    split
    · exact .trans (by simpa using hnoted) (State.presentRecord_leads ..)
    · exact .trans (by simpa using hnoted) (State.descriptorStep_leads _)
  next => exact hwritten

theorem State.endRecordWord_leads (s : State) (r : WriteEnd) : s.Leads (s.endRecordWord r) := by
  unfold State.endRecordWord
  repeat' split
  · exact s.recordWordEnds_leads _ r
  all_goals exact refl

end Sys2Proof.Machine


/-! PROOFS. The host's commands and writes, and the steps of the long commands, as chains of updates: what every command
but a reset does. -/

namespace Sys2Proof.Machine

open State.Moves (refl of_update)

/-! ### The command unit -/

theorem State.endCommand_moves (s : State) (result : CmdResult) : s.Moves (s.endCommand result) :=
  of_update (.commands _ _)

theorem State.setWork_moves (s : State) (w : Work) : s.Moves (s.setWork w) := of_update (.commands s.host _)

theorem State.setInt_moves (s : State) (bit : BitVec 4) : s.Moves (s.setInt bit) := of_update (.commands _ s.cmd)

theorem State.setSticky_moves (s : State) (bit : BitVec 2) : s.Moves (s.setSticky bit) := of_update (.commands _ s.cmd)

theorem State.setRecord_moves (s : State) (n : Channel) (f : ChannelRecord → ChannelRecord) :
    s.Moves (s.setRecord n f) := of_update (.records _)

theorem State.writerLook_moves (s : State) : s.Moves s.writerLook := of_update .looks

theorem State.takeCommand_moves {s : State} {body : State → State} (code operand : Byte)
    (h : ∀ t : State, t.Moves (body t)) : s.Moves (s.takeCommand code operand body) := by
  obtain ⟨-, h'⟩ | ⟨-, h'⟩ := s.takeCommand_cases code operand body <;> rw [h']
  · exact s.setSticky_moves _
  · exact (of_update (.commands s.host _)).trans (h _)

theorem State.channelCommand_moves {s : State} {body : Channel → State → State} (operand : Byte)
    (h : ∀ n (t : State), t.Moves (body n t)) : s.Moves (s.channelCommand operand body) := by
  obtain ⟨-, h'⟩ | ⟨-, -, h'⟩ | ⟨-, -, h'⟩ := s.channelCommand_cases operand body <;> rw [h']
  · exact s.endCommand_moves _
  · exact s.endCommand_moves _
  · exact h _ s

/-! ### Requests for fills -/

theorem Cache.foldl_requestFill (l : List Channel) (c : Cache) :
    ∃ fills, l.foldl Cache.requestFill c = { c with fills := fills } := by
  induction l generalizing c with
  | nil => exact ⟨_, rfl⟩
  | cons n l ih =>
    obtain ⟨fills, h⟩ := ih (c.requestFill n)
    obtain hn | hn := c.requestFill_eq n
    · exact ⟨fills, by simpa [hn] using h⟩
    · exact ⟨fills, by simpa [hn] using h⟩

theorem State.requestFill_moves (s : State) (n : Channel) : s.Moves { s with cache := s.cache.requestFill n } := by
  obtain h | h := s.cache.requestFill_eq n <;> rw [h]
  · exact refl
  · exact of_update (.asksFills _)

theorem State.refill_moves (s : State) (n : Channel) : s.Moves (s.refill n) := by
  unfold State.refill
  split
  · exact s.requestFill_moves n
  · exact refl

/-! ### The ten commands -/

theorem State.startNode_moves (s : State) : s.Moves s.startNode := by
  obtain ⟨fills, hfills⟩ := Cache.foldl_requestFill s.clearSeqValid.pinnedFree s.clearSeqValid.cache
  unfold State.startNode
  dsimp only
  rw [hfills]
  have hcleared : s.Moves s.clearSeqValid := of_update (.records _)
  have hlinked := hcleared.trans
    (State.Leads.of_update (.links { s.link with cycle := 0, offset := 0, rx := .idle })).moves
  exact hlinked.andThen (.commands s.host { s.cmd with node := .running }) |>.andThen (.asksFills fills)

theorem State.startCommand_moves (s : State) : s.Moves s.startCommand := by
  unfold State.startCommand
  repeat' split
  · exact s.endCommand_moves _
  · exact s.endCommand_moves _
  · exact s.startNode_moves.trans (State.endCommand_moves _ _)

theorem State.stopCommand_moves (s : State) : s.Moves s.stopCommand := by
  unfold State.stopCommand
  split
  · exact s.endCommand_moves _
  · exact of_update (.commands s.host _)

theorem State.beforeHold_leads (s : State) : s.Leads { s with engine := s.engine.map Request.beforeHold } := by
  cases hr : s.engine with
  | none =>
    have hsame : { s with engine := (none : Option Request).map Request.beforeHold } = s := by
      rw [Option.map_none, ← hr]
    exact hsame.symm ▸ .refl
  | some r => exact State.edits_leads hr rfl rfl rfl

theorem State.holdChannel_moves (n : Channel) (s : State) : s.Moves (s.holdChannel n) := by
  unfold State.holdChannel
  repeat' split
  · exact s.beforeHold_leads.moves.trans (State.setRecord_moves _ n _) |>.trans (State.setWork_moves _ _)
  · exact (s.setRecord_moves n _).trans (State.endCommand_moves _ _)
  · exact (s.setRecord_moves n _).trans (State.endCommand_moves _ _)
  · exact s.endCommand_moves _

theorem State.releaseChannel_moves (n : Channel) (s : State) : s.Moves (s.releaseChannel n) := by
  have freed : s.Moves ((if (s.record n).pinned then
      (s.setRecord n fun x => { x with hold := .free, reason := .none, subCode := 0 }).refill n
      else s.setRecord n fun x => { x with hold := .free, reason := .none, subCode := 0 }).endCommand .done) := by
    refine .trans ?_ (State.endCommand_moves _ _)
    split
    · exact (s.setRecord_moves n _).trans (State.refill_moves _ n)
    · exact s.setRecord_moves n _
  unfold State.releaseChannel
  split
  · exact freed
  · exact freed
  · exact s.endCommand_moves _

theorem State.returnChannel_moves (n : Channel) (s : State) : s.Moves (s.returnChannel n) := by
  unfold State.returnChannel
  repeat' split
  · exact s.endCommand_moves _
  · exact (s.setRecord_moves n _).trans (State.endCommand_moves _ _)
  · exact s.endCommand_moves _

theorem State.pinChannel_moves (n : Channel) (s : State) : s.Moves (s.pinChannel n) := by
  unfold State.pinChannel
  dsimp only
  repeat' split
  · exact s.endCommand_moves _
  · exact s.endCommand_moves _
  · exact s.endCommand_moves _
  · exact (s.setRecord_moves n _).trans (State.refill_moves _ n) |>.trans (State.endCommand_moves _ _)
  · exact (s.setRecord_moves n _).trans (State.endCommand_moves _ _)

theorem State.unpinChannel_moves (n : Channel) (s : State) : s.Moves (s.unpinChannel n) := by
  unfold State.unpinChannel
  split
  · exact (s.setRecord_moves n _).trans (State.endCommand_moves _ _)
  · exact s.endCommand_moves _

theorem State.flushWith_moves (s : State) (j : CastJob) (f : Bool) : s.Moves (s.flushWith j f) := by
  unfold State.flushWith
  split
  · exact s.endCommand_moves _
  · exact s.setWork_moves _

theorem State.purgeWith_moves (s : State) (j k : CastJob) (f : Bool) : s.Moves (s.purgeWith j k f) := by
  unfold State.purgeWith
  split
  · exact s.endCommand_moves _
  · exact s.setWork_moves _

theorem State.flushCommand_moves (s : State) : s.Moves s.flushCommand := by
  unfold State.flushCommand
  split
  · exact s.endCommand_moves _
  · exact s.endCommand_moves _
  · exact s.flushWith_moves _ _

theorem State.purgeCommand_moves (s : State) : s.Moves s.purgeCommand := by
  unfold State.purgeCommand
  split
  · exact s.endCommand_moves _
  · exact s.endCommand_moves _
  · exact s.purgeWith_moves _ _ _

theorem State.resumeCommand_moves (s : State) : s.Moves s.resumeCommand := by
  unfold State.resumeCommand
  repeat' split
  · exact s.endCommand_moves _
  · exact s.endCommand_moves _
  · exact (of_update .resumes).trans (State.writerLook_moves _) |>.trans (State.endCommand_moves _ _)

/-! ### The other registers -/

theorem State.configured_moves {s : State} {f : State → State} (h : s.Moves (f s)) : s.Moves (s.configured f) := by
  obtain ⟨-, h'⟩ | ⟨-, h'⟩ := s.configured_cases f <;> rw [h']
  · exact h
  · exact s.setSticky_moves _

theorem State.setConfig_moves (s : State) (reg : ConfigReg) (v : Word) : s.Moves (s.setConfig reg v) := by
  cases reg with
  | nodeAddress => exact of_update (.commands _ s.cmd)
  | tableBase => exact of_update (.commands _ s.cmd)
  | guardBase w => exact of_update (.guards _)
  | guardLimit w => exact of_update (.guards _)
  | guardRights => exact of_update (.guards _)

theorem State.writeConfig_moves (s : State) (reg : ConfigReg) (v : Word) : s.Moves (s.writeConfig reg v) :=
  State.configured_moves (s.setConfig_moves reg v)

theorem State.writeEqBase_moves (s : State) (v : Word) : s.Moves (s.writeEqBase v) :=
  State.configured_moves (of_update (.placesRing v s.writer.eqSize))

theorem State.writeEqSize_moves (s : State) (v : Word) : s.Moves (s.writeEqSize v) :=
  State.configured_moves (of_update (.placesRing s.writer.eqBase (v.setWidth 4)))

theorem State.writeGlobalEnables_moves (s : State) (v : Word) : s.Moves (s.writeGlobalEnables v) := by
  unfold State.writeGlobalEnables
  dsimp only
  repeat' split
  all_goals exact of_update (.commands _ s.cmd)

/-! ### The steps of the long commands -/

theorem State.finishHold_moves (s : State) (n : Channel) : s.Moves (s.finishHold n) := by
  unfold State.finishHold
  split
  all_goals exact (s.setRecord_moves n _).trans (State.endCommand_moves _ _)

theorem State.invalidate_leads (s : State) (e : EntryIx) : s.Leads { s with cache := s.cache.invalidate e } :=
  .of_update (.invalidates e)

theorem State.holdStep_moves (s : State) : s.Moves s.holdStep := by
  unfold State.holdStep State.actHold
  repeat' split
  · exact refl
  · exact s.finishHold_moves _
  next hdirty => exact (State.beginInvalidation_leads hdirty).moves
  · exact (s.invalidate_leads _).moves.trans (State.finishHold_moves _ _)
  all_goals exact refl

/-- FLUSH casts out a member that is DIRTY alone (R102). -/
theorem State.flushStepOf_cast {s : State} {e g : EntryIx} {n : Channel} {phase : CastPhase}
    (h : s.flushStepOf e n phase = .cast g) : g = e ∧ (s.cache.entry e).state = .dirty ∧ (s.cache.entry e).tag = n := by
  unfold State.flushStepOf at h
  grind

theorem State.flushJob_moves {s : State} {put : State → CastJob → State} (hput : ∀ (t : State) j, t.Moves (put t j))
    (j : CastJob) : s.Moves (s.flushJob j put) := by
  unfold State.flushJob
  split
  · exact refl
  · split
    · exact refl
    · exact hput s _
    next hstep =>
      obtain ⟨rfl, hdirty, -⟩ := State.flushStepOf_cast hstep
      exact (State.beginFlushCastout_leads hdirty).moves.trans (hput _ _)
    · exact refl

theorem State.flushStep_moves (s : State) : s.Moves s.flushStep := by
  unfold State.flushStep
  split
  · exact State.flushJob_moves (fun t j => t.flushWith_moves j _) _
  · exact State.flushJob_moves (fun t j => t.purgeWith_moves j _ _) _
  · exact refl

/-- PURGE casts out a member of its second set that is DIRTY (R103). -/
theorem State.purgeStepOf_cast {s : State} {k : CastJob} {e g : EntryIx} {n : Channel}
    (h : s.purgeStepOf k e n = .cast g) : g = e ∧ (s.cache.entry e).state = .dirty := by
  unfold State.purgeStepOf at h
  grind

theorem State.purgeStep_moves (s : State) : s.Moves s.purgeStep := by
  unfold State.purgeStep State.purgeJob
  split
  · split
    · split
      · exact refl
      · split
        · exact refl
        · exact s.purgeWith_moves _ _ _
        next hstep =>
          obtain ⟨rfl, hdirty⟩ := State.purgeStepOf_cast hstep
          exact (State.beginInvalidation_leads hdirty).moves.trans (State.purgeWith_moves _ _ _ _)
        · exact (s.invalidate_leads _).moves.trans (State.purgeWith_moves _ _ _ _)
    · exact refl
  · exact refl

theorem State.stopDrain_moves (s : State) : s.Moves s.stopDrain := by
  unfold State.stopDrain
  split
  · split
    · exact s.setWork_moves _
    · exact refl
  · split
    · exact s.setWork_moves _
    · exact refl
  · exact refl

/-- One step of R105's sweep: a CLEAN entry below `limit` becomes INVALID. -/
def Cache.invalidateIfClean (limit : Nat) (c : Cache) (e : EntryIx) : Cache :=
  if e.val < limit ∧ (c.entry e).state = .clean then c.invalidate e else c

theorem Cache.invalidateClean_eq (c : Cache) (limit : Nat) :
    c.invalidateClean limit = entryOrder.foldl (Cache.invalidateIfClean limit) c := rfl

theorem State.foldl_invalidate_leads (s : State) (limit : Nat) (l : List EntryIx) :
    s.Leads { s with cache := l.foldl (Cache.invalidateIfClean limit) s.cache } := by
  induction l generalizing s with
  | nil => exact .refl
  | cons e l ih =>
    rw [List.foldl_cons]
    refine .trans ?_ (ih { s with cache := s.cache.invalidateIfClean limit e })
    unfold Cache.invalidateIfClean
    split
    · exact s.invalidate_leads e
    · exact .refl

theorem State.invalidateClean_leads (s : State) (limit : Nat) :
    s.Leads { s with cache := s.cache.invalidateClean limit } := s.foldl_invalidate_leads limit entryOrder

theorem Cache.invalidateIfClean_state (c : Cache) (limit : Nat) (e g : EntryIx) :
    ((c.invalidateIfClean limit e).entry g).state =
      if g = e ∧ e.val < limit ∧ (c.entry e).state = .clean then .invalid else (c.entry g).state := by
  unfold Cache.invalidateIfClean
  by_cases h : e.val < limit ∧ (c.entry e).state = .clean
  · by_cases hg : g = e <;> simp [h, hg, Cache.entry_invalidate]
  · simp [h]

/-- An entry that is not CLEAN is not among those STOP makes INVALID. -/
theorem Cache.foldl_invalidate_state {c : Cache} {g : EntryIx} (limit : Nat) (l : List EntryIx)
    (hg : (c.entry g).state ≠ .clean) :
    ((l.foldl (Cache.invalidateIfClean limit) c).entry g).state = (c.entry g).state := by
  induction l generalizing c with
  | nil => rfl
  | cons e l ih =>
    have hsame : ((c.invalidateIfClean limit e).entry g).state = (c.entry g).state := by
      rw [Cache.invalidateIfClean_state, if_neg]
      rintro ⟨rfl, -, he⟩
      exact hg he
    rw [List.foldl_cons, ih (hsame ▸ hg), hsame]

theorem Cache.firstDirty_some {c : Cache} {e : EntryIx} (h : c.firstDirty = some e) : (c.entry e).state = .dirty := by
  simpa using List.find?_some h

theorem Cache.firstDirty_none {c : Cache} (h : c.firstDirty = none) (e : EntryIx) : (c.entry e).state ≠ .dirty := by
  simpa using List.find?_eq_none.1 h e (mem_entryOrder e)

theorem State.stopCache_moves (s : State) : s.Moves s.stopCache := by
  unfold State.stopCache
  split
  · split
    · exact refl
    · split
      next e hdirty =>
        have hstate := Cache.firstDirty_some hdirty
        refine .trans (s.invalidateClean_leads e.val).moves (State.beginInvalidation_leads ?_).moves
        exact (Cache.foldl_invalidate_state e.val entryOrder (by simp [hstate])).trans hstate
      · exact (s.invalidateClean_leads 16).moves.trans (State.setWork_moves _ _)
  · exact refl

theorem State.stopEvents_moves (s : State) : s.Moves s.stopEvents := by
  unfold State.stopEvents
  dsimp only
  repeat' split
  · exact s.writerLook_moves.trans (State.setWork_moves _ _)
  · exact s.writerLook_moves
  · exact s.writerLook_moves
  · exact refl

theorem State.stopFinish_moves (s : State) : s.Moves s.stopFinish := by
  unfold State.stopFinish
  repeat' split
  · exact (of_update (.commands s.host { s.cmd with node := .halted })).trans (State.Leads.of_update (.links _)).moves
      |>.trans (State.endCommand_moves _ _)
  all_goals exact refl

/-! ### Entry writes and eviction castouts -/

theorem State.endEntry_moves (s : State) (r : WriteEnd) : s.Moves (s.endEntry r) := by
  unfold State.endEntry
  repeat' split
  next b _ _ =>
    have hwritten := (s.landedWrites_leads b r).moves
    unfold State.entryEnds
    cases r with
    | completion =>
      exact hwritten.andThen .entryWritten |>.trans (State.setInt_moves _ _) |>.trans (State.writerLook_moves _)
    | busError => exact hwritten.andThen .halts |>.trans (State.setInt_moves _ _)
  all_goals exact refl

/-- A request that is concluded with no drop to count changes nothing of the cache but its own in-use mark. -/
theorem State.conclude_cache {s : State} {r : Request} {v : Verdict} (hv : v ≠ .dropped true) :
    (s.conclude r v).cache = s.cache ∨ ∃ e, (s.conclude r v).cache = s.cache.setInUse e false := by
  unfold State.conclude
  obtain h | ⟨r1, hr1, -, -, -, h⟩ := State.settleBroadcast_cases
    (State.abandonData { s with engine := some { r with verdict := v, phase := .awaitReady } } r)
  · exact .inl (by rw [h]; simp)
  · obtain rfl : { r with verdict := v, phase := .awaitReady } = r1 := by simpa using hr1
    rw [h, if_neg hv, State.endRequest_cache]
    cases r.entry with
    | none => exact .inl (by simp)
    | some e => exact .inr ⟨e, by simp⟩

theorem Request.faultVerdict_uncounted (r : Request) : r.faultVerdict ≠ .dropped true := by
  unfold Request.faultVerdict
  split <;> simp

/-- A lookup that is answered with a fault changes nothing of the cache but an in-use mark. -/
theorem State.lookupFaults_cache (s : State) (n : Channel) :
    (s.lookupFaults n).cache = s.cache ∨ ∃ e, (s.lookupFaults n).cache = s.cache.setInUse e false := by
  obtain h | ⟨r, -, -, -, h⟩ := s.lookupFaults_cases n <;> rw [h]
  · exact .inl rfl
  · exact State.conclude_cache r.faultVerdict_uncounted

/-- What a castout's fault report does to the cache and to the channel table (R89, R93, R114). -/
theorem State.castoutFaults_cache (s : State) (e : EntryIx) (n : Channel) :
    ((s.castoutFaults e n).cache = s.cache.withdrawFill n ∨
      ∃ f, (s.castoutFaults e n).cache = (s.cache.withdrawFill n).setInUse f false) ∧
    (s.castoutFaults e n).status = (s.setRecord n fun x => x.report .castoutFault 0).status := by
  unfold State.castoutFaults State.reportFault
  dsimp only
  refine ⟨?_, by simp⟩
  obtain h | ⟨f, h⟩ := State.lookupFaults_cache _ n
  · exact .inl (by rw [h]; simp)
  · exact .inr ⟨f, by rw [h]; simp⟩

/-- A fault report leaves every entry as it is, but for an in-use mark. -/
theorem State.castoutFaults_entry (s : State) (e g : EntryIx) (n : Channel) :
    ∃ b, (s.castoutFaults e n).cache.entry g = { s.cache.entry g with inUse := b } := by
  obtain ⟨h | ⟨f, h⟩, -⟩ := s.castoutFaults_cache e n <;> rw [h]
  · exact ⟨_, rfl⟩
  · rw [Cache.entry_setInUse]
    split
    next hgf => exact ⟨false, by rw [← hgf]; rfl⟩
    next => exact ⟨_, rfl⟩

/-- What every update and the noting of a fault keep, the end of an eviction castout keeps. -/
theorem State.endEviction_keeps {P : State → Prop} (hupdate : ∀ s t, State.Update s t → P s → P t)
    (hnote : ∀ (s : State) n reason subCode, P s → P (s.setRecord n fun x => x.report reason subCode)) {s : State}
    (r : WriteEnd) (h : P s) : P (s.endEviction r) := by
  unfold State.endEviction
  repeat' split
  next b _ _ e _ _ _ n hstate hnext =>
    have hwritten : P (s.landed.burstWrites b r) := (s.landedWrites_leads b r).keeps hupdate h
    unfold State.evictionEnds
    refine (State.retryDescriptor_leads _).keeps hupdate ?_
    cases r with
    | completion => exact (State.evictionGoesOn_leads (by simpa using hstate) (by simpa using hnext)).keeps hupdate hwritten
    | busError =>
      obtain ⟨x, hx⟩ := State.castoutFaults_entry (s.landed.burstWrites b .busError) e e (s.cache.entry e).tag
      refine (State.evictionGoesOn_leads (by simpa [hx] using hstate) (by simpa [hx] using hnext)).keeps hupdate ?_
      have hworks := hupdate _ _ (.works _ (Work.sameKind_memberFaults _ e (s.cache.entry e).tag)) hwritten
      have hnoted := hnote _ (s.cache.entry e).tag .castoutFault 0 hworks
      have hreported := (State.raise_leads _ .channelFault (channelByte (s.cache.entry e).tag)
        FaultReason.castoutFault.code 0 (descriptorAddr s.host.tableBase (s.cache.entry e).tag)).keeps hupdate hnoted
      have hwithdrawn := hupdate _ _ (.withdraws (s.cache.entry e).tag) hreported
      exact (State.lookupFaults_leads _ _).keeps hupdate
        (hupdate _ _ (.works _ (Work.sameKind_noteReport _)) hwithdrawn)
  all_goals exact h

theorem State.endEviction_moves (s : State) (r : WriteEnd) : s.Moves (s.endEviction r) :=
  State.endEviction_keeps (P := s.Moves) (fun _ _ hu h => h.trans (State.Leads.of_update hu).moves)
    (fun _ _ _ _ h => h.andThen (.records _)) r refl

end Sys2Proof.Machine

namespace Sys2Proof

open Sys2Proof.Machine

/-- The commands whose bodies are chains of small updates: the line's symbols, the timers, and the ends of bursts, but for
those of an eviction castout and of an entry write. -/
def Instr.isInner : Instr → Bool
  | .openingFlag | .dataSymbol _ | .closingFlag | .abortSymbol | .badSymbol _ | .symbolSilenceLimit | .replyReady
  | .earliestStart | .replyStart | .commitExpiry | .transmitByteDue | .replyEnd | .recoveryEnd | .broadcastCommit
  | .cycleOffsetTick | .fillTakesEntry | .burstGrant | .linefillEnd _ | .invalidationCastoutEnd _ | .writeEnd _
  | .storeBurstEnd _ | .fetchBurstEnd _ | .retireRecordStep | .recordWordEnd _ => true
  | _ => false

end Sys2Proof

namespace Sys2Proof.Machine

open State.Moves (refl of_update)

theorem body_leads {c : Instr} (h : c.isInner = true) (s : State) : s.Leads (c.body s) := by
  cases c with
  | openingFlag => exact s.takeOpening_leads
  | dataSymbol b => exact s.takeData_leads b
  | closingFlag => exact s.takeClosing_leads
  | abortSymbol => exact s.takeAbort_leads
  | badSymbol p => exact s.takeBad_leads
  | symbolSilenceLimit => exact s.takeAbort_leads
  | replyReady => exact s.declareReady_leads
  | earliestStart => exact s.reachEarliest_leads
  | replyStart => exact s.startReply_leads
  | commitExpiry => exact s.expire_leads
  | transmitByteDue => exact s.transmitDue_leads
  | replyEnd => exact s.endReply_leads
  | recoveryEnd => exact s.endRecovery_leads
  | broadcastCommit => exact s.commitBroadcast_leads
  | cycleOffsetTick => exact s.tickOffset_leads
  | fillTakesEntry => exact s.takeFill_leads
  | burstGrant => exact s.grant_leads
  | linefillEnd r => exact s.endLinefill_leads r
  | invalidationCastoutEnd r => exact s.endInvalidation_leads r
  | writeEnd r => exact s.endWrite_leads r
  | storeBurstEnd r => exact s.endStore_leads r
  | fetchBurstEnd r => exact s.endFetch_leads r
  | retireRecordStep => exact s.beginRecord_leads
  | recordWordEnd r => exact s.endRecordWord_leads r
  | _ => exact absurd h (by simp [Instr.isInner])

/-- What every command but a reset does is a chain of updates. -/
theorem body_moves (c : Instr) (s : State) : (∃ b, c.body s = s.afterReset b) ∨ s.Moves (c.body s) := by
  cases c with
  | resetAssert => exact .inl ⟨true, rfl⟩
  | resetRelease => exact .inl ⟨false, rfl⟩
  | softReset v =>
    dsimp only [Instr.body]
    split
    · exact .inl ⟨false, rfl⟩
    · exact .inr refl
  | start op => exact .inr (State.takeCommand_moves _ _ State.startCommand_moves)
  | stop op => exact .inr (State.takeCommand_moves _ _ State.stopCommand_moves)
  | hold op => exact .inr (State.takeCommand_moves _ _ fun _ => State.channelCommand_moves _ State.holdChannel_moves)
  | release op =>
    exact .inr (State.takeCommand_moves _ _ fun _ => State.channelCommand_moves _ State.releaseChannel_moves)
  | returnBuffer op =>
    exact .inr (State.takeCommand_moves _ _ fun _ => State.channelCommand_moves _ State.returnChannel_moves)
  | pin op => exact .inr (State.takeCommand_moves _ _ fun _ => State.channelCommand_moves _ State.pinChannel_moves)
  | unpin op => exact .inr (State.takeCommand_moves _ _ fun _ => State.channelCommand_moves _ State.unpinChannel_moves)
  | flush op => exact .inr (State.takeCommand_moves _ _ State.flushCommand_moves)
  | purge op => exact .inr (State.takeCommand_moves _ _ State.purgeCommand_moves)
  | resumeEvents op => exact .inr (State.takeCommand_moves _ _ State.resumeCommand_moves)
  | badCommand code op => exact .inr (State.takeCommand_moves _ _ fun t => t.endCommand_moves _)
  | intPendingWrite v => exact .inr (of_update (.commands _ s.cmd))
  | intMaskWrite v => exact .inr (of_update (.commands _ s.cmd))
  | stickyStatusWrite v => exact .inr (of_update (.commands _ s.cmd))
  | configWrite reg v => exact .inr (s.writeConfig_moves reg v)
  | eqBaseWrite v => exact .inr (s.writeEqBase_moves v)
  | eqSizeWrite v => exact .inr (s.writeEqSize_moves v)
  | globalEnablesWrite v => exact .inr (s.writeGlobalEnables_moves v)
  | eqConsumerWrite v => exact .inr ((of_update (.consumes _)).trans (State.writerLook_moves _))
  | linkErrorsWrite v => exact .inr (State.Leads.of_update (.links _)).moves
  | channelSelectWrite v => exact .inr (of_update (.commands _ s.cmd))
  | registerWrite offset enables v => exact .inr refl
  | evictionCastoutEnd r => exact .inr (s.endEviction_moves r)
  | eventEntryWrite => exact .inr s.writerLook_moves
  | eventEntryWriteEnd r => exact .inr (s.endEntry_moves r)
  | holdEnd => exact .inr s.holdStep_moves
  | flushMember => exact .inr s.flushStep_moves
  | purgeMember => exact .inr s.purgeStep_moves
  | stopDrainCompletions => exact .inr s.stopDrain_moves
  | stopCacheStep => exact .inr s.stopCache_moves
  | stopEventStep => exact .inr s.stopEvents_moves
  | stopEnd => exact .inr s.stopFinish_moves
  | _ => exact .inr (body_leads rfl s).moves

end Sys2Proof.Machine


/-! PROOFS. The laws of single blocks, each kept by every small update: the ages (R87), the event writer (R147, R148,
R153), the completion queue (R141) and the staging buffers (R127, R134). -/

namespace Sys2Proof.Machine

/-- A law that a reset establishes and every update keeps, every step keeps. -/
theorem step_keeps_of_updates {P : State → Prop} (hqueue : ∀ s q, P s → P (s.withPending q))
    (hreset : ∀ s b, P (State.afterReset s b)) (hupdate : ∀ s t, State.Update s t → P s → P t)
    (hhost : ∀ s t, State.HostUpdate s t → P s → P t) (s t : State) (h : P s) (hstep : step s = .next t) : P t := by
  refine step_keeps hqueue (fun c s _ hs => ?_) s t h hstep
  obtain ⟨b, hb⟩ | hmoves := body_moves c s
  · exact hb ▸ hreset s b
  · exact hmoves.keeps hupdate hhost hs

/-! ### The ages -/

theorem Cache.AgeLaw.congr {c d : Cache} (hage : ∀ e, (d.entry e).age = (c.entry e).age) (h : c.AgeLaw) :
    d.AgeLaw := by
  obtain ⟨hlt, hinj⟩ := h
  exact ⟨fun e => hage e ▸ hlt e, fun e f hef => hinj e f (by rw [← hage e, ← hage f, hef])⟩

theorem Cache.AgeLaw.touch {c : Cache} (e : EntryIx) (h : c.AgeLaw) : (c.touch e).AgeLaw := by
  obtain ⟨hlt, hinj⟩ := h
  refine ⟨fun g => ?_, fun f g hfg => ?_⟩
  · have := hlt g
    have := hlt e
    simp only [Cache.entry_touch]
    split_ifs <;> omega
  · simp only [Cache.entry_touch] at hfg
    have := hinj f g
    have := hinj f e
    have := hinj g e
    grind

theorem Cache.AgeLaw.toOldest {c : Cache} (e : EntryIx) (h : c.AgeLaw) : (c.toOldest e).AgeLaw := by
  obtain ⟨hlt, hinj⟩ := h
  refine ⟨fun g => ?_, fun f g hfg => ?_⟩
  · have := hlt g
    simp only [Cache.entry_toOldest]
    split_ifs <;> omega
  · simp only [Cache.entry_toOldest] at hfg
    have := hinj f g
    have := hinj f e
    have := hinj g e
    have := hlt f
    have := hlt g
    grind

/-- A change of an entry that leaves its age leaves the law. -/
theorem Cache.AgeLaw.modify {c : Cache} (e : EntryIx) {f : Entry → Entry} (hf : ∀ x, (f x).age = x.age)
    (h : c.AgeLaw) : (c.modify e f).AgeLaw := by
  refine h.congr fun g => ?_
  rw [Cache.entry_modify]
  split
  next hg => rw [hg, hf]
  next => rfl

theorem Cache.AgeLaw.update {s t : State} (hupdate : s.Update t) (h : s.cache.AgeLaw) : t.cache.AgeLaw := by
  cases hupdate with
  | marks e b => exact h.modify e fun _ => rfl
  | changes e f => exact h.modify e fun _ => rfl
  | touches e => exact h.touch e
  | asksFill n => exact h.congr fun g => by simp
  | fills e d => exact (h.modify e (f := fun x => { x with context := d, state := .clean }) fun _ => rfl).touch e
  | invalidates e => exact (h.toOldest e).modify e fun _ => rfl
  | castsOut e => exact h.modify e fun _ => rfl
  | beginsWrite e => exact h.modify e fun _ => rfl
  | settles e => exact h.modify e fun _ => rfl
  | fails e reason subCode => exact ((h.toOldest e).modify e fun _ => rfl : (s.cache.invalidate e).AgeLaw)
  | evictsFor e n => exact h.modify e fun _ => rfl
  | beginsFill e n => exact (h.toOldest e).modify e fun _ => rfl
  | goesOn e n => exact h.modify e fun _ => rfl
  | asksFetch => exact h.congr fun g => by simp
  | grants => exact h.congr fun g => by simp
  | _ => exact h

theorem Cache.AgeLaw.hostUpdate {s t : State} (hupdate : s.HostUpdate t) (h : s.cache.AgeLaw) : t.cache.AgeLaw := by
  cases hupdate with
  | looks => exact h.congr fun g => by simp
  | _ => exact h

theorem Cache.AgeLaw.reset (x : Vector Entry 16) : (Cache.resetOf x).AgeLaw := by
  refine ⟨fun e => ?_, fun e f hef => ?_⟩
  · rw [Cache.resetOf_entry]
    exact Nat.lt_of_le_of_lt (Nat.sub_le _ _) (by decide)
  · have he := e.isLt
    have hf := f.isLt
    have hage : 15 - e.val = 15 - f.val := by simpa [Entry.reset] using hef
    exact Fin.ext (by omega)

/-- Settles O53: a touch and its reverse permute the ages, and nothing else changes one. -/
theorem ageLawKept : Obligations.AgeLawKept := by
  unfold Obligations.AgeLawKept
  exact step_keeps_of_updates (P := fun s => s.cache.AgeLaw) (fun _ _ h => h)
    (fun s b => Cache.AgeLaw.reset s.cache.entries) (fun _ _ hu h => h.update hu) fun _ _ hu h => h.hostUpdate hu

/-! ### The event writer -/

theorem Writer.Law.take {w : Writer} (ev : Event) (h : w.Law) : (w.take ev).Law := by
  obtain ⟨hqueue, hactive, hwriting, hslot⟩ := h
  obtain ⟨ha, hroom, htake⟩ | ⟨-, htake⟩ := w.take_cases ev <;> rw [htake]
  · exact ⟨by simpa using hroom, fun hhalted => by simp [ha] at hhalted, fun _ => by simp, hslot⟩
  · exact ⟨hqueue, hactive, hwriting, hslot⟩

theorem Writer.Law.nextProducer_lt (w : Writer) : w.nextProducer.toNat < w.ringSize := by
  rw [Writer.nextProducer, BitVec.toNat_ofNat]
  exact Nat.lt_of_le_of_lt (Nat.mod_le _ _) (Nat.mod_lt _ (Nat.two_pow_pos _))

theorem Writer.Law.entryWritten {w : Writer} (h : w.Law) : w.entryWritten.Law := by
  obtain ⟨hqueue, hactive, -, -⟩ := h
  have hshorter : w.entryWritten.queue = w.queue ∨ w.entryWritten.queue = w.queue.tail := by
    unfold Writer.entryWritten
    dsimp only
    split <;> simp
  refine ⟨?_, fun hhalted => ⟨?_, rfl⟩, fun hwriting => absurd rfl hwriting, Writer.Law.nextProducer_lt w⟩
  · obtain hsame | htail := hshorter
    · exact hsame ▸ hqueue
    · rw [htail, List.length_tail]
      omega
  · have hempty := (hactive hhalted).1
    obtain hsame | htail := hshorter
    · exact hsame.trans hempty
    · rw [htail, hempty, List.tail_nil]

theorem Writer.Law.writerLook {s : State} (h : s.writer.Law) : s.writerLook.writer.Law := by
  obtain ⟨hqueue, hactive, hwriting, hslot⟩ := h
  obtain hlook | ⟨hne, ha, hidle, hcases⟩ := s.writerLook_cases
  · rw [hlook]
    exact ⟨hqueue, hactive, hwriting, hslot⟩
  · obtain ⟨ev, rest, -, -, hlook⟩ | ⟨-, -, hlook⟩ | ⟨-, -, hlook⟩ := hcases <;> rw [hlook]
    · exact ⟨hqueue, fun hhalted => by simp [State.presentEntry, ha] at hhalted, fun _ => hne, hslot⟩
    · unfold State.dropPending State.beginFullPeriod
      split
      all_goals exact ⟨Nat.zero_le _, fun _ => ⟨rfl, hidle⟩, fun hw => absurd hidle hw, hslot⟩
    · unfold State.beginFullPeriod
      split
      all_goals exact ⟨hqueue, hactive, hwriting, hslot⟩

theorem Writer.Law.update {s t : State} (hupdate : s.Update t) (h : s.writer.Law) : t.writer.Law := by
  cases hupdate with
  | raises ev => exact h.take ev
  | asksFetch => simpa using h
  | grants => simpa using h
  | _ => exact h

theorem Writer.Law.hostUpdate {s t : State} (hupdate : s.HostUpdate t) (h : s.writer.Law) : t.writer.Law := by
  cases hupdate with
  | looks => exact h.writerLook
  | placesRing base size =>
    obtain ⟨hqueue, hactive, hwriting, -⟩ := h
    exact ⟨hqueue, hactive, hwriting, Nat.two_pow_pos _⟩
  | resumes =>
    obtain ⟨hqueue, -, hwriting, hslot⟩ := h
    exact ⟨hqueue, nofun, hwriting, hslot⟩
  | entryWritten => exact h.entryWritten
  | halts => exact ⟨Nat.zero_le _, fun _ => ⟨rfl, rfl⟩, fun hw => absurd rfl hw, h.2.2.2⟩
  | _ => exact h

theorem Writer.Law.reset : Writer.reset.Law := by
  refine ⟨by decide, nofun, nofun, by decide⟩

/-- Settles O54: an event is taken with room alone, an entry is presented from a queue that is not empty, and P moves
within the ring. -/
theorem writerLawKept : Obligations.WriterLawKept := by
  unfold Obligations.WriterLawKept
  exact step_keeps_of_updates (P := fun s => s.writer.Law) (fun _ _ h => h) (fun _ _ => Writer.Law.reset)
    (fun _ _ hu h => h.update hu) fun _ _ hu h => h.hostUpdate hu

/-! ### The completion queue -/

theorem State.CompletionLaw.congr {s t : State} (hengine : t.engine = s.engine) (hretire : t.retire = s.retire)
    (h : s.CompletionLaw) : t.CompletionLaw := by
  unfold State.CompletionLaw State.ReadyLaw at *
  rw [hengine, hretire]
  exact h

theorem State.CompletionLaw.update {s t : State} (hupdate : s.Update t) (h : s.CompletionLaw) : t.CompletionLaw := by
  obtain ⟨hlength, hlaw⟩ := h
  cases hupdate with
  | serves o _ hready => exact ⟨hlength, hready hlaw⟩
  | takes r m hfresh =>
    obtain ⟨-, hverdict, hready⟩ := hfresh
    refine ⟨hlength, fun x hx => ?_⟩
    cases hx
    exact ⟨fun _ => ⟨hverdict, hready⟩, fun _ hnew => by simp [hverdict] at hnew⟩
  | enters o c _ hroom ho =>
    refine ⟨?_, fun x hx => ?_⟩
    · have := hroom hlaw
      simp only [List.length_append, List.length_singleton]
      omega
    · have hreplying := ho x hx
      exact ⟨fun hlookup => by simp [hreplying] at hlookup, fun hnot => absurd hreplying hnot⟩
  | retires q step hq =>
    refine ⟨hq.trans hlength, fun x hx => ?_⟩
    obtain ⟨hlookup, hroom⟩ := hlaw x hx
    exact ⟨hlookup, fun hphase hnew hready => Nat.lt_of_le_of_lt hq (hroom hphase hnew hready)⟩
  | asksFetch => exact State.CompletionLaw.congr (by simp) (by simp) ⟨hlength, hlaw⟩
  | grants => exact State.CompletionLaw.congr (by simp) (by simp) ⟨hlength, hlaw⟩
  | _ => exact ⟨hlength, hlaw⟩

theorem State.CompletionLaw.hostUpdate {s t : State} (hupdate : s.HostUpdate t) (h : s.CompletionLaw) :
    t.CompletionLaw := by
  cases hupdate with
  | looks => exact h.congr (by simp) (by simp)
  | _ => exact h

theorem State.CompletionLaw.afterReset (s : State) (b : Bool) : (s.afterReset b).CompletionLaw :=
  ⟨by simp [Retire.reset], fun r hr => by simp at hr⟩

/-- Settles O55: an entry enters the queue for an outcome alone that readiness had found room for, since no request
becomes ready without it. -/
theorem completionLawKept : Obligations.CompletionLawKept := by
  unfold Obligations.CompletionLawKept
  exact step_keeps_of_updates (fun _ _ h => h) State.CompletionLaw.afterReset (fun _ _ hu h => h.update hu)
    fun _ _ hu h => h.hostUpdate hu

/-! ### The receive staging buffer -/

/-- The sum over a list of segments in which one changes. -/
theorem Mover.occupancy_modify_le (l : List Segment) (msg : Nat) (f : Segment → Segment)
    (hf : ∀ x, (f x).held.length ≤ x.held.length) :
    ((l.map fun x => if x.msg = msg then f x else x).map fun x => x.held.length).sum ≤
      (l.map fun x => x.held.length).sum := by
  rw [List.map_map]
  refine List.sum_le_sum fun x _ => ?_
  simp only [Function.comp]
  split
  · exact hf x
  · exact Nat.le_refl _

/-- Where segments are of different messages, a byte that joins one counts once. -/
theorem Mover.occupancy_stage_le (l : List Segment) (msg : Nat) (f : Segment → Segment)
    (hf : ∀ x, (f x).held.length = x.held.length + 1) (hnodup : (l.map fun x => x.msg).Nodup) :
    ((l.map fun x => if x.msg = msg then f x else x).map fun x => x.held.length).sum ≤
      (l.map fun x => x.held.length).sum + 1 := by
  induction l with
  | nil => simp
  | cons x l ih =>
    rw [List.map_cons, List.nodup_cons] at hnodup
    obtain ⟨hnotin, hrest⟩ := hnodup
    by_cases hx : x.msg = msg
    · have hsame : (l.map fun y => if y.msg = msg then f y else y) = l := by
        refine (List.map_congr_left fun y hy => if_neg fun hym => hnotin ?_).trans (List.map_id l)
        exact List.mem_map.2 ⟨y, hy, hym.trans hx.symm⟩
      simp only [List.map_cons, hx, if_true, List.sum_cons, hsame, hf]
      omega
    · have := ih hrest
      simp only [List.map_cons, hx, if_false, List.sum_cons]
      omega

theorem Mover.msgs_modify (l : List Segment) (msg : Nat) (f : Segment → Segment) (hf : ∀ x, (f x).msg = x.msg) :
    ((l.map fun x => if x.msg = msg then f x else x).map fun x => x.msg) = l.map fun x => x.msg := by
  rw [List.map_map]
  refine List.map_congr_left fun x _ => ?_
  simp only [Function.comp]
  split
  · exact hf x
  · rfl

/-- The receive law depends on the messages and lengths of the segments, which a change may lower. -/
theorem State.ReceiveLaw.of_msgs {s t : State} (hmsgs : (t.mover.segments.map fun x => x.msg) = s.mover.segments.map fun x => x.msg)
    (hnext : s.nextMsg ≤ t.nextMsg) (hoccupancy : t.mover.occupancy ≤ 256) (h : s.ReceiveLaw) : t.ReceiveLaw := by
  obtain ⟨-, hnodup, hlt⟩ := h
  refine ⟨hoccupancy, hmsgs ▸ hnodup, fun x hx => ?_⟩
  have hin : x.msg ∈ s.mover.segments.map fun x => x.msg := hmsgs ▸ List.mem_map_of_mem hx
  obtain ⟨y, hy, hmsg⟩ := List.mem_map.1 hin
  have := hlt y hy
  omega

theorem State.ReceiveLaw.congr {s t : State} (hsegments : t.mover.segments = s.mover.segments)
    (hnext : t.nextMsg = s.nextMsg) (h : s.ReceiveLaw) : t.ReceiveLaw := by
  unfold State.ReceiveLaw Mover.occupancy at *
  rw [hsegments, hnext]
  exact h

theorem State.ReceiveLaw.update {s t : State} (hupdate : s.Update t) (h : s.ReceiveLaw) : t.ReceiveLaw := by
  cases hupdate with
  | stages msg b hroom =>
    have hstage := Mover.occupancy_stage_le s.mover.segments msg
      (fun x => { x with held := x.held ++ [b], due := x.due - 1 }) (fun _ => by simp) h.2.1
    exact h.of_msgs (Mover.msgs_modify _ msg _ fun _ => rfl) (Nat.le_refl _) (hstage.trans hroom)
  | segments msg f hf =>
    exact h.of_msgs (Mover.msgs_modify _ msg f fun x => (hf x).1) (Nat.le_refl _)
      ((Mover.occupancy_modify_le _ msg f fun x => (hf x).2).trans h.1)
  | sweeps p =>
    obtain ⟨hoccupancy, hnodup, hlt⟩ := h
    have hsub : (s.mover.segments.filter p).Sublist s.mover.segments := List.filter_sublist
    refine ⟨(List.Sublist.sum_le_sum (hsub.map _) fun _ _ => Nat.zero_le _).trans hoccupancy,
      hnodup.sublist (hsub.map _), fun x hx => hlt x (hsub.subset hx)⟩
  | takes r m _ _ hm =>
    obtain rfl | ⟨len, rfl⟩ := hm
    · exact State.ReceiveLaw.of_msgs (s := s) rfl (Nat.le_succ _) h.1 h
    · obtain ⟨hoccupancy, hnodup, hlt⟩ := h
      refine ⟨?_, ?_, fun x hx => ?_⟩
      · simpa [Mover.openSegment, Mover.occupancy] using hoccupancy
      · rw [Mover.openSegment, List.map_append, List.nodup_append]
        refine ⟨hnodup, by simp, fun a ha b hb => ?_⟩
        obtain ⟨y, hy, rfl⟩ := List.mem_map.1 ha
        obtain rfl : b = s.nextMsg := by simpa using hb
        exact Nat.ne_of_lt (hlt y hy)
      · rw [Mover.openSegment, List.mem_append, List.mem_singleton] at hx
        obtain hin | rfl := hx
        · exact Nat.lt_succ_of_lt (hlt x hin)
        · exact Nat.lt_succ_self _
  | asksFetch => exact h.congr (by simp) (by simp)
  | grants => exact h.congr (by simp) (by simp)
  | _ => exact h

theorem State.ReceiveLaw.hostUpdate {s t : State} (hupdate : s.HostUpdate t) (h : s.ReceiveLaw) : t.ReceiveLaw := by
  cases hupdate with
  | looks => exact h.congr (by simp) (by simp)
  | _ => exact h

/-! ### The transmit staging buffer -/

/-- A burst that is no fetch fits always. -/
theorem State.FetchFits.of_client {s : State} {b : Burst} (h : b.kind.client ≠ .fetch) : s.FetchFits b := by
  unfold State.FetchFits
  split
  next hkind => simp [hkind, BurstKind.client] at h
  next => trivial

/-- A burst that fitted fits a buffer that holds no more, or nothing. -/
theorem State.FetchFits.restaged {s t : State} {b : Burst} (h : s.FetchFits b)
    (hstaging : ∀ u, t.mover.staging = some u → u.held = [] ∨
      ∃ v, s.mover.staging = some v ∧ u.msg = v.msg ∧ u.held.length ≤ v.held.length) : t.FetchFits b := by
  unfold State.FetchFits at *
  split at h
  next msg bytes hkind =>
    obtain ⟨hwords, hbytes, hfits⟩ := h
    refine ⟨hwords, hbytes, fun u hu humsg => ?_⟩
    obtain hempty | ⟨v, hv, hmsg, hheld⟩ := hstaging u hu
    · simp only [hempty, List.length_nil]
      omega
    · have := hfits v hv (hmsg ▸ humsg)
      omega
  next => trivial

theorem State.TransmitLaw.congr {s t : State} (hstaging : t.mover.staging = s.mover.staging) (hport : t.port = s.port)
    (h : s.TransmitLaw) : t.TransmitLaw := by
  unfold State.TransmitLaw State.FetchFits at *
  rw [hstaging, hport]
  exact h

/-- The transmit law as the buffer comes to hold no more than it did, or nothing. -/
theorem State.TransmitLaw.restaged {s : State} {o : Option Staging}
    (ho : ∀ u, o = some u → u.held = [] ∨
      ∃ v, s.mover.staging = some v ∧ u.msg = v.msg ∧ u.held.length ≤ v.held.length) (h : s.TransmitLaw) :
    State.TransmitLaw { s with mover := { s.mover with staging := o } } := by
  obtain ⟨hheld, hfetch, hflight, hrest⟩ := h
  refine ⟨fun u hu => ?_, fun b hb => ⟨(hfetch b hb).1, (hfetch b hb).2.restaged ho⟩,
    fun b hb => (hflight b hb).restaged ho, hrest⟩
  obtain hempty | ⟨v, hv, -, hle⟩ := ho u hu
  · simp [hempty]
  · exact hle.trans (hheld v hv)

theorem State.TransmitLaw.asksFetch {s : State} (h : s.TransmitLaw) : s.presentFetch.TransmitLaw := by
  obtain hsame | ⟨t, ht, -, hflies, -, hroom, hpresent⟩ := s.presentFetch_cases
  · exact hsame.symm ▸ h
  · obtain ⟨hheld, -, hflight, hcache, hretire, hwriter, -⟩ := h
    rw [hpresent]
    refine ⟨hheld, fun b hb => ?_, hflight, hcache, hretire, hwriter, fun _ => hflies⟩
    cases hb
    refine ⟨rfl, t.burstWords_le, Nat.min_le_left _ _, fun u hu _ => ?_⟩
    cases ht.symm.trans hu
    exact hroom

/-- A burst that is granted from another client than the fetch client. -/
theorem State.TransmitLaw.granted {s : State} {p : Port} (h : s.TransmitLaw) (hp : p.fetch = none)
    (hflight : ∀ b, p.inFlight = some b → s.FetchFits b) (hcache : ∀ b, p.cache = some b → s.port.cache = some b)
    (hretire : ∀ b, p.retire = some b → s.port.retire = some b)
    (hwriter : ∀ b, p.writer = some b → s.port.writer = some b) : State.TransmitLaw { s with port := p } := by
  obtain ⟨hheld, -, -, hc, hr, hw, -⟩ := h
  exact ⟨hheld, fun b hb => by simp [hp] at hb, hflight, fun b hb => hc b (hcache b hb), fun b hb => hr b (hretire b hb),
    fun b hb => hw b (hwriter b hb), fun hne => absurd hp hne⟩

theorem State.TransmitLaw.grants {s : State} (h : s.TransmitLaw) : s.grant.TransmitLaw := by
  obtain ⟨hheld, hfetch, -, hcache, hretire, hwriter, -⟩ := id h
  obtain hsame | ⟨hfree, hcases⟩ := s.grant_cases
  · exact hsame.symm ▸ h
  · cases hwaits : s.port.fetch with
    | some b =>
      have hgrant : s.grant = { s with port := { s.port with fetch := none, inFlight := some b } } := by
        simp [State.grant, hfree, hwaits]
      rw [hgrant]
      exact h.granted rfl (fun x hx => Option.some.inj hx ▸ (hfetch b hwaits).2) (fun _ hx => hx) (fun _ hx => hx)
        fun _ hx => hx
    | none =>
      have client {b x : Burst} {c : Client} (hb : b.kind.client = c) (hc : c ≠ .fetch) (hx : some b = some x) :
          s.FetchFits x := State.FetchFits.of_client (by rw [← Option.some.inj hx, hb]; exact hc)
      obtain ⟨b, hb, -⟩ | ⟨b, -, hb, hgrant⟩ | ⟨m, -, -, -, hgrant⟩ | ⟨b, hb, hgrant⟩ | ⟨b, hb, hgrant⟩ := hcases
      · simp [hwaits] at hb
      · rw [hgrant]
        exact h.granted hwaits (fun x => client (hcache b hb) (by decide)) nofun (fun _ hx => hx) fun _ hx => hx
      · rw [hgrant]
        refine h.granted hwaits (fun x hx => State.FetchFits.of_client ?_) (fun _ hx => hx) (fun _ hx => hx)
          fun _ hx => hx
        obtain ⟨y, -, rfl⟩ := Option.map_eq_some_iff.1 hx
        simp [Segment.burst, BurstKind.client]
      · rw [hgrant]
        exact h.granted hwaits (fun x => client (hretire b hb) (by decide)) (fun _ hx => hx) nofun fun _ hx => hx
      · rw [hgrant]
        exact h.granted hwaits (fun x => client (hwriter b hb) (by decide)) (fun _ hx => hx) (fun _ hx => hx) nofun

theorem State.TransmitLaw.update {s t : State} (hupdate : s.Update t) (h : s.TransmitLaw) : t.TransmitLaw := by
  obtain ⟨hheld, hfetch, hflight, hcache, hretire, hwriter, hone⟩ := id h
  cases hupdate with
  | presents b rest x hdue hx =>
    exact ⟨hheld, hfetch, hflight, fun y hy => Option.some.inj hy ▸ hx, hretire, hwriter, hone⟩
  | asksRetire b hb => exact ⟨hheld, hfetch, hflight, hcache, fun y hy => Option.some.inj hy ▸ hb, hwriter, hone⟩
  | asksFetch => exact h.asksFetch
  | lands => exact ⟨hheld, hfetch, nofun, hcache, hretire, hwriter, fun _ => rfl⟩
  | startsFetch msg start len => exact h.restaged fun u hu => .inl (by rw [← Option.some.inj hu])
  | restages v u hv hmsg hle =>
    exact h.restaged fun x hx => .inr ⟨v, hv, by rw [← Option.some.inj hx]; exact ⟨hmsg, hle⟩⟩
  | abandons =>
    exact ⟨nofun, nofun, fun b hb => (hflight b hb).restaged nofun, hcache, hretire, hwriter, fun hne => absurd rfl hne⟩
  | joins b v u bytes hb hkind hv hmsg hlength =>
    have hfits := hflight b hb
    rw [State.FetchFits, hkind] at hfits
    obtain ⟨-, hbytes, hroom⟩ := hfits
    have hroom := hroom v hv rfl
    refine ⟨fun x hx => ?_, fun x hx => ?_, nofun, hcache, hretire, hwriter, fun _ => rfl⟩
    · rw [← Option.some.inj hx]
      omega
    · have hflies := hone (by simp [show s.port.fetch = some x from hx])
      simp [Port.flies, hb, hkind, BurstKind.client] at hflies
  | grants => exact h.grants
  | takes r m _ _ hm =>
    obtain rfl | ⟨len, rfl⟩ := hm
    · exact h
    · exact h
  | _ => exact h

theorem State.TransmitLaw.writerLook {s : State} (h : s.TransmitLaw) : s.writerLook.TransmitLaw := by
  obtain hlook | ⟨-, -, -, hcases⟩ := s.writerLook_cases
  · exact hlook.symm ▸ h
  · obtain ⟨ev, rest, -, -, hlook⟩ | ⟨-, -, hlook⟩ | ⟨-, -, hlook⟩ := hcases <;> rw [hlook]
    · obtain ⟨hheld, hfetch, hflight, hcache, hretire, -, hone⟩ := h
      exact ⟨hheld, hfetch, hflight, hcache, hretire, fun b hb => by rw [← Option.some.inj hb]; rfl, hone⟩
    · exact h.congr (by simp) (by simp)
    · exact h.congr (by simp) (by simp)

theorem State.TransmitLaw.hostUpdate {s t : State} (hupdate : s.HostUpdate t) (h : s.TransmitLaw) :
    t.TransmitLaw := by
  cases hupdate with
  | looks => exact h.writerLook
  | _ => exact h

theorem State.StagingLaw.afterReset (s : State) (b : Bool) : (s.afterReset b).StagingLaw := by
  refine ⟨⟨?_, ?_, ?_⟩, ?_⟩
  all_goals simp [Mover.reset, Mover.occupancy, State.TransmitLaw, Port.reset]

/-- Settles O56: a byte is staged with room alone in the segment of one message, and a fetch burst is asked for once it
fits, with none of its client waiting or in flight. -/
theorem stagingLawKept : Obligations.StagingLawKept := by
  unfold Obligations.StagingLawKept
  exact step_keeps_of_updates (fun _ _ h => h) State.StagingLaw.afterReset
    (fun _ _ hu h => ⟨State.ReceiveLaw.update hu h.1, State.TransmitLaw.update hu h.2⟩)
    fun _ _ hu h => ⟨State.ReceiveLaw.hostUpdate hu h.1, State.TransmitLaw.hostUpdate hu h.2⟩

end Sys2Proof.Machine


/-! PROOFS. What the ten commands and the steps of the long ones come to: a few outcomes each, with what led to them. -/

namespace Sys2Proof.Machine

open State.Leads (of_update)

/-! ### The ten commands -/

/-- The state in which a command has been taken (R164). -/
def State.taken (s : State) (code operand : Byte) : State :=
  { s with cmd := { s.cmd with busy := true, code := code, operand := operand, result := .none } }

/-- A channel that is FREE again, with no reason (R116). -/
def ChannelRecord.becomeFree (x : ChannelRecord) : ChannelRecord := { x with hold := .free, reason := .none, subCode := 0 }

/-- What a command that has been taken in `s` comes to. -/
inductive State.Obeys (s : State) : State → Prop where
  /-- The command ends with nothing else changed. -/
  | ends (r : CmdResult) : Obeys s (s.endCommand r)
  /-- START succeeds (R167). -/
  | starts (hcode : s.cmd.code = 1) (hnode : s.cmd.node = .halted) : Obeys s (s.startNode.endCommand .done)
  /-- STOP is taken (R168). -/
  | stops (hcode : s.cmd.code = 2) (hnode : s.cmd.node = .running) :
      Obeys s { s with cmd := { s.cmd with node := .stopping, work := .stop .request false } }
  /-- HOLD waits for its channel (R110). -/
  | waits (n : Channel) (hfree : (s.record n).hold = .free) (hnode : s.cmd.node = .running) :
      Obeys s (s.enterHoldWait n)
  /-- HOLD ends at once (R110). -/
  | holds (n : Channel) (hhold : (s.record n).hold = .faulted ∨ s.cmd.node = .halted) :
      Obeys s ((s.setRecord n ChannelRecord.becomeHeld).endCommand .done)
  /-- RELEASE frees the channel (R116). -/
  | frees (n : Channel) (hhold : (s.record n).hold = .held ∨ (s.record n).hold = .faulted) :
      Obeys s ((s.setRecord n ChannelRecord.becomeFree).endCommand .done)
  /-- RELEASE frees a pinned channel (R116). -/
  | freesPinned (n : Channel) (hhold : (s.record n).hold = .held ∨ (s.record n).hold = .faulted) :
      Obeys s (((s.setRecord n ChannelRecord.becomeFree).refill n).endCommand .done)
  /-- RETURN sets its flag, and UNPIN clears the pinned flag (R117, R101). -/
  | flags (n : Channel) (f : ChannelRecord → ChannelRecord) (hhold : ∀ x, (f x).hold = x.hold)
      (hpinned : ∀ x, (f x).pinned = true → x.pinned = true) : Obeys s ((s.setRecord n f).endCommand .done)
  /-- PIN sets the pinned flag (R100). -/
  | pins (n : Channel) (hroom : s.pinnedCount < 8) :
      Obeys s ((s.setRecord n fun x => { x with pinned := true }).endCommand .done)
  /-- PIN of a FREE channel (R100). -/
  | pinsFree (n : Channel) (hroom : s.pinnedCount < 8) (hfree : (s.record n).hold = .free) :
      Obeys s (((s.setRecord n fun x => { x with pinned := true }).refill n).endCommand .done)
  /-- FLUSH takes its set (R102). -/
  | flushes (j : CastJob) (f : Bool) (hnode : s.cmd.node = .running) : Obeys s (s.setWork (.flush j f))
  /-- PURGE takes its sets (R103). -/
  | purges (j k : CastJob) (f : Bool) (hnode : s.cmd.node = .running) : Obeys s (s.setWork (.purge j k f))
  /-- RESUME_EVENTS makes the writer ACTIVE (R154). -/
  | resumes : Obeys s (({ s with writer := { s.writer with active := true } }).writerLook.endCommand .done)

/-- What a write of `code` to COMMAND comes to. -/
inductive State.Commanded (s : State) (code : Byte) : State → Prop where
  | busy (hbusy : s.cmd.busy = true) : Commanded s code (s.setSticky stickyRefusedBusy)
  | taken {t : State} (operand : Byte) (hbusy : s.cmd.busy = false) (h : (s.taken code operand).Obeys t) :
      Commanded s code t

theorem State.takeCommand_commanded {s : State} {code operand : Byte} {body : State → State}
    (h : (s.taken code operand).Obeys (body (s.taken code operand))) :
    s.Commanded code (s.takeCommand code operand body) := by
  obtain ⟨hbusy, h'⟩ | ⟨hbusy, h'⟩ := s.takeCommand_cases code operand body <;> rw [h']
  · exact .busy hbusy
  · exact .taken operand hbusy h

theorem State.channelCommand_obeys {s : State} {body : Channel → State → State} (operand : Byte)
    (h : ∀ n, s.cmd.node ≠ .stopping → s.Obeys (body n s)) : s.Obeys (s.channelCommand operand body) := by
  obtain ⟨-, h'⟩ | ⟨-, -, h'⟩ | ⟨-, hnode, h'⟩ := s.channelCommand_cases operand body <;> rw [h']
  · exact .ends _
  · exact .ends _
  · exact h _ hnode

theorem State.channelCommand_commanded {s : State} {body : Channel → State → State} (code operand : Byte)
    (h : ∀ n (t : State), t.cmd.node ≠ .stopping → t.Obeys (body n t)) :
    s.Commanded code (s.takeCommand code operand fun t => t.channelCommand operand body) :=
  State.takeCommand_commanded (State.channelCommand_obeys operand fun n hnode => h n _ hnode)

theorem State.startCommand_obeys {s : State} (hcode : s.cmd.code = 1) : s.Obeys s.startCommand := by
  unfold State.startCommand
  split
  · exact .ends _
  next hnode =>
    split
    · exact .ends _
    · exact .starts hcode (by simpa using hnode)

theorem State.stopCommand_obeys {s : State} (hcode : s.cmd.code = 2) : s.Obeys s.stopCommand := by
  unfold State.stopCommand
  split
  · exact .ends _
  next hnode => exact .stops hcode (by simpa using hnode)

theorem State.holdChannel_obeys {s : State} (n : Channel) (hnode : s.cmd.node ≠ .stopping) :
    s.Obeys (s.holdChannel n) := by
  unfold State.holdChannel
  split
  next hfree =>
    split
    next hrunning => exact .waits n hfree hrunning
    next hrunning =>
      refine .holds n (.inr ?_)
      cases hn : s.cmd.node with
      | halted => rfl
      | running => exact absurd hn hrunning
      | stopping => exact absurd hn hnode
  next hfaulted => exact .holds n (.inl hfaulted)
  next => exact .ends _

theorem State.releaseChannel_obeys (s : State) (n : Channel) : s.Obeys (s.releaseChannel n) := by
  have freed (hhold : (s.record n).hold = .held ∨ (s.record n).hold = .faulted) : s.Obeys
      ((if (s.record n).pinned then (s.setRecord n ChannelRecord.becomeFree).refill n
        else s.setRecord n ChannelRecord.becomeFree).endCommand .done) := by
    split
    · exact .freesPinned n hhold
    · exact .frees n hhold
  unfold State.releaseChannel
  split
  next hheld => exact freed (.inl hheld)
  next hfaulted => exact freed (.inr hfaulted)
  next => exact .ends _

theorem State.returnChannel_obeys (s : State) (n : Channel) : s.Obeys (s.returnChannel n) := by
  unfold State.returnChannel
  repeat' split
  · exact .ends _
  · exact .flags n _ (fun _ => rfl) fun _ h => h
  · exact .ends _

theorem State.pinChannel_obeys (s : State) (n : Channel) : s.Obeys (s.pinChannel n) := by
  unfold State.pinChannel
  dsimp only
  repeat' split
  · exact .ends _
  · exact .ends _
  · exact .ends _
  next hroom hfree => exact .pinsFree n (by simpa [Config.pinLimit] using hroom) hfree
  next hroom _ => exact .pins n (by simpa [Config.pinLimit] using hroom)

theorem State.unpinChannel_obeys (s : State) (n : Channel) : s.Obeys (s.unpinChannel n) := by
  unfold State.unpinChannel
  split
  · exact .flags n _ (fun _ => rfl) nofun
  · exact .ends _

theorem State.flushCommand_obeys (s : State) : s.Obeys s.flushCommand := by
  unfold State.flushCommand State.flushWith
  repeat' split
  · exact .ends _
  · exact .ends _
  · exact .ends _
  next hrunning _ => exact .flushes _ _ hrunning

theorem State.purgeCommand_obeys (s : State) : s.Obeys s.purgeCommand := by
  unfold State.purgeCommand State.purgeWith
  repeat' split
  · exact .ends _
  · exact .ends _
  · exact .ends _
  next hrunning _ => exact .purges _ _ _ hrunning

theorem State.resumeCommand_obeys (s : State) : s.Obeys s.resumeCommand := by
  unfold State.resumeCommand
  repeat' split
  · exact .ends _
  · exact .ends _
  · exact .resumes

end Sys2Proof.Machine

namespace Sys2Proof

open Sys2Proof.Machine

/-- The ten commands and BAD_COMMAND (Table 9-3). -/
def Instr.isCommand : Instr → Bool
  | .start _ | .stop _ | .hold _ | .release _ | .returnBuffer _ | .pin _ | .unpin _ | .flush _ | .purge _
  | .resumeEvents _ | .badCommand _ _ => true
  | _ => false

/-- The code a command writes to COMMAND (Table 9-3). -/
def Instr.code : Instr → Byte
  | .start _ => 1
  | .stop _ => 2
  | .hold _ => 3
  | .release _ => 4
  | .returnBuffer _ => 5
  | .pin _ => 6
  | .unpin _ => 7
  | .flush _ => 8
  | .purge _ => 9
  | .resumeEvents _ => 10
  | .badCommand code _ => code
  | _ => 0

end Sys2Proof

namespace Sys2Proof.Machine

theorem body_commanded {c : Instr} (h : c.isCommand = true) (s : State) : s.Commanded c.code (c.body s) := by
  cases c with
  | start op => exact State.takeCommand_commanded (State.startCommand_obeys rfl)
  | stop op => exact State.takeCommand_commanded (State.stopCommand_obeys rfl)
  | hold op => exact State.channelCommand_commanded 3 op fun n _ => State.holdChannel_obeys n
  | release op =>
    exact State.channelCommand_commanded 4 op fun n t _ => t.releaseChannel_obeys n
  | returnBuffer op =>
    exact State.channelCommand_commanded 5 op fun n t _ => t.returnChannel_obeys n
  | pin op => exact State.channelCommand_commanded 6 op fun n t _ => t.pinChannel_obeys n
  | unpin op =>
    exact State.channelCommand_commanded 7 op fun n t _ => t.unpinChannel_obeys n
  | flush op => exact State.takeCommand_commanded (State.flushCommand_obeys _)
  | purge op => exact State.takeCommand_commanded (State.purgeCommand_obeys _)
  | resumeEvents op => exact State.takeCommand_commanded (State.resumeCommand_obeys _)
  | badCommand code op => exact State.takeCommand_commanded (body := fun t => t.endCommand .refusedBadCommand) (.ends _)
  | _ => exact absurd h (by simp [Instr.isCommand])

/-! ### The long commands -/

/-- The work is FLUSH's or PURGE's. -/
def Work.isJob : Work → Bool
  | .flush _ _ | .purge _ _ _ => true
  | _ => false

/-- What a step of a long command comes to; `last` says that it is STOP's last. -/
inductive State.Advances (s : State) (last : Prop) : State → Prop where
  /-- The command goes on, or waits (R102, R103, R105, R112). -/
  | leads {t : State} (h : s.Leads t) : Advances s last t
  /-- FLUSH or PURGE ends with its last member (R102, R103). -/
  | ends {t : State} (r : CmdResult) (hwork : s.cmd.work.isJob = true) (h : s.Leads t) : Advances s last (t.endCommand r)
  /-- HOLD ends with the channel's entry absent, or CLEAN and made INVALID (R112). -/
  | finishes {t : State} (n : Channel) (hwork : s.cmd.work = .hold n) (hidle : s.channelIdle n = true)
      (ht : (s.cache.Absent n ∧ t = s) ∨
        ∃ e, s.cache.find n = some e ∧ (s.cache.entry e).state = .clean ∧ t = { s with cache := s.cache.invalidate e }) :
      Advances s last (t.finishHold n)
  /-- STOP goes on to a later step, whose law holds (R168). -/
  | goesOn {t : State} (a b : StopStep) (f g : Bool) (hwork : s.cmd.work = .stop a f) (h : s.Leads t)
      (hengine : (Work.stop b g).pastRequest = true → (Work.stop a f).pastRequest = true ∨ t.engine = none)
      (hqueue : (Work.stop b g).pastCompletions = true →
        (Work.stop a f).pastCompletions = true ∨ t.retire.queue = [])
      (hcache : (Work.stop b g).stopsEvents = true → (Work.stop a f).stopsEvents = true ∨ t.cache.Empty) :
      Advances s last (t.setWork (.stop b g))
  /-- The writer looks at its queue (R156). -/
  | looks : Advances s last s.writerLook
  /-- The writer looks, and STOP waits to halt (R156). -/
  | looksLast (f : Bool) (hwork : s.cmd.work = .stop .events f) : Advances s last (s.writerLook.setWork (.stop .halting f))
  /-- The node is HALTED (R169). -/
  | halts (f : Bool) (hlast : last) (hwork : s.cmd.work = .stop .halting f) (hwriter : s.writer.quiet = true)
      (hport : s.port.quiet = true) :
      Advances s last (({ s with cmd := { s.cmd with node := .halted }, link := { s.link with rx := .idle } }).endCommand
        (resultOf f))

theorem State.holdStep_advances {last : Prop} (s : State) : s.Advances last s.holdStep := by
  unfold State.holdStep
  split
  next n hwork =>
    unfold State.actHold
    split
    · exact .leads .refl
    next hidle =>
      have hidle : s.channelIdle n = true := by simpa using hidle
      split
      next hfind => exact .finishes n hwork hidle (.inl ⟨Cache.find_none.1 hfind, rfl⟩)
      next e hfind =>
        split
        next hdirty => exact .leads (State.beginInvalidation_leads hdirty)
        next hclean => exact .finishes n hwork hidle (.inr ⟨e, hfind, hclean, rfl⟩)
        next => exact .leads .refl
  next => exact .leads .refl

/-- What is left of FLUSH's work after a step. -/
theorem State.flushWith_advances {last : Prop} {s t : State} {j : CastJob} {f : Bool} (hwork : s.cmd.work = .flush j f) (h : s.Leads t)
    (hsame : t.cmd.work = s.cmd.work) (k : CastJob) : s.Advances last (t.flushWith k f) := by
  unfold State.flushWith
  split
  · exact .ends _ (by simp [hwork, Work.isJob]) h
  · exact .leads (h.andThen (.works _ (by simp [hsame, hwork, Work.SameKind, Work.kind])))

/-- What is left of PURGE's work after a step. -/
theorem State.purgeWith_advances {last : Prop} {s t : State} {j k : CastJob} {f : Bool} (hwork : s.cmd.work = .purge j k f)
    (h : s.Leads t) (hsame : t.cmd.work = s.cmd.work) (i l : CastJob) : s.Advances last (t.purgeWith i l f) := by
  unfold State.purgeWith
  split
  · exact .ends _ (by simp [hwork, Work.isJob]) h
  · exact .leads (h.andThen (.works _ (by simp [hsame, hwork, Work.SameKind, Work.kind])))

theorem State.flushJob_advances {last : Prop} {s : State} {put : State → CastJob → State}
    (hput : ∀ (t : State) k, s.Leads t → t.cmd.work = s.cmd.work → s.Advances last (put t k)) (j : CastJob) :
    s.Advances last (s.flushJob j put) := by
  unfold State.flushJob
  split
  · exact .leads .refl
  · split
    · exact .leads .refl
    · exact hput s _ .refl rfl
    next hstep =>
      obtain ⟨rfl, hdirty, -⟩ := State.flushStepOf_cast hstep
      exact hput _ _ (State.beginFlushCastout_leads hdirty) (by simp)
    · exact .leads .refl

theorem State.flushStep_advances {last : Prop} (s : State) : s.Advances last s.flushStep := by
  unfold State.flushStep
  split
  next j f hwork => exact State.flushJob_advances (fun t k h hsame => State.flushWith_advances hwork h hsame k) j
  next j k f hwork => exact State.flushJob_advances (fun t i h hsame => State.purgeWith_advances hwork h hsame i k) j
  next => exact .leads .refl

theorem State.purgeStep_advances {last : Prop} (s : State) : s.Advances last s.purgeStep := by
  unfold State.purgeStep
  split
  next j k f hwork =>
    split
    · unfold State.purgeJob
      split
      · exact .leads .refl
      · split
        · exact .leads .refl
        · exact State.purgeWith_advances hwork .refl rfl _ _
        next hstep =>
          obtain ⟨rfl, hdirty⟩ := State.purgeStepOf_cast hstep
          exact State.purgeWith_advances hwork (State.beginInvalidation_leads hdirty) (by simp) _ _
        · exact State.purgeWith_advances hwork (s.invalidate_leads _) rfl _ _
    · exact .leads .refl
  next => exact .leads .refl

theorem State.stopDrain_advances {last : Prop} (s : State) : s.Advances last s.stopDrain := by
  unfold State.stopDrain
  split
  next f hwork =>
    split
    next hengine =>
      refine .goesOn _ _ f f hwork .refl (fun _ => .inr hengine) (fun h => .inr ?_) fun h => ?_
      · by_contra hqueue
        simp [hqueue, Work.pastCompletions] at h
      · split at h
        all_goals simp [Work.stopsEvents] at h
    next => exact .leads .refl
  next f hwork =>
    split
    next hqueue =>
      exact .goesOn _ _ f f hwork .refl (fun _ => .inl rfl) (fun _ => .inr hqueue) (by simp [Work.stopsEvents])
    next => exact .leads .refl
  next => exact .leads .refl

/-- The cache is quiet when none of its fills, bursts and writes is due, waits or flies (R105). -/
theorem State.cacheQuiet_iff (s : State) : s.cacheQuiet = true ↔
    s.cache.fills = [] ∧ s.cache.due = [] ∧ s.port.cache = none ∧ s.port.flies .cache = false ∧
      ∀ e, (s.cache.entry e).state.inFlight = false := by
  simp only [State.cacheQuiet, Bool.and_eq_true, List.all_eq_true, List.isEmpty_iff, Option.isNone_iff_eq_none,
    Bool.not_eq_true', mem_entryOrder, forall_const, and_assoc]

/-- STOP's sweep leaves the fills and the bursts due. -/
theorem Cache.foldl_invalidate_lists (limit : Nat) (l : List EntryIx) (c : Cache) :
    (l.foldl (Cache.invalidateIfClean limit) c).fills = c.fills ∧
      (l.foldl (Cache.invalidateIfClean limit) c).due = c.due := by
  induction l generalizing c with
  | nil => exact ⟨rfl, rfl⟩
  | cons e l ih =>
    have hsame : (c.invalidateIfClean limit e).fills = c.fills ∧ (c.invalidateIfClean limit e).due = c.due := by
      unfold Cache.invalidateIfClean
      split <;> simp
    rw [List.foldl_cons, (ih _).1, (ih _).2]
    exact hsame

/-- STOP's sweep makes exactly the CLEAN entries below the limit INVALID (R105). -/
theorem Cache.foldl_invalidate_clean {g : EntryIx} {limit : Nat} (hlimit : g.val < limit) (l : List EntryIx) (c : Cache)
    (hg : g ∈ l ∨ (c.entry g).state ≠ .clean) (hstate : (c.entry g).state = .clean ∨ (c.entry g).state = .invalid) :
    ((l.foldl (Cache.invalidateIfClean limit) c).entry g).state = .invalid := by
  induction l generalizing c with
  | nil => exact hstate.resolve_left (hg.resolve_left (by simp))
  | cons e l ih =>
    rw [List.foldl_cons]
    refine ih _ ?_ ?_
    · rw [Cache.invalidateIfClean_state]
      grind
    · rw [Cache.invalidateIfClean_state]
      grind

theorem Cache.foldl_invalidate_above {g : EntryIx} {limit : Nat} (hlimit : limit ≤ g.val) (l : List EntryIx) (c : Cache) :
    ((l.foldl (Cache.invalidateIfClean limit) c).entry g).state = (c.entry g).state := by
  induction l generalizing c with
  | nil => rfl
  | cons e l ih =>
    rw [List.foldl_cons, ih, Cache.invalidateIfClean_state, if_neg]
    rintro ⟨rfl, hlt, -⟩
    omega

/-- With no DIRTY entry and no burst in flight, STOP's sweep empties the cache. -/
theorem State.invalidateClean_empty {s : State} (hquiet : s.cacheQuiet = true)
    (hdirty : ∀ e, (s.cache.entry e).state ≠ .dirty) : (s.cache.invalidateClean 16).Empty := by
  obtain ⟨hfills, hdue, -, -, hentries⟩ := (State.cacheQuiet_iff s).1 hquiet
  obtain ⟨hf, hd⟩ := Cache.foldl_invalidate_lists 16 entryOrder s.cache
  refine ⟨fun g => Cache.foldl_invalidate_clean g.isLt entryOrder _ (.inl (mem_entryOrder g)) ?_, hf.trans hfills,
    hd.trans hdue⟩
  have hquiet := hentries g
  have hclean := hdirty g
  cases hstate : (s.cache.entry g).state with
  | clean => exact .inl rfl
  | invalid => exact .inr rfl
  | dirty => exact absurd hstate hclean
  | _ => simp [hstate, EntryState.inFlight] at hquiet

theorem State.stopCache_advances {last : Prop} (s : State) : s.Advances last s.stopCache := by
  unfold State.stopCache
  split
  next f hwork =>
    split
    · exact .leads .refl
    next hquiet =>
      split
      next e hdirty =>
        have hstate := Cache.firstDirty_some hdirty
        refine .leads ((s.invalidateClean_leads e.val).trans (State.beginInvalidation_leads ?_))
        exact (Cache.foldl_invalidate_state e.val entryOrder (by simp [hstate])).trans hstate
      next hnone =>
        have hempty := State.invalidateClean_empty (by simpa using hquiet) (Cache.firstDirty_none hnone)
        have hleads := s.invalidateClean_leads 16
        generalize s.cache.invalidateClean 16 = c at hempty hleads
        exact .goesOn _ _ f f hwork hleads (fun _ => .inl rfl) (fun _ => .inl rfl) fun _ => .inr hempty
  next => exact .leads .refl

theorem State.stopEvents_advances {last : Prop} (s : State) : s.Advances last s.stopEvents := by
  unfold State.stopEvents
  dsimp only
  split
  next f hwork =>
    split
    · exact .looksLast f hwork
    · exact .looks
  next => exact .looks
  next => exact .leads .refl

theorem State.stopFinish_advances {last : Prop} (s : State) (hlast : last) : s.Advances last s.stopFinish := by
  unfold State.stopFinish
  split
  next f hwork =>
    split
    next hquiet =>
      simp only [Bool.and_eq_true] at hquiet
      exact .halts f hlast hwork hquiet.1.1 hquiet.1.2
    next => exact .leads .refl
  next => exact .leads .refl

end Sys2Proof.Machine

namespace Sys2Proof

open Sys2Proof.Machine

/-- The steps of the long commands. -/
def Instr.isLong : Instr → Bool
  | .holdEnd | .flushMember | .purgeMember | .stopDrainCompletions | .stopCacheStep | .stopEventStep | .stopEnd => true
  | _ => false

end Sys2Proof

namespace Sys2Proof.Machine

theorem body_advances {c : Instr} (h : c.isLong = true) (s : State) : s.Advances (c = .stopEnd) (c.body s) := by
  cases c with
  | holdEnd => exact s.holdStep_advances
  | flushMember => exact s.flushStep_advances
  | purgeMember => exact s.purgeStep_advances
  | stopDrainCompletions => exact s.stopDrain_advances
  | stopCacheStep => exact s.stopCache_advances
  | stopEventStep => exact s.stopEvents_advances
  | stopEnd => exact s.stopFinish_advances rfl
  | _ => exact absurd h (by simp [Instr.isLong])

/-! ### The other writes -/

/-- What a write of a register other than COMMAND comes to. -/
inductive State.Written (s : State) : State → Prop where
  /-- Registers of the host interface alone change (R155, R160, R161, R119). -/
  | registers (h : HostIf) : Written s { s with host := h }
  /-- The guard windows change (R137). -/
  | guards (v : Vector GuardWindow 4) : Written s { s with mover := { s.mover with guards := v } }
  /-- The ring is placed anew (R148). -/
  | placesRing (base : Addr) (size : BitVec 4) :
      Written s { s with writer := { s.writer with eqBase := base, eqSize := size }.resetIndices }
  /-- The host has read entries (R148). -/
  | consumes (q : BitVec 12) : Written s ({ s with writer := { s.writer with consumer := q } }).writerLook
  /-- The error counters are cleared (R51). -/
  | clears (crc frame : Half) : Written s { s with link := { s.link with crcErrors := crc, frameErrors := frame } }
  /-- The event writer looks at its queue (R149). -/
  | looks : Written s s.writerLook

end Sys2Proof.Machine

namespace Sys2Proof

open Sys2Proof.Machine

/-- The writes of the registers other than COMMAND, and EVENT_ENTRY_WRITE. -/
def Instr.isWrite : Instr → Bool
  | .intPendingWrite _ | .intMaskWrite _ | .stickyStatusWrite _ | .configWrite _ _ | .eqBaseWrite _ | .eqSizeWrite _
  | .globalEnablesWrite _ | .eqConsumerWrite _ | .linkErrorsWrite _ | .channelSelectWrite _ | .registerWrite _ _ _
  | .eventEntryWrite => true
  | _ => false

end Sys2Proof

namespace Sys2Proof.Machine

theorem State.configured_written {s : State} {f : State → State} (h : s.Written (f s)) : s.Written (s.configured f) := by
  obtain ⟨-, h'⟩ | ⟨-, h'⟩ := s.configured_cases f <;> rw [h']
  · exact h
  · exact .registers _

theorem State.writeConfig_written (s : State) (reg : ConfigReg) (v : Word) : s.Written (s.writeConfig reg v) := by
  refine State.configured_written ?_
  cases reg with
  | nodeAddress => exact .registers _
  | tableBase => exact .registers _
  | guardBase w => exact .guards _
  | guardLimit w => exact .guards _
  | guardRights => exact .guards _

theorem State.writeEqBase_written (s : State) (v : Word) : s.Written (s.writeEqBase v) :=
  State.configured_written (.placesRing v s.writer.eqSize)

theorem State.writeEqSize_written (s : State) (v : Word) : s.Written (s.writeEqSize v) :=
  State.configured_written (.placesRing s.writer.eqBase (v.setWidth 4))

theorem State.writeGlobalEnables_written (s : State) (v : Word) : s.Written (s.writeGlobalEnables v) := by
  unfold State.writeGlobalEnables
  dsimp only
  repeat' split
  all_goals exact .registers _

theorem body_written {c : Instr} (h : c.isWrite = true) (s : State) : s.Written (c.body s) := by
  cases c with
  | intPendingWrite v => exact .registers _
  | intMaskWrite v => exact .registers _
  | stickyStatusWrite v => exact .registers _
  | configWrite reg v => exact s.writeConfig_written reg v
  | eqBaseWrite v => exact s.writeEqBase_written v
  | eqSizeWrite v => exact s.writeEqSize_written v
  | globalEnablesWrite v => exact s.writeGlobalEnables_written v
  | eqConsumerWrite v => exact .consumes _
  | linkErrorsWrite v => exact .clears 0 0
  | channelSelectWrite v => exact .registers _
  | registerWrite offset enables v => exact .registers s.host
  | eventEntryWrite => exact .looks
  | _ => exact Bool.noConfusion h

end Sys2Proof.Machine

namespace Sys2Proof

/-- Every command is of one of these kinds. -/
theorem Instr.kind_cases (c : Instr) :
    c.isCommand = true ∨ c.isWrite = true ∨ c.isInner = true ∨ c.isLong = true ∨ c = .resetAssert ∨ c = .resetRelease ∨
      (∃ v, c = .softReset v) ∨ (∃ r, c = .evictionCastoutEnd r) ∨ ∃ r, c = .eventEntryWriteEnd r := by
  cases hcommand : c.isCommand with
  | true => exact .inl rfl
  | false =>
    cases hwrite : c.isWrite with
    | true => exact .inr (.inl rfl)
    | false =>
      cases hinner : c.isInner with
      | true => exact .inr (.inr (.inl rfl))
      | false =>
        cases hlong : c.isLong with
        | true => exact .inr (.inr (.inr (.inl rfl)))
        | false =>
          refine .inr (.inr (.inr (.inr ?_)))
          cases c with
          | resetAssert => exact .inl rfl
          | resetRelease => exact .inr (.inl rfl)
          | softReset v => exact .inr (.inr (.inl ⟨v, rfl⟩))
          | evictionCastoutEnd r => exact .inr (.inr (.inr (.inl ⟨r, rfl⟩)))
          | eventEntryWriteEnd r => exact .inr (.inr (.inr (.inr ⟨r, rfl⟩)))
          | _ =>
            first
            | exact Bool.noConfusion hcommand
            | exact Bool.noConfusion hwrite
            | exact Bool.noConfusion hinner
            | exact Bool.noConfusion hlong

end Sys2Proof

namespace Sys2Proof.Machine

/-- What the body of a command of each kind does. -/
theorem body_cases (c : Instr) (s : State) :
    (∃ b, c.body s = s.afterReset b ∧
      (c = .resetAssert ∨ c = .resetRelease ∨ ∃ v : Word, c = .softReset v ∧ v.getLsbD 0 = true)) ∨
    c.body s = s ∨ (c.isCommand = true ∧ s.Commanded c.code (c.body s)) ∨ s.Written (c.body s) ∨
    (c.isInner = true ∧ s.Leads (c.body s)) ∨ (c.isLong = true ∧ s.Advances (c = .stopEnd) (c.body s)) ∨
    (∃ r, c = .evictionCastoutEnd r) ∨ ∃ r, c = .eventEntryWriteEnd r := by
  obtain h | h | h | h | rfl | rfl | ⟨v, rfl⟩ | h | h := c.kind_cases
  · exact .inr (.inr (.inl ⟨h, body_commanded h s⟩))
  · exact .inr (.inr (.inr (.inl (body_written h s))))
  · exact .inr (.inr (.inr (.inr (.inl ⟨h, body_leads h s⟩))))
  · exact .inr (.inr (.inr (.inr (.inr (.inl ⟨h, body_advances h s⟩)))))
  · exact .inl ⟨true, rfl, .inl rfl⟩
  · exact .inl ⟨false, rfl, .inr (.inl rfl)⟩
  · cases hv : getBit v 0 with
    | true => exact .inl ⟨false, if_pos hv, .inr (.inr ⟨v, rfl, hv⟩)⟩
    | false => exact .inr (.inl (if_neg (by simp [hv])))
  · exact .inr (.inr (.inr (.inr (.inr (.inr (.inl h))))))
  · exact .inr (.inr (.inr (.inr (.inr (.inr (.inr h))))))

end Sys2Proof.Machine


/-! PROOFS. The command unit and the channel records: the node state (R163), the pinned channels (R99) and HOLD_WAIT
(R111). -/

namespace Sys2Proof.Machine

/-! ### What goes on unchanged -/

/-- The node, the kind of the command in progress, the pinned flags and the channels in HOLD_WAIT are in `t` as in `s`. -/
structure State.Continues (s t : State) : Prop where
  node : t.cmd.node = s.cmd.node
  busy : t.cmd.busy = s.cmd.busy
  work : s.cmd.work.SameKind t.cmd.work
  pinned : ∀ n, (t.record n).pinned = (s.record n).pinned
  hold : ∀ n, (t.record n).hold = .holdWait ↔ (s.record n).hold = .holdWait

namespace State.Continues

theorem refl (s : State) : s.Continues s := ⟨rfl, rfl, rfl, fun _ => rfl, fun _ => Iff.rfl⟩

theorem trans {s t u : State} (h : s.Continues t) (h' : t.Continues u) : s.Continues u :=
  ⟨h'.node.trans h.node, h'.busy.trans h.busy, Eq.trans h'.work h.work, fun n => (h'.pinned n).trans (h.pinned n),
    fun n => (h'.hold n).trans (h.hold n)⟩

theorem of_frame {s t : State} (hcmd : t.cmd = s.cmd) (hstatus : t.status = s.status) : s.Continues t :=
  ⟨by rw [hcmd], by rw [hcmd], by rw [hcmd]; rfl, fun n => by rw [State.record_congr hstatus],
    fun n => by rw [State.record_congr hstatus]⟩

/-- A record changes in neither its pinned flag nor HOLD_WAIT. -/
theorem setRecord {s : State} {n : Channel} {f : ChannelRecord → ChannelRecord}
    (hf : (f (s.record n)).pinned = (s.record n).pinned ∧
      ((f (s.record n)).hold = .holdWait ↔ (s.record n).hold = .holdWait)) : s.Continues (s.setRecord n f) := by
  refine ⟨rfl, rfl, rfl, fun m => ?_, fun m => ?_⟩
  all_goals
    rw [State.record_setRecord]
    split
    next h => rw [h]; first | exact hf.1 | exact hf.2
    next => rfl

theorem report (s : State) (n : Channel) (reason : FaultReason) (subCode : BitVec 4) :
    s.Continues (s.setRecord n fun x => x.report reason subCode) := by
  refine setRecord ?_
  unfold ChannelRecord.report
  repeat' split
  all_goals simp_all

theorem update {s t : State} (h : s.Update t) : s.Continues t := by
  cases h with
  | asksFetch => exact of_frame (by simp) (by simp)
  | grants => exact of_frame (by simp) (by simp)
  | flags v hv =>
    refine ⟨rfl, rfl, rfl, fun n => (hv n).2, fun n => ?_⟩
    rw [show (State.record { s with status := v } n).hold = (s.record n).hold from (hv n).1]
  | fails e reason subCode =>
    exact (of_frame (s := s) (t := { s with cache := (s.cache.invalidate e).withdrawFill (s.cache.entry e).tag }) rfl
      rfl).trans (report _ _ reason subCode)
  | works w hw => exact ⟨rfl, rfl, hw, fun _ => rfl, fun _ => Iff.rfl⟩
  | _ => exact of_frame rfl rfl

theorem leads {s t : State} (h : s.Leads t) : s.Continues t :=
  h.keeps (P := s.Continues) (fun _ _ hu hs => hs.trans (update hu)) (refl s)

theorem endEviction (s : State) (r : WriteEnd) : s.Continues (s.endEviction r) :=
  State.endEviction_keeps (P := s.Continues) (fun _ _ hu hs => hs.trans (update hu))
    (fun _ n reason subCode hs => hs.trans (report _ n reason subCode)) r (refl s)

theorem endEntry (s : State) (r : WriteEnd) : s.Continues (s.endEntry r) := of_frame (by simp) (by simp)

theorem written {s t : State} (h : s.Written t) : s.Continues t := by
  cases h with
  | registers h => exact of_frame rfl rfl
  | guards v => exact of_frame rfl rfl
  | placesRing base size => exact of_frame rfl rfl
  | consumes q => exact of_frame (by simp) (by simp)
  | clears crc frame => exact of_frame rfl rfl
  | looks => exact of_frame (by simp) (by simp)

end State.Continues

/-! ### The command unit -/

theorem Work.kind_eq_none {w : Work} : w.kind = .none ↔ w = .none := by cases w <;> simp [Work.kind]

theorem Work.kind_eq_hold {w : Work} {n : Channel} : w.kind = .hold n ↔ w = .hold n := by cases w <;> simp [Work.kind]

theorem Work.kind_eq_stop {w : Work} {a : StopStep} : w.kind = .stop a false ↔ ∃ f, w = .stop a f := by
  cases w <;> simp [Work.kind]

theorem Work.isStop_of_sameKind {w v : Work} {a : StopStep} {f : Bool} (h : w.SameKind v) (hw : w = .stop a f) :
    ∃ g, v = .stop a g := Work.kind_eq_stop.1 (h.trans (Work.kind_eq_stop.2 ⟨f, hw⟩))

theorem CommandUnit.Law.congr {c d : CommandUnit} (hnode : d.node = c.node) (hbusy : d.busy = c.busy)
    (hwork : c.work.SameKind d.work) (h : c.Law) : d.Law := by
  obtain ⟨hb, hhalted, hstopping, hrunning⟩ := h
  have none_iff : d.work = .none ↔ c.work = .none := by rw [← Work.kind_eq_none, hwork, Work.kind_eq_none]
  refine ⟨fun hne => hbusy ▸ hb (mt none_iff.2 hne), fun hn => none_iff.2 (hhalted (hnode ▸ hn)), fun hn => ?_,
    fun hn a f hd => ?_⟩
  · obtain ⟨a, f, hc⟩ := hstopping (hnode ▸ hn)
    exact ⟨a, Work.isStop_of_sameKind hwork hc⟩
  · obtain ⟨g, hc⟩ := Work.isStop_of_sameKind hwork.symm hd
    exact hrunning (hnode ▸ hn) a g hc

/-- With no command in progress the node is not STOPPING, and the law holds whatever else the unit shows. -/
theorem CommandUnit.Law.of_ended {c : CommandUnit} (hnode : c.node ≠ .stopping) (hwork : c.work = .none) : c.Law :=
  ⟨fun h => absurd hwork h, fun _ => hwork, fun h => absurd h hnode, fun _ a f h => by simp [hwork] at h⟩

/-- With a command in progress that is no STOP the node is RUNNING. -/
theorem CommandUnit.Law.of_running {c : CommandUnit} (hnode : c.node = .running) (hbusy : c.busy = true)
    (hwork : ∀ a f, c.work ≠ .stop a f) : c.Law :=
  ⟨fun _ => hbusy, fun h => by simp [hnode] at h, fun h => by simp [hnode] at h, fun _ => hwork⟩

theorem CommandUnit.Law.of_stopping {c : CommandUnit} {a : StopStep} {f : Bool} (hnode : c.node = .stopping)
    (hbusy : c.busy = true) (hwork : c.work = .stop a f) : c.Law :=
  ⟨fun _ => hbusy, fun h => by simp [hnode] at h, fun _ => ⟨a, f, hwork⟩, fun h => by simp [hnode] at h⟩

/-- A unit that is not busy carries out no command, and its node is not STOPPING. -/
theorem CommandUnit.Law.of_not_busy {c : CommandUnit} (h : c.Law) (hbusy : c.busy = false) :
    c.work = .none ∧ c.node ≠ .stopping := by
  obtain ⟨hb, -, hstopping, -⟩ := h
  have hnone : c.work = .none := by
    by_contra hne
    simp [hb hne] at hbusy
  refine ⟨hnone, fun hn => ?_⟩
  obtain ⟨a, f, hw⟩ := hstopping hn
  simp [hnone] at hw

/-- A command other than STOP in progress has the node RUNNING. -/
theorem CommandUnit.Law.running {c : CommandUnit} (h : c.Law) (hwork : c.work ≠ .none) (hstop : ∀ a f, c.work ≠ .stop a f) :
    c.node = .running := by
  obtain ⟨-, hhalted, hstopping, -⟩ := h
  cases hn : c.node with
  | running => rfl
  | halted => exact absurd (hhalted hn) hwork
  | stopping =>
    obtain ⟨a, f, hw⟩ := hstopping hn
    exact absurd hw (hstop a f)

/-- STOP in progress has the node STOPPING and the unit busy. -/
theorem CommandUnit.Law.stopping {c : CommandUnit} (h : c.Law) {a : StopStep} {f : Bool} (hwork : c.work = .stop a f) :
    c.node = .stopping ∧ c.busy = true := by
  obtain ⟨hb, hhalted, -, hrunning⟩ := h
  refine ⟨?_, hb (by simp [hwork])⟩
  cases hn : c.node with
  | stopping => rfl
  | halted => simp [hhalted hn] at hwork
  | running => exact absurd hwork (hrunning hn a f)

theorem Work.not_stop_of_isJob {w : Work} (h : w.isJob = true) : w ≠ .none ∧ ∀ a f, w ≠ .stop a f := by
  cases w <;> simp_all [Work.isJob]

theorem CommandUnit.Law.obeys {s t : State} (h : s.Obeys t) (hbusy : s.cmd.busy = true)
    (hnode : s.cmd.node ≠ .stopping) : t.cmd.Law := by
  cases h with
  | ends r => exact .of_ended hnode rfl
  | starts _ _ => exact .of_ended (by simp [State.startNode]) rfl
  | stops _ _ => exact .of_stopping rfl hbusy rfl
  | waits n _ hrunning => exact .of_running hrunning hbusy (by simp [State.enterHoldWait])
  | holds n _ => exact .of_ended hnode rfl
  | frees n _ => exact .of_ended hnode rfl
  | freesPinned n _ => exact .of_ended (by simpa using hnode) rfl
  | flags n f _ _ => exact .of_ended hnode rfl
  | pins n _ => exact .of_ended hnode rfl
  | pinsFree n _ _ => exact .of_ended (by simpa using hnode) rfl
  | flushes j f hrunning => exact .of_running hrunning hbusy (by simp)
  | purges j k f hrunning => exact .of_running hrunning hbusy (by simp)
  | resumes => exact .of_ended (by simpa using hnode) rfl

theorem CommandUnit.Law.commanded {s t : State} {code : Byte} (h : s.Commanded code t) (hlaw : s.cmd.Law) : t.cmd.Law := by
  cases h with
  | busy _ => exact hlaw
  | taken operand hbusy hobeys =>
    exact CommandUnit.Law.obeys hobeys rfl (hlaw.of_not_busy hbusy).2

theorem CommandUnit.Law.continues {s t : State} (h : s.Continues t) (hlaw : s.cmd.Law) : t.cmd.Law :=
  hlaw.congr h.node h.busy h.work

theorem CommandUnit.Law.advances {s t : State} {last : Prop} (h : s.Advances last t) (hlaw : s.cmd.Law) : t.cmd.Law := by
  cases h with
  | leads h => exact hlaw.continues (.leads h)
  | @ends u r hwork h =>
    obtain ⟨hne, hstop⟩ := Work.not_stop_of_isJob hwork
    have hnode : u.cmd.node = .running := (State.Continues.leads h).node.trans (hlaw.running hne hstop)
    exact .of_ended (by simp [hnode]) rfl
  | @finishes u n hwork _ hu =>
    have hcmd : u.cmd = s.cmd := by obtain ⟨-, rfl⟩ | ⟨e, -, -, rfl⟩ := hu <;> rfl
    have hnode : u.cmd.node = .running := by
      rw [hcmd]
      exact hlaw.running (by simp [hwork]) (by simp [hwork])
    unfold State.finishHold
    split
    all_goals exact .of_ended (by simp [hnode]) rfl
  | @goesOn u a b f g hwork h =>
    obtain ⟨hnode, hbusy⟩ := hlaw.stopping hwork
    have hcontinues := State.Continues.leads h
    exact .of_stopping (hcontinues.node.trans hnode) (hcontinues.busy.trans hbusy) rfl
  | looks => exact hlaw.continues (.of_frame (by simp) (by simp))
  | looksLast f hwork =>
    obtain ⟨hnode, hbusy⟩ := hlaw.stopping hwork
    exact .of_stopping (by simpa using hnode) (by simpa using hbusy) rfl
  | halts f _ hwork => exact .of_ended (by simp) rfl

theorem body_commandLaw {c : Instr} {s : State} (h : s.cmd.Law) : (c.body s).cmd.Law := by
  obtain ⟨b, hreset, -⟩ | hsame | ⟨-, hcommand⟩ | hwritten | ⟨-, hleads⟩ | ⟨-, hadvances⟩ | ⟨r, rfl⟩ | ⟨r, rfl⟩ :=
    body_cases c s
  · rw [hreset]
    exact .of_ended (by simp [CommandUnit.reset]) rfl
  · exact hsame.symm ▸ h
  · exact CommandUnit.Law.commanded hcommand h
  · exact h.continues (.written hwritten)
  · exact h.continues (.leads hleads)
  · exact CommandUnit.Law.advances hadvances h
  · exact h.continues (.endEviction s r)
  · exact h.continues (.endEntry s r)

/-! ### The pinned channels -/

theorem State.pinnedCount_le {s t : State} (h : ∀ n, (t.record n).pinned = true → (s.record n).pinned = true) :
    t.pinnedCount ≤ s.pinnedCount := by
  rw [State.pinnedCount_eq, State.pinnedCount_eq]
  exact (List.monotone_filter_right _ h).length_le

/-- One channel more is pinned. -/
theorem State.pinnedCount_pin_le {s t : State} (n : Channel)
    (h : ∀ m, m ≠ n → (t.record m).pinned = true → (s.record m).pinned = true) : t.pinnedCount ≤ s.pinnedCount + 1 := by
  have hsub : ((List.finRange 64).filter fun m => (t.record m).pinned) ⊆
      n :: (List.finRange 64).filter fun m => (s.record m).pinned := fun m hm => by
    have hpinned := (List.mem_filter.1 hm).2
    by_cases hmn : m = n
    · exact hmn ▸ List.mem_cons_self
    · exact List.mem_cons_of_mem _ (List.mem_filter.2 ⟨List.mem_finRange m, h m hmn hpinned⟩)
  rw [State.pinnedCount_eq, State.pinnedCount_eq]
  exact (List.subperm_of_subset ((List.nodup_finRange 64).filter _) hsub).length_le

theorem State.PinLaw.of_pinned {s t : State} (h : ∀ n, (t.record n).pinned = true → (s.record n).pinned = true)
    (hlaw : s.PinLaw) : t.PinLaw := (State.pinnedCount_le h).trans hlaw

theorem State.PinLaw.setRecord {s : State} (n : Channel) {f : ChannelRecord → ChannelRecord}
    (hf : ∀ x, (f x).pinned = true → x.pinned = true) (hlaw : s.PinLaw) : (s.setRecord n f).PinLaw := by
  refine hlaw.of_pinned fun m hm => ?_
  rw [State.record_setRecord] at hm
  split at hm
  next h => exact h ▸ hf _ hm
  next => exact hm

/-- The pins depend on the status table alone. -/
theorem State.PinLaw.congr {s t : State} (hstatus : t.status = s.status) (hlaw : s.PinLaw) : t.PinLaw :=
  hlaw.of_pinned fun n hn => by rwa [State.record_congr hstatus] at hn

theorem State.PinLaw.pins {s : State} (n : Channel) (hroom : s.pinnedCount < 8) :
    (s.setRecord n fun x => { x with pinned := true }).PinLaw := by
  refine Nat.le_trans (State.pinnedCount_pin_le (s := s) n fun m hm hpinned => ?_) hroom
  rwa [State.record_setRecord, if_neg hm] at hpinned

theorem State.PinLaw.obeys {s t : State} (h : s.Obeys t) (hlaw : s.PinLaw) : t.PinLaw := by
  cases h with
  | starts _ _ => exact hlaw.of_pinned fun n hn => by simpa [State.startNode, State.record] using hn
  | waits n _ _ =>
    exact (hlaw.congr (t := { s with engine := s.engine.map Request.beforeHold }) rfl).setRecord n fun _ h => h
  | holds n _ => exact hlaw.setRecord n fun _ h => h
  | frees n _ => exact hlaw.setRecord n fun _ h => h
  | freesPinned n _ => exact (hlaw.setRecord n (f := ChannelRecord.becomeFree) fun _ h => h).congr (by simp)
  | flags n f _ hpinned => exact hlaw.setRecord n hpinned
  | pins n hroom => exact State.PinLaw.pins n hroom
  | pinsFree n hroom _ => exact (State.PinLaw.pins n hroom).congr (by simp)
  | resumes => exact hlaw.congr (by simp)
  | _ => exact hlaw

theorem State.PinLaw.continues {s t : State} (h : s.Continues t) (hlaw : s.PinLaw) : t.PinLaw :=
  hlaw.of_pinned fun n hn => by rwa [h.pinned] at hn

theorem State.PinLaw.advances {s t : State} {last : Prop} (h : s.Advances last t) (hlaw : s.PinLaw) : t.PinLaw := by
  cases h with
  | leads h => exact hlaw.continues (.leads h)
  | @ends u r _ h =>
    have hu : u.PinLaw := hlaw.continues (.leads h)
    exact hu
  | @finishes u n _ _ hu =>
    have hpins : u.PinLaw := by obtain ⟨-, rfl⟩ | ⟨e, -, -, rfl⟩ := hu <;> exact hlaw
    unfold State.finishHold
    split
    · exact hpins.setRecord n (f := ChannelRecord.becomeHeld) fun _ h => h
    · exact hpins.setRecord n (f := fun x => { x with hold := .faulted, returned := false, seqValid := false })
        fun _ h => h
  | @goesOn u a b f g _ h =>
    have hu : u.PinLaw := hlaw.continues (.leads h)
    exact hu
  | looks => exact hlaw.congr (by simp)
  | looksLast f _ => exact hlaw.congr (by simp)
  | halts f _ _ => exact hlaw

theorem State.PinLaw.commanded {s t : State} {code : Byte} (h : s.Commanded code t) (hlaw : s.PinLaw) : t.PinLaw := by
  cases h with
  | busy _ => exact hlaw
  | taken operand _ hobeys => exact State.PinLaw.obeys hobeys hlaw

theorem State.PinLaw.afterReset (s : State) (b : Bool) : (s.afterReset b).PinLaw := by
  simp [State.PinLaw, State.pinnedCount, ChannelRecord.reset]

theorem body_pinLaw {c : Instr} {s : State} (h : s.PinLaw) : (c.body s).PinLaw := by
  obtain ⟨b, hreset, -⟩ | hsame | ⟨-, hcommand⟩ | hwritten | ⟨-, hleads⟩ | ⟨-, hadvances⟩ | ⟨r, rfl⟩ | ⟨r, rfl⟩ :=
    body_cases c s
  · exact hreset.symm ▸ State.PinLaw.afterReset s b
  · exact hsame.symm ▸ h
  · exact State.PinLaw.commanded hcommand h
  · exact h.continues (.written hwritten)
  · exact h.continues (.leads hleads)
  · exact State.PinLaw.advances hadvances h
  · exact h.continues (.endEviction s r)
  · exact h.continues (.endEntry s r)

/-! ### HOLD_WAIT -/

theorem State.HoldLaw.continues {s t : State} (h : s.Continues t) (hlaw : s.HoldLaw) : t.HoldLaw := by
  obtain ⟨hbusy, hhold⟩ := hlaw
  refine ⟨fun hne => ?_, fun n => ?_⟩
  · rw [h.busy]
    exact hbusy fun hnone => hne (Work.kind_eq_none.1 (h.work.trans (Work.kind_eq_none.2 hnone)))
  · have hwork : t.cmd.work.kind = s.cmd.work.kind := h.work
    rw [h.hold, hhold, ← Work.kind_eq_hold, ← hwork, Work.kind_eq_hold]

/-- With no channel in HOLD_WAIT and no HOLD in progress. -/
theorem State.HoldLaw.of_none {s : State} (hbusy : s.cmd.work ≠ .none → s.cmd.busy = true)
    (hwork : ∀ n, s.cmd.work ≠ .hold n) (hhold : ∀ n, (s.record n).hold ≠ .holdWait) : s.HoldLaw :=
  ⟨hbusy, fun n => ⟨fun h => absurd h (hhold n), fun h => absurd h (hwork n)⟩⟩

/-- The end of a command after which no channel is in HOLD_WAIT. -/
theorem State.HoldLaw.endCommand {s : State} (r : CmdResult) (hhold : ∀ n, (s.record n).hold ≠ .holdWait) :
    (s.endCommand r).HoldLaw := .of_none (fun h => absurd rfl h) nofun hhold

theorem State.record_setRecord_ne_holdWait {s : State} {n : Channel} {f : ChannelRecord → ChannelRecord}
    (hhold : ∀ m, m ≠ n → (s.record m).hold ≠ .holdWait) (hf : (f (s.record n)).hold ≠ .holdWait) (m : Channel) :
    ((s.setRecord n f).record m).hold ≠ .holdWait := by
  rw [State.record_setRecord]
  split
  · exact hf
  next h => exact hhold m h

theorem State.HoldLaw.obeys {s t : State} (h : s.Obeys t) (hbusy : s.cmd.busy = true)
    (hhold : ∀ n, (s.record n).hold ≠ .holdWait) : t.HoldLaw := by
  have set {n : Channel} {f : ChannelRecord → ChannelRecord} (hf : (f (s.record n)).hold ≠ .holdWait) (m : Channel) :=
    State.record_setRecord_ne_holdWait (fun m _ => hhold m) hf m
  cases h with
  | ends r => exact .endCommand r hhold
  | starts _ _ => exact .endCommand .done fun n => by simpa [State.startNode, State.record] using hhold n
  | stops _ _ => exact .of_none (fun _ => hbusy) nofun hhold
  | waits n hfree _ =>
    refine ⟨fun _ => hbusy, fun m => ?_⟩
    change ((State.setRecord { s with engine := s.engine.map Request.beforeHold } n
      fun x => { x with hold := .holdWait }).record m).hold = .holdWait ↔ Work.hold n = .hold m
    rw [State.record_setRecord]
    split
    next hm => simp [hm]
    next hm => exact ⟨fun h => absurd h (hhold m), fun h => absurd (Work.hold.inj h).symm hm⟩
  | holds n _ => exact .endCommand .done (set (f := ChannelRecord.becomeHeld) (by simp [ChannelRecord.becomeHeld]))
  | frees n _ => exact .endCommand .done (set (f := ChannelRecord.becomeFree) (by simp [ChannelRecord.becomeFree]))
  | freesPinned n _ =>
    refine .endCommand .done fun m => ?_
    rw [State.record_congr (s := s.setRecord n ChannelRecord.becomeFree) (by simp)]
    exact set (by simp [ChannelRecord.becomeFree]) m
  | flags n f hf _ => exact .endCommand .done (set (by rw [hf]; exact hhold n))
  | pins n _ => exact .endCommand .done (set (f := fun x => { x with pinned := true }) (hhold n))
  | pinsFree n _ _ =>
    refine .endCommand .done fun m => ?_
    rw [State.record_congr (s := s.setRecord n fun x => { x with pinned := true }) (by simp)]
    exact set (f := fun x => { x with pinned := true }) (hhold n) m
  | flushes j f _ => exact .of_none (fun _ => hbusy) nofun hhold
  | purges j k f _ => exact .of_none (fun _ => hbusy) nofun hhold
  | resumes =>
    refine .endCommand .done fun m => ?_
    rw [State.record_congr (s := s) (by simp)]
    exact hhold m

/-- With no HOLD in progress no channel is in HOLD_WAIT. -/
theorem State.HoldLaw.none_waits {s : State} (hlaw : s.HoldLaw) (hwork : ∀ n, s.cmd.work ≠ .hold n) (n : Channel) :
    (s.record n).hold ≠ .holdWait := fun h => hwork n ((hlaw.2 n).1 h)

theorem State.HoldLaw.commanded {s t : State} {code : Byte} (h : s.Commanded code t) (hlaw : s.HoldLaw) : t.HoldLaw := by
  cases h with
  | busy _ => exact hlaw
  | taken operand hbusy hobeys =>
    have hnone : s.cmd.work = .none := by
      by_contra hne
      simp [hlaw.1 hne] at hbusy
    exact State.HoldLaw.obeys hobeys rfl (hlaw.none_waits (by simp [hnone]))

theorem State.HoldLaw.advances {s t : State} {last : Prop} (h : s.Advances last t) (hlaw : s.HoldLaw) : t.HoldLaw := by
  cases h with
  | leads h => exact hlaw.continues (.leads h)
  | @ends u r hwork h =>
    have hnone : ∀ n, s.cmd.work ≠ .hold n := fun n hn => by simp [hn, Work.isJob] at hwork
    exact .endCommand r fun n hn => hlaw.none_waits hnone n (((State.Continues.leads h).hold n).1 hn)
  | @finishes u n hwork _ hu =>
    have hothers (m : Channel) (hm : m ≠ n) : (u.record m).hold ≠ .holdWait := by
      have hs : (s.record m).hold ≠ .holdWait := fun h => hm (Work.hold.inj (hwork.symm.trans ((hlaw.2 m).1 h))).symm
      obtain ⟨-, rfl⟩ | ⟨e, -, -, rfl⟩ := hu <;> exact hs
    unfold State.finishHold
    split
    · exact .endCommand .done (State.record_setRecord_ne_holdWait hothers (by simp [ChannelRecord.becomeHeld]))
    · exact .endCommand .fault (State.record_setRecord_ne_holdWait hothers (by simp))
  | @goesOn u a b f g hwork h =>
    have hcontinues := State.Continues.leads h
    refine .of_none (fun _ => ?_) nofun fun n hn => ?_
    · exact hcontinues.busy.trans (hlaw.1 (by simp [hwork]))
    · exact hlaw.none_waits (by simp [hwork]) n ((hcontinues.hold n).1 hn)
  | looks => exact hlaw.continues (.of_frame (by simp) (by simp))
  | looksLast f hwork =>
    refine .of_none (fun _ => ?_) nofun fun n hn => ?_
    · simpa using hlaw.1 (by simp [hwork])
    · have hsame : ((s.writerLook.setWork (.stop .halting f)).record n) = s.record n := State.record_congr (by simp) n
      exact hlaw.none_waits (by simp [hwork]) n (hsame ▸ hn)
  | halts f _ hwork => exact .endCommand _ (hlaw.none_waits (by simp [hwork]))

theorem State.HoldLaw.afterReset (s : State) (b : Bool) : (s.afterReset b).HoldLaw :=
  .of_none (fun h => absurd rfl h) nofun fun n => by simp [ChannelRecord.reset]

theorem body_holdLaw {c : Instr} {s : State} (h : s.HoldLaw) : (c.body s).HoldLaw := by
  obtain ⟨b, hreset, -⟩ | hsame | ⟨-, hcommand⟩ | hwritten | ⟨-, hleads⟩ | ⟨-, hadvances⟩ | ⟨r, rfl⟩ | ⟨r, rfl⟩ :=
    body_cases c s
  · exact hreset.symm ▸ State.HoldLaw.afterReset s b
  · exact hsame.symm ▸ h
  · exact State.HoldLaw.commanded hcommand h
  · exact h.continues (.written hwritten)
  · exact h.continues (.leads hleads)
  · exact State.HoldLaw.advances hadvances h
  · exact h.continues (.endEviction s r)
  · exact h.continues (.endEntry s r)

/-- Settles O57: PIN alone pins a channel, and asks for room; HOLD alone enters HOLD_WAIT, with no command in progress
before, and the end of HOLD leaves it. -/
theorem statusLawKept : Obligations.StatusLawKept := by
  unfold Obligations.StatusLawKept
  intro s t hstep
  exact ⟨fun h => step_keeps (fun _ _ h => h) (fun _ _ _ h => body_pinLaw h) s t h hstep,
    fun h => step_keeps (fun _ _ h => h) (fun _ _ _ h => body_holdLaw h) s t h hstep⟩

end Sys2Proof.Machine


/-! PROOFS. STOP's steps and HALTED: what is empty stays empty (R139, R168, R169), and the events that change the node
state (R163). -/

namespace Sys2Proof.Machine

/-! ### A cache that is empty -/

namespace Cache.Empty

variable {c d : Cache}

/-- The cache stays empty as no entry leaves INVALID and no fill and no burst joins. -/
theorem congr (h : c.Empty) (hstate : ∀ e, (c.entry e).state = .invalid → (d.entry e).state = .invalid)
    (hfills : d.fills = c.fills) (hdue : d.due = c.due) : d.Empty := by
  obtain ⟨hentries, hf, hd⟩ := h
  exact ⟨fun e => hstate e (hentries e), hfills.trans hf, hdue.trans hd⟩

theorem modify (e : EntryIx) {f : Entry → Entry} (hf : ∀ x, x.state = .invalid → (f x).state = .invalid)
    (h : c.Empty) : (c.modify e f).Empty := by
  refine Cache.Empty.congr h (fun g hg => ?_) rfl rfl
  rw [Cache.entry_modify]
  split
  next he => exact hf _ (he ▸ hg)
  next => exact hg

theorem touch (e : EntryIx) (h : c.Empty) : (c.touch e).Empty :=
  Cache.Empty.congr h (fun g hg => by simpa [Cache.entry_touch] using hg) rfl rfl

theorem invalidate (e : EntryIx) (h : c.Empty) : (c.invalidate e).Empty := by
  refine Cache.Empty.congr h (fun g hg => ?_) rfl rfl
  rw [Cache.entry_invalidate]
  split
  · rfl
  · exact hg

theorem withdrawFill (n : Channel) (h : c.Empty) : (c.withdrawFill n).Empty := by
  obtain ⟨hentries, hf, hd⟩ := h
  exact ⟨hentries, by simp [Cache.withdrawFill, hf], hd⟩

theorem nextFill (h : c.Empty) : c.nextFill = none := by simp [Cache.nextFill, h.2.1]

end Cache.Empty

/-! ### STOP's steps -/

theorem Work.kind_past {w v : Work} (h : w.SameKind v) : v.pastRequest = w.pastRequest ∧
    v.pastCompletions = w.pastCompletions ∧ v.stopsEvents = w.stopsEvents := by
  have past (x : Work) : x.kind.pastRequest = x.pastRequest ∧ x.kind.pastCompletions = x.pastCompletions ∧
      x.kind.stopsEvents = x.stopsEvents := by
    cases x with
    | stop a f => cases a <;> exact ⟨rfl, rfl, rfl⟩
    | _ => exact ⟨rfl, rfl, rfl⟩
  have hkind : v.kind = w.kind := h
  obtain ⟨hr, hc, he⟩ := past w
  obtain ⟨hr', hc', he'⟩ := past v
  exact ⟨by rw [← hr', hkind, hr], by rw [← hc', hkind, hc], by rw [← he', hkind, he]⟩

/-- STOP's later steps come after its first. -/
theorem Work.pastRequest_of_later {w : Work} (h : w.pastCompletions = true ∨ w.stopsEvents = true) :
    w.pastRequest = true := by
  cases w with
  | stop a f => cases a <;> simp_all [Work.pastCompletions, Work.stopsEvents, Work.pastRequest]
  | _ => simp [Work.pastCompletions, Work.stopsEvents] at h

theorem Work.pastRequest_iff {w : Work} : w.pastRequest = true → ∃ a f, w = .stop a f := by
  cases w with
  | stop a f => exact fun _ => ⟨a, f, rfl⟩
  | _ => simp [Work.pastRequest]

/-- Outside STOPPING no step of STOP is past. -/
theorem CommandUnit.Law.not_past {c : CommandUnit} (h : c.Law) (hnode : c.node ≠ .stopping) :
    c.work.pastRequest = false := by
  cases hpast : c.work.pastRequest with
  | false => rfl
  | true =>
    obtain ⟨a, f, hwork⟩ := Work.pastRequest_iff hpast
    exact absurd (h.stopping hwork).1 hnode

namespace State.QuietLaw

variable {s t : State}

/-- While the node is RUNNING the law asks for nothing beyond that of the command unit. -/
theorem of_running (hlaw : s.cmd.Law) (hnode : s.cmd.node = .running) : s.QuietLaw := by
  have hpast := hlaw.not_past (by simp [hnode])
  have hnot : s.cmd.node ≠ .halted := by simp [hnode]
  have hlater (h : s.cmd.work.pastCompletions = true ∨ s.cmd.work.stopsEvents = true) : False := by
    simp [Work.pastRequest_of_later h] at hpast
  exact ⟨hlaw, fun h => h.elim (by simp [hpast]) (absurd · hnot),
    fun h => h.elim (fun hc => (hlater (.inl hc)).elim) (absurd · hnot),
    fun h => h.elim (fun he => (hlater (.inr he)).elim) (absurd · hnot), fun h => absurd h hnot⟩

/-- In HALTED all is at rest. -/
theorem of_halted (hlaw : s.cmd.Law) (hengine : s.engine = none) (hqueue : s.retire.queue = []) (hcache : s.cache.Empty)
    (hwriter : s.writer.quiet = true) (hport : s.port.quiet = true) (hrx : s.link.rx = .idle) : s.QuietLaw :=
  ⟨hlaw, fun _ => hengine, fun _ => hqueue, fun _ => hcache, fun _ => ⟨hwriter, hport, hrx⟩⟩

/-- What a node that is not HALTED keeps: what STOP has emptied stays empty. -/
theorem of_emptied (hnode : t.cmd.node ≠ .halted) (hlaw : t.cmd.Law)
    (hengine : t.cmd.work.pastRequest = true → t.engine = none)
    (hqueue : t.cmd.work.pastCompletions = true → t.retire.queue = [])
    (hcache : t.cmd.work.stopsEvents = true → t.cache.Empty) : t.QuietLaw :=
  ⟨hlaw, fun h => h.elim hengine (absurd · hnode), fun h => h.elim hqueue (absurd · hnode),
    fun h => h.elim hcache (absurd · hnode), fun h => absurd h hnode⟩

theorem of_kept (hnode : s.cmd.node ≠ .halted) (hcmd : t.cmd = s.cmd)
    (hengine : s.cmd.work.pastRequest = true → s.engine = none → t.engine = none)
    (hqueue : s.cmd.work.pastRequest = true → s.engine = none → s.retire.queue = [] → t.retire.queue = [])
    (hcache : s.cmd.work.pastRequest = true → s.cache.Empty → t.cache.Empty) (h : s.QuietLaw) : t.QuietLaw := by
  obtain ⟨hlaw, he, hq, hc, -⟩ := h
  have past : s.cmd.work.pastRequest = true → s.engine = none := fun h => he (.inl h)
  refine of_emptied (hcmd ▸ hnode) (hcmd ▸ hlaw) (fun h => ?_) (fun h => ?_) fun h => ?_
  · rw [hcmd] at h
    exact hengine h (past h)
  · rw [hcmd] at h
    have hp := Work.pastRequest_of_later (.inl h)
    exact hqueue hp (past hp) (hq (.inl h))
  · rw [hcmd] at h
    exact hcache (Work.pastRequest_of_later (.inr h)) (hc (.inl h))

/-- The law where engine, completion queue and cache stay as they are. -/
theorem of_frame (hnode : s.cmd.node ≠ .halted) (hcmd : t.cmd = s.cmd) (hengine : t.engine = s.engine)
    (hretire : t.retire = s.retire) (hcache : t.cache = s.cache) (h : s.QuietLaw) : t.QuietLaw :=
  of_kept hnode hcmd (fun _ he => hengine.trans he) (fun _ _ hq => hretire ▸ hq) (fun _ hc => hcache ▸ hc) h

/-- The law where an update touches the cache alone. -/
theorem of_cache (hnode : s.cmd.node ≠ .halted) {c : Cache}
    (hcache : s.cmd.work.pastRequest = true → s.cache.Empty → c.Empty) (h : s.QuietLaw) :
    State.QuietLaw { s with cache := c } := of_kept hnode rfl (fun _ he => he) (fun _ _ hq => hq) hcache h

theorem update (hupdate : s.Update t) (hnode : s.cmd.node ≠ .halted) (h : s.QuietLaw) : t.QuietLaw := by
  have running (hrunning : s.cmd.node = .running) : ¬ s.cmd.work.pastRequest = true := by
    simp [h.1.not_past (show s.cmd.node ≠ .stopping by simp [hrunning])]
  cases hupdate with
  | marks e b => exact of_cache hnode (fun _ hc => hc.modify e fun _ h => h) h
  | changes e f => exact of_cache hnode (fun _ hc => hc.modify e fun x h => by simp [h, EntryState.changed]) h
  | touches e => exact of_cache hnode (fun _ hc => hc.touch e) h
  | asksFill n _ hrunning => exact of_cache hnode (fun hp => absurd hp (running hrunning)) h
  | withdraws n => exact of_cache hnode (fun _ hc => hc.withdrawFill n) h
  | fills e d hfilling => exact of_cache hnode (fun _ hc => by simp [hc.1 e] at hfilling) h
  | invalidates e => exact of_cache hnode (fun _ hc => hc.invalidate e) h
  | castsOut e hdirty => exact of_cache hnode (fun _ hc => by simp [hc.1 e] at hdirty) h
  | beginsWrite e hdirty => exact of_cache hnode (fun _ hc => by simp [hc.1 e] at hdirty) h
  | settles e => exact of_cache hnode (fun _ hc => hc.modify e fun x h => by simp [h, EntryState.written]) h
  | owes b hentry => exact of_cache hnode (fun _ hc => absurd (hc.1 _) hentry) h
  | presents b rest x hdue _ =>
    exact of_kept hnode rfl (fun _ he => he) (fun _ _ hq => hq) (fun _ hc => by simp [hc.2.2] at hdue) h
  | fails e reason subCode hstate =>
    exact of_kept hnode rfl (fun _ he => he) (fun _ _ hq => hq) (fun _ hc => absurd (hc.1 e) hstate) h
  | evictsFor e n _ hdirty => exact of_cache hnode (fun _ hc => by simp [hc.1 e] at hdirty) h
  | beginsFill e n hnext _ => exact of_cache hnode (fun _ hc => by simp [hc.nextFill] at hnext) h
  | goesOn e n hstate _ => exact of_cache hnode (fun _ hc => by simp [hc.1 e] at hstate) h
  | grants => exact of_frame hnode (by simp) (by simp) (by simp) (by simp) h
  | asksFetch => exact of_frame hnode (by simp) (by simp) (by simp) (by simp) h
  | works w hw =>
    obtain ⟨hlaw, he, hq, hc, -⟩ := h
    obtain ⟨hr, hcompletions, hevents⟩ := Work.kind_past hw
    exact of_emptied hnode (CommandUnit.Law.congr (c := s.cmd) rfl rfl hw hlaw) (fun h => he (.inl (hr ▸ h)))
      (fun h => hq (.inl (hcompletions ▸ h))) fun h => hc (.inl (hevents ▸ h))
  | serves o hidle _ => exact of_kept hnode rfl (fun _ he => hidle he) (fun _ _ hq => hq) (fun _ hc => hc) h
  | takes r m _ hrunning _ =>
    exact of_kept hnode rfl (fun hp => absurd hp (running hrunning)) (fun _ _ hq => hq) (fun _ hc => hc) h
  | enters o c hserved _ _ =>
    exact of_kept hnode rfl (fun _ he => absurd he hserved) (fun _ he => absurd he hserved) (fun _ hc => hc) h
  | retires q step hlength =>
    refine of_kept hnode rfl (fun _ he => he) (fun _ _ hq => ?_) (fun _ hc => hc) h
    rw [hq] at hlength
    exact List.length_eq_zero_iff.1 (Nat.le_zero.1 hlength)
  | _ => exact of_frame hnode rfl rfl rfl rfl h

theorem leads (hleads : s.Leads t) (hnode : s.cmd.node ≠ .halted) (h : s.QuietLaw) : t.QuietLaw :=
  (hleads.keeps (P := fun u => u.cmd.node ≠ .halted ∧ u.QuietLaw)
    (fun _ _ hu hs => ⟨(State.Continues.update hu).node ▸ hs.1, update hu hs.1 hs.2⟩) ⟨hnode, h⟩).2

theorem endEviction (r : WriteEnd) (hnode : s.cmd.node ≠ .halted) (h : s.QuietLaw) : (s.endEviction r).QuietLaw :=
  (State.endEviction_keeps (P := fun u => u.cmd.node ≠ .halted ∧ u.QuietLaw)
    (fun _ _ hu hs => ⟨(State.Continues.update hu).node ▸ hs.1, update hu hs.1 hs.2⟩) (fun _ _ _ _ hs => hs) r
    ⟨hnode, h⟩).2

theorem endEntry (r : WriteEnd) (hnode : s.cmd.node ≠ .halted) (h : s.QuietLaw) : (s.endEntry r).QuietLaw :=
  of_frame hnode (by simp) (by simp) (by simp) (by simp) h

/-! ### HALTED -/

/-- In HALTED the engine is IDLE, the queues and the cache empty, the port at rest, and the receiver IDLE. -/
theorem at_rest (hnode : s.cmd.node = .halted) (h : s.QuietLaw) :
    s.cmd.work = .none ∧ s.engine = none ∧ s.retire.queue = [] ∧ s.cache.Empty ∧ s.writer.queue = [] ∧
      s.writer.writing = none ∧ s.port = .reset ∧ s.link.rx = .idle := by
  obtain ⟨hlaw, he, hq, hc, hrest⟩ := h
  obtain ⟨hwriter, hport, hrx⟩ := hrest hnode
  simp only [Writer.quiet, Bool.and_eq_true, List.isEmpty_iff, Option.isNone_iff_eq_none] at hwriter
  simp only [Port.quiet, Bool.and_eq_true, Option.isNone_iff_eq_none] at hport
  obtain ⟨⟨⟨⟨⟨hfetch, hcache⟩, hstore⟩, hretire⟩, hw⟩, hflight⟩ := hport
  refine ⟨hlaw.2.1 hnode, he (.inr hnode), hq (.inr hnode), hc (.inr hnode), hwriter.1, hwriter.2, ?_, hrx⟩
  cases hp : s.port
  simp_all [Port.reset]

theorem writerLook_of_empty (hqueue : s.writer.queue = []) : s.writerLook = s := by
  simp only [State.writerLook, hqueue]

end State.QuietLaw

/-- In HALTED the part's own commands, the line's symbols aside, change nothing. -/
theorem body_inner_of_halted {c : Instr} {s : State} (hinner : c.isInner = true) (hpasses : c.Passes s)
    (hnode : s.cmd.node = .halted) (h : s.QuietLaw) : c.body s = s := by
  obtain ⟨-, hengine, hqueue, hcache, -, -, hport, hrx⟩ := h.at_rest hnode
  have hflight : s.port.inFlight = none := by rw [hport]; rfl
  cases hsymbol : c.isSymbol with
  | true => exact absurd hnode (hpasses.2 hsymbol)
  | false =>
    cases c with
    | replyReady => simp only [Instr.body, State.declareReady, hengine]
    | earliestStart => simp only [Instr.body, State.reachEarliest, hrx]
    | replyStart => simp only [Instr.body, State.startReply, hrx]
    | commitExpiry => simp only [Instr.body, State.expire, hrx]
    | transmitByteDue => simp only [Instr.body, State.transmitDue, hrx]
    | replyEnd => simp only [Instr.body, State.endReply, hrx]
    | recoveryEnd => simp only [Instr.body, State.endRecovery, hrx]
    | broadcastCommit => simp only [Instr.body, State.commitBroadcast, hengine]
    | cycleOffsetTick => simp only [Instr.body, State.tickOffset, hnode, if_true]
    | fillTakesEntry => simp only [Instr.body, State.takeFill, hcache.nextFill]
    | burstGrant => simp [Instr.body, State.grant, hport, Port.reset]
    | linefillEnd r => simp only [Instr.body, State.endLinefill, hflight]
    | invalidationCastoutEnd r => simp only [Instr.body, State.endInvalidation, hflight]
    | writeEnd r => simp only [Instr.body, State.endWrite, hflight]
    | storeBurstEnd r => simp only [Instr.body, State.endStore, hflight]
    | fetchBurstEnd r => simp only [Instr.body, State.endFetch, hflight]
    | retireRecordStep => simp only [Instr.body, State.beginRecord, hqueue]
    | recordWordEnd r => simp only [Instr.body, State.endRecordWord, hflight]
    | _ => first | exact Bool.noConfusion hinner | exact Bool.noConfusion hsymbol

/-- With no command in progress the steps of the long commands change nothing. -/
theorem body_long_of_none {c : Instr} {s : State} (hlong : c.isLong = true) (hwork : s.cmd.work = .none) :
    c.body s = s := by
  cases c with
  | holdEnd => simp only [Instr.body, State.holdStep, hwork]
  | flushMember => simp only [Instr.body, State.flushStep, hwork]
  | purgeMember => simp only [Instr.body, State.purgeStep, hwork]
  | stopDrainCompletions => simp only [Instr.body, State.stopDrain, hwork]
  | stopCacheStep => simp only [Instr.body, State.stopCache, hwork]
  | stopEventStep => simp only [Instr.body, State.stopEvents, hwork]
  | stopEnd => simp only [Instr.body, State.stopFinish, hwork]
  | _ => exact Bool.noConfusion hlong

/-- What HALTED keeps at rest is in `t` as in `s`. -/
structure State.SameRest (s t : State) : Prop where
  node : t.cmd.node = s.cmd.node
  engine : t.engine = s.engine
  retire : t.retire = s.retire
  cache : t.cache = s.cache
  queue : t.writer.queue = s.writer.queue
  writing : t.writer.writing = s.writer.writing
  port : t.port = s.port
  rx : t.link.rx = s.link.rx

namespace State.QuietLaw

variable {s t : State}

theorem sameRest (hrest : s.SameRest t) (hlaw : t.cmd.Law) (hnode : s.cmd.node ≠ .stopping) (h : s.QuietLaw) :
    t.QuietLaw := by
  cases hn : s.cmd.node with
  | stopping => exact absurd hn hnode
  | running => exact of_running hlaw (hrest.node.trans hn)
  | halted =>
    obtain ⟨-, he, hq, hc, hw⟩ := h
    obtain ⟨hwriter, hport, hrx⟩ := hw hn
    refine of_halted hlaw (hrest.engine.trans (he (.inr hn))) (by rw [hrest.retire]; exact hq (.inr hn))
      (by rw [hrest.cache]; exact hc (.inr hn)) ?_ (by rw [hrest.port]; exact hport) (hrest.rx.trans hrx)
    rw [Writer.quiet, hrest.queue, hrest.writing]
    exact hwriter

theorem refill_of_halted (hnode : s.cmd.node ≠ .running) (n : Channel) : s.refill n = s := if_neg hnode

/-- A command that ends with nothing changed of what rests, and the node not STOPPING. -/
theorem ends (r : CmdResult) (hrest : s.SameRest t) (hnode : s.cmd.node ≠ .stopping) (h : s.QuietLaw) :
    (t.endCommand r).QuietLaw := by
  refine sameRest (s := s) (t := t.endCommand r) ⟨hrest.node, hrest.engine, hrest.retire, hrest.cache, hrest.queue,
    hrest.writing, hrest.port, hrest.rx⟩ (.of_ended ?_ rfl) hnode h
  simpa [hrest.node] using hnode

/-- A command that ends in a node that is RUNNING. -/
theorem ends_running (r : CmdResult) (hnode : s.cmd.node = .running) : (s.endCommand r).QuietLaw :=
  of_running (.of_ended (by simp [hnode]) rfl) hnode

theorem refills {r : CmdResult} {n : Channel} (hrest : s.SameRest t) (hnode : s.cmd.node ≠ .stopping)
    (h : s.QuietLaw) : ((t.refill n).endCommand r).QuietLaw := by
  by_cases hrunning : s.cmd.node = .running
  · exact ends_running r (by simpa using hrest.node.trans hrunning)
  · rw [refill_of_halted (hrest.node.symm ▸ hrunning)]
    exact ends r hrest hnode h

theorem obeys (hobeys : s.Obeys t) (hbusy : s.cmd.busy = true) (hnode : s.cmd.node ≠ .stopping) (h : s.QuietLaw) :
    t.QuietLaw := by
  have hlaw := CommandUnit.Law.obeys hobeys hbusy hnode
  cases hobeys with
  | ends r => exact ends r ⟨rfl, rfl, rfl, rfl, rfl, rfl, rfl, rfl⟩ hnode h
  | starts _ _ => exact of_running hlaw (by simp [State.startNode])
  | stops _ _ =>
    exact of_emptied (by simp) hlaw (by simp [Work.pastRequest]) (by simp [Work.pastCompletions])
      (by simp [Work.stopsEvents])
  | waits n _ hrunning => exact of_running hlaw hrunning
  | holds n _ => exact ends .done (t := s.setRecord n _) ⟨rfl, rfl, rfl, rfl, rfl, rfl, rfl, rfl⟩ hnode h
  | frees n _ => exact ends .done (t := s.setRecord n _) ⟨rfl, rfl, rfl, rfl, rfl, rfl, rfl, rfl⟩ hnode h
  | freesPinned n _ => exact refills (t := s.setRecord n _) ⟨rfl, rfl, rfl, rfl, rfl, rfl, rfl, rfl⟩ hnode h
  | flags n f _ _ => exact ends .done (t := s.setRecord n f) ⟨rfl, rfl, rfl, rfl, rfl, rfl, rfl, rfl⟩ hnode h
  | pins n _ => exact ends .done (t := s.setRecord n _) ⟨rfl, rfl, rfl, rfl, rfl, rfl, rfl, rfl⟩ hnode h
  | pinsFree n _ _ => exact refills (t := s.setRecord n _) ⟨rfl, rfl, rfl, rfl, rfl, rfl, rfl, rfl⟩ hnode h
  | flushes j f hrunning => exact of_running hlaw hrunning
  | purges j k f hrunning => exact of_running hlaw hrunning
  | resumes =>
    by_cases hrunning : s.cmd.node = .running
    · exact ends_running .done (by simpa using hrunning)
    · have hhalted : s.cmd.node = .halted := by
        cases hn : s.cmd.node with
        | halted => rfl
        | running => exact absurd hn hrunning
        | stopping => exact absurd hn hnode
      obtain ⟨-, -, -, -, hqueue, -⟩ := h.at_rest hhalted
      rw [writerLook_of_empty (by exact hqueue)]
      exact ends .done (t := { s with writer := { s.writer with active := true } })
        ⟨rfl, rfl, rfl, rfl, rfl, rfl, rfl, rfl⟩ hnode h

theorem commanded {code : Byte} (hcommand : s.Commanded code t) (h : s.QuietLaw) : t.QuietLaw := by
  cases hcommand with
  | busy _ => exact h
  | taken operand hbusy hobeys =>
    obtain ⟨hnone, hnode⟩ := h.1.of_not_busy hbusy
    have htaken : (s.taken code operand).QuietLaw :=
      sameRest (s := s) (t := s.taken code operand) ⟨rfl, rfl, rfl, rfl, rfl, rfl, rfl, rfl⟩ (.of_ended hnode hnone) hnode h
    exact obeys hobeys rfl hnode htaken

/-- The writer's look, which does nothing in HALTED. -/
theorem looks (hnode : s.cmd.node ≠ .halted) (h : s.QuietLaw) : s.writerLook.QuietLaw :=
  of_frame hnode (by simp) (by simp) (by simp) (by simp) h

theorem written (hwritten : s.Written t) (h : s.QuietLaw) : t.QuietLaw := by
  cases hwritten with
  | consumes q =>
    by_cases hnode : s.cmd.node = .halted
    · obtain ⟨-, -, -, -, hqueue, -⟩ := h.at_rest hnode
      rw [writerLook_of_empty (by exact hqueue)]
      exact h
    · exact of_frame hnode (by simp) (by simp) (by simp) (by simp) h
  | looks =>
    by_cases hnode : s.cmd.node = .halted
    · obtain ⟨-, -, -, -, hqueue, -⟩ := h.at_rest hnode
      rw [writerLook_of_empty hqueue]
      exact h
    · exact h.looks hnode
  | _ => exact h

theorem advances {last : Prop} (hadvances : s.Advances last t) (hnode : s.cmd.node ≠ .halted) (h : s.QuietLaw) :
    t.QuietLaw := by
  have hlaw := CommandUnit.Law.advances hadvances h.1
  cases hadvances with
  | leads hleads => exact h.leads hleads hnode
  | ends r hwork hleads =>
    obtain ⟨hne, hstop⟩ := Work.not_stop_of_isJob hwork
    exact ends_running r ((State.Continues.leads hleads).node.trans (h.1.running hne hstop))
  | @finishes u n hwork _ hu =>
    have hrunning := h.1.running (by simp [hwork]) (by simp [hwork])
    refine of_running hlaw ?_
    have hcmd : u.cmd = s.cmd := by obtain ⟨-, rfl⟩ | ⟨e, -, -, rfl⟩ := hu <;> rfl
    unfold State.finishHold
    split
    all_goals simpa [hcmd] using hrunning
  | @goesOn u a b f g hwork hleads hengine hqueue hcache =>
    obtain ⟨-, he, hq, hc, -⟩ := h.leads hleads hnode
    have hcontinues := State.Continues.leads hleads
    obtain ⟨hr, hcompletions, hevents⟩ := Work.kind_past hcontinues.work
    rw [hwork] at hr hcompletions hevents
    exact of_emptied (by simpa [hcontinues.node] using hnode) hlaw
      (fun h => (hengine h).elim (fun hp => he (.inl (hr.trans hp))) id)
      (fun h => (hqueue h).elim (fun hp => hq (.inl (hcompletions.trans hp))) id)
      fun h => (hcache h).elim (fun hp => hc (.inl (hevents.trans hp))) id
  | looks => exact h.looks hnode
  | looksLast f hwork =>
    obtain ⟨-, he, hq, hc, -⟩ := h
    exact of_emptied (by simpa using hnode) hlaw (fun _ => by simpa using he (.inl (by rw [hwork]; rfl)))
      (fun _ => by simpa using hq (.inl (by rw [hwork]; rfl))) fun _ => by simpa using hc (.inl (by rw [hwork]; rfl))
  | halts f _ hwork hwriter hport =>
    obtain ⟨-, he, hq, hc, -⟩ := h
    exact of_halted hlaw (he (.inl (by rw [hwork]; rfl))) (hq (.inl (by rw [hwork]; rfl)))
      (hc (.inl (by rw [hwork]; rfl))) hwriter hport rfl

theorem afterReset (s : State) (b : Bool) : (s.afterReset b).QuietLaw := by
  refine of_halted (.of_ended (by simp [CommandUnit.reset]) rfl) rfl rfl ⟨fun e => ?_, rfl, rfl⟩ rfl rfl rfl
  simp [Entry.reset]

end State.QuietLaw

theorem body_quietLaw {c : Instr} {s : State} (hpasses : c.Passes s) (h : s.QuietLaw) : (c.body s).QuietLaw := by
  have keeps (hhalted : s.cmd.node = .halted → c.body s = s) (hother : s.cmd.node ≠ .halted → (c.body s).QuietLaw) :
      (c.body s).QuietLaw := by
    by_cases hnode : s.cmd.node = .halted
    · exact (hhalted hnode).symm ▸ h
    · exact hother hnode
  have flight (hnode : s.cmd.node = .halted) : s.port.inFlight = none := by
    obtain ⟨-, -, -, -, -, -, hport, -⟩ := h.at_rest hnode
    rw [hport]
    rfl
  obtain ⟨b, hreset, -⟩ | hsame | ⟨-, hcommand⟩ | hwritten | ⟨hinner, hleads⟩ | ⟨hlong, hadvances⟩ | ⟨r, rfl⟩ | ⟨r, rfl⟩ :=
    body_cases c s
  · exact hreset.symm ▸ State.QuietLaw.afterReset s b
  · exact hsame.symm ▸ h
  · exact State.QuietLaw.commanded hcommand h
  · exact State.QuietLaw.written hwritten h
  · exact keeps (fun hnode => body_inner_of_halted hinner hpasses hnode h) fun hnode => h.leads hleads hnode
  · exact keeps (fun hnode => body_long_of_none hlong (h.at_rest hnode).1) fun hnode => h.advances hadvances hnode
  · refine keeps (fun hnode => ?_) fun hnode => h.endEviction r hnode
    simp only [Instr.body, State.endEviction, flight hnode]
  · refine keeps (fun hnode => ?_) fun hnode => h.endEntry r hnode
    simp only [Instr.body, State.endEntry, flight hnode]

/-- In HALTED no burst is in flight, so no command changes host memory (R139). -/
theorem body_memory_of_halted {c : Instr} {s : State} (hnode : s.cmd.node = .halted) (h : s.QuietLaw) :
    (c.body s).mem = s.mem := by
  obtain ⟨-, -, -, -, -, -, hport, -⟩ := h.at_rest hnode
  have hflight : s.port.inFlight = none := by rw [hport]; rfl
  have hafter := body_memory c s
  generalize (c.body s).mem = m at hafter
  cases hafter with
  | kept => rfl
  | written r hb => simp [hflight] at hb
  | hostWrote ws hb => simp [hflight] at hb

/-- Settles O58: what STOP's steps have emptied no update fills again, and in HALTED no command but the host's does
anything. -/
theorem quietLawKept : Obligations.QuietLawKept := by
  unfold Obligations.QuietLawKept
  intro s t h hstep
  refine ⟨step_keeps (fun _ _ h => h) (fun _ _ => body_quietLaw) s t h hstep, fun hnode _ => ?_⟩
  obtain ⟨q, rfl | ⟨c, -, rfl⟩⟩ := step_eq_body hstep
  · rfl
  · exact body_memory_of_halted (s := s.withPending q) hnode h

/-! ### The node state -/

theorem Instr.eq_start {c : Instr} (hcommand : c.isCommand = true) (hwf : c.wellFormed = true) (hcode : c.code = 1) :
    ∃ op, c = .start op := by
  cases c with
  | start op => exact ⟨op, rfl⟩
  | badCommand code op =>
    have hone : code = 1 := hcode
    subst hone
    exact absurd hwf (by simp [Instr.wellFormed])
  | _ => first | exact Bool.noConfusion hcommand | exact absurd hcode (by simp [Instr.code])

theorem Instr.eq_stop {c : Instr} (hcommand : c.isCommand = true) (hwf : c.wellFormed = true) (hcode : c.code = 2) :
    ∃ op, c = .stop op := by
  cases c with
  | stop op => exact ⟨op, rfl⟩
  | badCommand code op =>
    have htwo : code = 2 := hcode
    subst htwo
    exact absurd hwf (by simp [Instr.wellFormed])
  | _ => first | exact Bool.noConfusion hcommand | exact absurd hcode (by simp [Instr.code])

/-- Of what a command can come to, START's success and STOP's taking alone change the node state. -/
theorem State.Obeys.node {s t : State} (h : s.Obeys t) :
    t.cmd.node = s.cmd.node ∨
    (s.cmd.code = 1 ∧ s.cmd.node = .halted ∧ t.cmd.node = .running ∧ t.cmd.result = .done) ∨
    (s.cmd.code = 2 ∧ s.cmd.node = .running ∧ t.cmd.node = .stopping) := by
  cases h with
  | starts hcode hnode => exact .inr (.inl ⟨hcode, hnode, by simp [State.startNode], rfl⟩)
  | stops hcode hnode => exact .inr (.inr ⟨hcode, hnode, rfl⟩)
  | freesPinned n _ => exact .inl (by simp)
  | pinsFree n _ _ => exact .inl (by simp)
  | resumes => exact .inl (by simp)
  | _ => exact .inl rfl

/-- Of the steps of the long commands STOP's last alone changes the node state. -/
theorem State.Advances.node {s t : State} {last : Prop} (h : s.Advances last t) :
    t.cmd.node = s.cmd.node ∨ (last ∧ (∃ f, s.cmd.work = .stop .halting f) ∧ t.cmd.node = .halted) := by
  cases h with
  | leads h => exact .inl (State.Continues.leads h).node
  | ends r _ h => exact .inl (State.Continues.leads h).node
  | @finishes u n _ _ hu =>
    refine .inl ?_
    have hcmd : u.cmd = s.cmd := by obtain ⟨-, rfl⟩ | ⟨e, -, -, rfl⟩ := hu <;> rfl
    unfold State.finishHold
    split
    all_goals simp [hcmd]
  | goesOn a b f g _ h => exact .inl (State.Continues.leads h).node
  | looks => exact .inl (by simp)
  | looksLast f _ => exact .inl (by simp)
  | halts f hlast hwork => exact .inr ⟨hlast, ⟨f, hwork⟩, rfl⟩

/-- The four events that change the node state (R163). -/
theorem body_node {c : Instr} {s : State} (hwf : c.wellFormed = true) (hlaw : s.cmd.Law)
    (hchanges : (c.body s).cmd.node ≠ s.cmd.node) :
    ((c.body s).cmd.node = .halted ∧
      (c = .resetAssert ∨ c = .resetRelease ∨ ∃ v : Word, c = .softReset v ∧ v.getLsbD 0 = true)) ∨
    (s.cmd.node = .halted ∧ (c.body s).cmd.node = .running ∧ (c.body s).cmd.result = .done ∧ ∃ op, c = .start op) ∨
    (s.cmd.node = .running ∧ (c.body s).cmd.node = .stopping ∧ ∃ op, c = .stop op) ∨
    (s.cmd.node = .stopping ∧ (c.body s).cmd.node = .halted ∧ c = .stopEnd) := by
  have continues (h : s.Continues (c.body s)) : False := hchanges h.node
  obtain ⟨b, hreset, hc⟩ | hsame | ⟨hcommand, hobeys⟩ | hwritten | ⟨-, hleads⟩ | ⟨-, hadvances⟩ | ⟨r, rfl⟩ | ⟨r, rfl⟩ :=
    body_cases c s
  · exact .inl ⟨by rw [hreset]; rfl, hc⟩
  · exact absurd (by rw [hsame]) hchanges
  · generalize ht : c.body s = t at *
    cases hobeys with
    | busy _ => exact absurd rfl hchanges
    | taken operand _ hobeys =>
      obtain hsame | ⟨hcode, hnode, hrunning, hdone⟩ | ⟨hcode, hnode, hstopping⟩ := hobeys.node
      · exact absurd hsame hchanges
      · exact .inr (.inl ⟨hnode, hrunning, hdone, Instr.eq_start hcommand hwf hcode⟩)
      · exact .inr (.inr (.inl ⟨hnode, hstopping, Instr.eq_stop hcommand hwf hcode⟩))
  · exact (continues (.written hwritten)).elim
  · exact (continues (.leads hleads)).elim
  · obtain hsame | ⟨hlast, ⟨f, hwork⟩, hhalted⟩ := hadvances.node
    · exact absurd hsame hchanges
    · exact .inr (.inr (.inr ⟨(hlaw.stopping hwork).1, hhalted, hlast⟩))
  · exact (continues (.endEviction s r)).elim
  · exact (continues (.endEntry s r)).elim

/-- A busy unit takes no command (R164). -/
theorem State.takeCommand_of_busy {s : State} (hbusy : s.cmd.busy = true) (code operand : Byte) (body : State → State) :
    s.takeCommand code operand body = s.setSticky stickyRefusedBusy := if_pos hbusy

/-- Settles O60: by what each kind of command comes to. -/
theorem nodeStateChangesAtFourEvents : Obligations.NodeStateChangesAtFourEvents := by
  unfold Obligations.NodeStateChangesAtFourEvents
  refine ⟨fun c s t hlaw hwf hexec hchanges => ?_, fun s v hlive hv => ⟨?_, ?_⟩,
    step_keeps (P := fun s => s.cmd.Law) (fun _ _ h => h) (fun _ _ _ => body_commandLaw), fun s op hlaw hnode hlive => ?_⟩
  · obtain hsame | ⟨hbody, -⟩ := exec_cases c s hwf
    · cases hsame.symm.trans hexec
      exact absurd rfl hchanges
    · cases hbody.symm.trans hexec
      exact body_node hwf hlaw hchanges
  · exact ⟨_, exec_resetAssert_eq hlive, rfl⟩
  · exact ⟨_, exec_softReset_of_set hlive hv, rfl⟩
  · obtain ⟨a, f, hwork⟩ := hlaw.2.2.1 hnode
    have hbusy := (hlaw.stopping hwork).2
    refine ⟨hbusy, fun c hc => ?_⟩
    have refused {d : Instr} {f : State → State} {code : Byte} {body : State → State}
        (hexec : exec d s = .next (s.live f)) (hf : f s = s.takeCommand code op body) :
        exec d s = .next { s with host := { s.host with sticky := s.host.sticky ||| 2#2 } } := by
      rw [hexec, State.live_of_not_reset hlive, hf, State.takeCommand_of_busy hbusy]
      rfl
    simp only [List.mem_cons, List.not_mem_nil, or_false] at hc
    obtain rfl | rfl | rfl | rfl | rfl | rfl | rfl | rfl | rfl | rfl := hc
    all_goals exact refused rfl rfl

end Sys2Proof.Machine


/-! PROOFS. Residency (R86, R89): which entries and fills channels have, and that a HELD or FAULTED channel has none. -/

namespace Sys2Proof.Machine

/-! ### Residency of a cache under given hold states -/

theorem Cache.fillPending_iff (c : Cache) (n : Channel) : c.fillPending n = true ↔
    n ∈ c.fills ∨ ∃ e, (c.entry e).state = .evicting ∧ (c.entry e).next = some n := by
  simp [Cache.fillPending, mem_entryOrder]

theorem Cache.not_fillPending_iff (c : Cache) (n : Channel) : c.fillPending n = false ↔
    n ∉ c.fills ∧ ∀ e, (c.entry e).state = .evicting → (c.entry e).next ≠ some n := by
  rw [← Bool.not_eq_true, Cache.fillPending_iff]
  push Not
  rfl

/-- The residency of channels, and that none of those `hold` shows HELD or FAULTED has an entry or a fill. -/
structure Cache.Resident (c : Cache) (hold : Channel → HoldState) : Prop where
  /-- One entry for each channel. -/
  unique : ∀ e f, (c.entry e).state ≠ .invalid → (c.entry f).state ≠ .invalid → (c.entry e).tag = (c.entry f).tag → e = f
  nodup : c.fills.Nodup
  /-- A fill in the list is for a channel with no entry but one that is being cast out. -/
  waits : ∀ n ∈ c.fills, ∀ e, (c.entry e).tag = n → (c.entry e).state = .invalid ∨ (c.entry e).state = .evicting
  /-- A fill that waits for its victim's castout is for a channel with no entry. -/
  absent : ∀ e n, (c.entry e).state = .evicting → (c.entry e).next = some n → c.Absent n
  /-- Such a fill is in the list no more. -/
  left : ∀ e n, (c.entry e).state = .evicting → (c.entry e).next = some n → n ∉ c.fills
  /-- Such a fill waits for one castout. -/
  once : ∀ e f n, (c.entry e).state = .evicting → (c.entry e).next = some n → (c.entry f).state = .evicting →
    (c.entry f).next = some n → f = e
  owned : ∀ n, hold n = .held ∨ hold n = .faulted → c.Absent n
  unasked : ∀ n, hold n = .held ∨ hold n = .faulted → n ∉ c.fills
  unfilled : ∀ n e, hold n = .held ∨ hold n = .faulted → (c.entry e).state = .evicting → (c.entry e).next ≠ some n

theorem State.resident_iff (s : State) :
    s.cache.ResidencyLaw ∧ s.OwnershipLaw ↔ s.cache.Resident fun n => (s.record n).hold := by
  constructor
  · rintro ⟨⟨hunique, hnodup, hwaits, hnext⟩, howned⟩
    have owned (n : Channel) (h : (s.record n).hold = .held ∨ (s.record n).hold = .faulted) :=
      (Cache.not_fillPending_iff _ _).1 (howned n h).2
    exact ⟨hunique, hnodup, hwaits, fun e n he hn => (hnext e he n hn).1, fun e n he hn => (hnext e he n hn).2.1,
      fun e f n he hn hf hfn => (hnext e he n hn).2.2 f hf hfn, fun n h => (howned n h).1, fun n h => (owned n h).1,
      fun n e h => (owned n h).2 e⟩
  · intro h
    exact ⟨⟨h.unique, h.nodup, h.waits, fun e he n hn => ⟨h.absent e n he hn, h.left e n he hn,
      fun f hf hfn => h.once e f n he hn hf hfn⟩⟩,
      fun n hn => ⟨h.owned n hn, (Cache.not_fillPending_iff _ _).2 ⟨h.unasked n hn, fun e => h.unfilled n e hn⟩⟩⟩

namespace Cache.Resident

variable {c d : Cache} {hold hold' : Channel → HoldState}

/-- Fewer fills, fewer entries that are not INVALID, and no other castouts for fills. -/
theorem shrinks (h : c.Resident hold) (htag : ∀ e, (d.entry e).state ≠ .invalid →
      (d.entry e).tag = (c.entry e).tag ∧ (c.entry e).state ≠ .invalid ∧
      ((c.entry e).state = .evicting → (d.entry e).state = .evicting))
    (hevicting : ∀ e, (d.entry e).state = .evicting → (d.entry e).next = none ∨
      ((c.entry e).state = .evicting ∧ (d.entry e).next = (c.entry e).next))
    (hfills : d.fills.Sublist c.fills) : d.Resident hold := by
  have absent {n : Channel} (hn : c.Absent n) : d.Absent n := fun e he => by
    by_contra hne
    obtain ⟨htag, hin, -⟩ := htag e hne
    exact hin (hn e (htag ▸ he))
  have castout {e : EntryIx} {n : Channel} (he : (d.entry e).state = .evicting) (hn : (d.entry e).next = some n) :
      (c.entry e).state = .evicting ∧ (c.entry e).next = some n := by
    obtain hnone | ⟨hstate, hnext⟩ := hevicting e he
    · simp [hnone] at hn
    · exact ⟨hstate, hnext ▸ hn⟩
  refine ⟨fun e f he hf hef => ?_, h.nodup.sublist hfills, fun n hn e he => ?_, fun e n he hn => ?_, fun e n he hn => ?_,
    fun e f n he hn hf hfn => ?_, fun n hn => absent (h.owned n hn), fun n hn hin => h.unasked n hn (hfills.subset hin),
    fun n e hn he hnext => ?_⟩
  · obtain ⟨htage, hine, -⟩ := htag e he
    obtain ⟨htagf, hinf, -⟩ := htag f hf
    exact h.unique e f hine hinf (by rw [← htage, ← htagf, hef])
  · by_cases hstate : (d.entry e).state = .invalid
    · exact .inl hstate
    · obtain ⟨htage, hine, hevict⟩ := htag e hstate
      exact .inr (hevict ((h.waits n (hfills.subset hn) e (htage ▸ he)).resolve_left hine))
  · obtain ⟨hstate, hnext⟩ := castout he hn
    exact absent (h.absent e n hstate hnext)
  · obtain ⟨hstate, hnext⟩ := castout he hn
    exact fun hin => h.left e n hstate hnext (hfills.subset hin)
  · obtain ⟨hstate, hnext⟩ := castout he hn
    obtain ⟨hstatef, hnextf⟩ := castout hf hfn
    exact h.once e f n hstate hnext hstatef hnextf
  · obtain ⟨hstate, hnext⟩ := castout he hnext
    exact h.unfilled n e hn hstate hnext

/-- Hold states that show no channel more as HELD or FAULTED. -/
theorem holds (h : c.Resident hold)
    (hless : ∀ n, hold' n = .held ∨ hold' n = .faulted → hold n = .held ∨ hold n = .faulted) : c.Resident hold' :=
  ⟨h.unique, h.nodup, h.waits, h.absent, h.left, h.once, fun n hn => h.owned n (hless n hn),
    fun n hn => h.unasked n (hless n hn), fun n e hn => h.unfilled n e (hless n hn)⟩

/-- A channel with neither entry nor fill may come to be HELD or FAULTED. -/
theorem takes (h : c.Resident hold) {n : Channel} (habsent : c.Absent n) (hpending : c.fillPending n = false)
    (hless : ∀ m, m ≠ n → hold' m = .held ∨ hold' m = .faulted → hold m = .held ∨ hold m = .faulted) :
    c.Resident hold' := by
  obtain ⟨hfills, hevicting⟩ := (Cache.not_fillPending_iff c n).1 hpending
  refine ⟨h.unique, h.nodup, h.waits, h.absent, h.left, h.once, fun m hm => ?_, fun m hm => ?_, fun m e hm => ?_⟩
  all_goals by_cases hmn : m = n
  · exact hmn ▸ habsent
  · exact h.owned m (hless m hmn hm)
  · exact hmn ▸ hfills
  · exact h.unasked m (hless m hmn hm)
  · exact hmn ▸ hevicting e
  · exact h.unfilled m e (hless m hmn hm)

/-- A change of an entry that leaves its tag, whether it is INVALID, and its castout. -/
theorem modify (h : c.Resident hold) (e : EntryIx) {f : Entry → Entry}
    (hf : (f (c.entry e)).tag = (c.entry e).tag ∧ (f (c.entry e)).next = (c.entry e).next ∧
      ((f (c.entry e)).state = .evicting ↔ (c.entry e).state = .evicting) ∧
      ((c.entry e).state = .invalid → (f (c.entry e)).state = .invalid)) : (c.modify e f).Resident hold := by
  obtain ⟨htag, hnext, hevicting, hinvalid⟩ := hf
  refine h.shrinks (fun g hg => ?_) (fun g hg => ?_) (List.Sublist.refl _)
  all_goals
    rw [Cache.entry_modify] at hg ⊢
    split at hg
    next heq => subst heq; simp_all; try tauto
    next => simp_all

theorem touch (h : c.Resident hold) (e : EntryIx) : (c.touch e).Resident hold :=
  h.shrinks (fun g hg => by simpa [Cache.entry_touch] using hg)
    (fun g hg => .inr (by simpa [Cache.entry_touch] using hg)) (List.Sublist.refl _)

theorem withdrawFill (h : c.Resident hold) (n : Channel) : (c.withdrawFill n).Resident hold :=
  h.shrinks (fun _ hg => ⟨rfl, hg, id⟩) (fun _ hg => .inr ⟨hg, rfl⟩) List.filter_sublist

theorem invalidate (h : c.Resident hold) (e : EntryIx) : (c.invalidate e).Resident hold := by
  refine h.shrinks (fun g hg => ?_) (fun g hg => ?_) (List.Sublist.refl _)
  all_goals
    rw [Cache.entry_invalidate] at hg ⊢
    split at hg
    · simp at hg
    · simp_all

theorem castsOut (h : c.Resident hold) {e : EntryIx} (hdirty : (c.entry e).state = .dirty) :
    (c.beginEvict e none).Resident hold := by
  refine h.shrinks (fun g hg => ?_) (fun g hg => ?_) (List.Sublist.refl _)
  all_goals
    rw [Cache.entry_beginEvict] at hg ⊢
    split at hg
    next heq => subst heq; simp_all
    next => simp_all

/-- Once the entry of a channel is INVALID the channel has none. -/
theorem absent_invalidate (h : c.Resident hold) {e : EntryIx} (hstate : (c.entry e).state ≠ .invalid) :
    (c.invalidate e).Absent (c.entry e).tag := by
  intro g hg
  rw [Cache.entry_invalidate] at hg ⊢
  by_cases hne : g = e
  · rw [if_pos hne]
  · rw [if_neg hne] at hg ⊢
    by_contra hg'
    exact hne (h.unique g e hg' hstate hg)

/-- No fill waits for a castout to fill a channel that has an entry. -/
theorem not_next (h : c.Resident hold) {e f : EntryIx} (hstate : (c.entry e).state ≠ .invalid)
    (hf : (c.entry f).state = .evicting) : (c.entry f).next ≠ some (c.entry e).tag :=
  fun hnext => hstate (h.absent f _ hf hnext e rfl)

theorem fails (h : c.Resident hold) {e : EntryIx} (hstate : (c.entry e).state ≠ .invalid)
    (hless : ∀ m, m ≠ (c.entry e).tag → hold' m = .held ∨ hold' m = .faulted → hold m = .held ∨ hold m = .faulted) :
    ((c.invalidate e).withdrawFill (c.entry e).tag).Resident hold' := by
  refine ((h.invalidate e).withdrawFill _).takes (n := (c.entry e).tag) (h.absent_invalidate hstate) ?_ hless
  refine (Cache.not_fillPending_iff _ _).2 ⟨by simp [Cache.withdrawFill], fun f hf => ?_⟩
  rw [Cache.entry_withdrawFill, Cache.entry_invalidate] at hf ⊢
  split at hf
  next => simp at hf
  next hne => rw [if_neg hne]; exact h.not_next hstate hf

/-- The channel of the fill that goes next is in the list and has no entry (R89). -/
theorem nextFill_absent (h : c.Resident hold) {n : Channel} (hnext : c.nextFill = some n) : n ∈ c.fills ∧ c.Absent n := by
  have hin : n ∈ c.fills := List.mem_of_find?_eq_some hnext
  have hfound := List.find?_some hnext
  refine ⟨hin, ?_⟩
  cases hfind : c.find n with
  | none => exact Cache.find_none.1 hfind
  | some e =>
    obtain ⟨htag, hstate⟩ := Cache.find_some hfind
    rw [hfind] at hfound
    exact absurd ((h.waits n hin e htag).resolve_left hstate) (by simpa using hfound)

theorem evictsFor (h : c.Resident hold) {e : EntryIx} {n : Channel} (hnext : c.nextFill = some n)
    (hdirty : (c.entry e).state = .dirty) : ((c.withdrawFill n).beginEvict e (some n)).Resident hold := by
  obtain ⟨hin, habsent⟩ := h.nextFill_absent hnext
  have hnodup : (c.withdrawFill n).fills.Nodup := h.nodup.filter _
  have hmem (m : Channel) : m ∈ (c.withdrawFill n).fills ↔ m ∈ c.fills ∧ m ≠ n := by simp [Cache.withdrawFill]
  obtain ⟨hunique, -, hwaits, habs, hleft, honce, howned, hunasked, hunfilled⟩ := h
  have hfills : ((c.withdrawFill n).beginEvict e (some n)).fills = (c.withdrawFill n).fills := rfl
  constructor
  all_goals
    simp only [Cache.entry_beginEvict, Cache.entry_withdrawFill, Cache.Absent, hfills, hmem] at *
  case nodup => exact hnodup
  all_goals grind

theorem beginsFill (h : c.Resident hold) (e : EntryIx) {n : Channel} (hnext : c.nextFill = some n) :
    ((c.withdrawFill n).beginFill e n).Resident hold := by
  obtain ⟨hin, habsent⟩ := h.nextFill_absent hnext
  have hnodup : (c.withdrawFill n).fills.Nodup := h.nodup.filter _
  have hmem (m : Channel) : m ∈ (c.withdrawFill n).fills ↔ m ∈ c.fills ∧ m ≠ n := by simp [Cache.withdrawFill]
  obtain ⟨hunique, -, hwaits, habs, hleft, honce, howned, hunasked, hunfilled⟩ := h
  have hfills : ((c.withdrawFill n).beginFill e n).fills = (c.withdrawFill n).fills := rfl
  constructor
  all_goals
    simp only [Cache.entry_beginFill, Cache.entry_withdrawFill, Cache.Absent, hfills, hmem] at *
  case nodup => exact hnodup
  all_goals grind

theorem goesOn (h : c.Resident hold) {e : EntryIx} {n : Channel} (hstate : (c.entry e).state = .evicting)
    (hnext : (c.entry e).next = some n) :
    (c.modify e fun x => { x with tag := n, state := .filling, next := none }).Resident hold := by
  obtain ⟨hunique, hnodup, hwaits, habs, hleft, honce, howned, hunasked, hunfilled⟩ := h
  have habsent := habs e n hstate hnext
  have hfills : (c.modify e fun x => { x with tag := n, state := .filling, next := none }).fills = c.fills := rfl
  constructor
  all_goals
    simp only [Cache.entry_modify, Cache.Absent, hfills] at *
  case nodup => exact hnodup
  all_goals grind

/-- As an entry that has been cast out goes on, its old channel has neither entry nor fill, unless one is in the list. -/
theorem goesOn_absent (h : c.Resident hold) {e : EntryIx} {n : Channel} (hstate : (c.entry e).state = .evicting)
    (hnext : (c.entry e).next = some n) (hnotin : (c.entry e).tag ∉ c.fills) :
    (c.modify e fun x => { x with tag := n, state := .filling, next := none }).Absent (c.entry e).tag ∧
    (c.modify e fun x => { x with tag := n, state := .filling, next := none }).fillPending (c.entry e).tag = false := by
  have hvalid : (c.entry e).state ≠ .invalid := by simp [hstate]
  have hne : n ≠ (c.entry e).tag := fun hn => h.not_next hvalid hstate (hn ▸ hnext)
  refine ⟨fun g hg => ?_, (Cache.not_fillPending_iff _ _).2 ⟨hnotin, fun g hg => ?_⟩⟩
  · rw [Cache.entry_modify] at hg ⊢
    by_cases hge : g = e
    · rw [if_pos hge] at hg
      exact absurd hg hne
    · rw [if_neg hge] at hg ⊢
      by_contra hg'
      exact hge (h.unique g e hg' hvalid hg)
  · rw [Cache.entry_modify] at hg ⊢
    by_cases hge : g = e
    · simp [hge] at hg
    · rw [if_neg hge] at hg ⊢
      exact h.not_next hvalid hg

theorem of_entries (h : c.Resident hold) (hentries : d.entries = c.entries) (hfills : d.fills = c.fills) :
    d.Resident hold := by
  have hentry (e : EntryIx) : d.entry e = c.entry e := Cache.entry_congr hentries e
  exact h.shrinks (fun e he => ⟨by rw [hentry], hentry e ▸ he, by rw [hentry]; exact id⟩)
    (fun e he => .inr ⟨hentry e ▸ he, by rw [hentry]⟩) (hfills ▸ .refl _)

theorem requestFill (h : c.Resident hold) {n : Channel} (hfree : hold n = .free) : (c.requestFill n).Resident hold := by
  unfold Cache.requestFill
  split
  · exact h
  next hpending =>
    obtain ⟨hnotin, hnot⟩ := (Cache.not_fillPending_iff c n).1 (by simpa using hpending)
    have asked (hentries : ∀ e, (c.entry e).tag = n → (c.entry e).state = .invalid ∨ (c.entry e).state = .evicting) :
        Cache.Resident { c with fills := c.fills ++ [n] } hold := by
      obtain ⟨hunique, hnodup, hwaits, habs, hleft, honce, howned, hunasked, hunfilled⟩ := h
      have hnodup' : (c.fills ++ [n]).Nodup := by
        rw [List.nodup_append]
        exact ⟨hnodup, by simp, fun a ha b hb => by grind⟩
      constructor
      case nodup => exact hnodup'
      all_goals
        simp only [Cache.entry_withFills, Cache.Absent, List.mem_append, List.mem_singleton] at *
        grind
    split
    next e hfind =>
      obtain ⟨htag, hstate⟩ := Cache.find_some hfind
      split
      next hevicting =>
        refine asked fun f hf => ?_
        by_cases hinvalid : (c.entry f).state = .invalid
        · exact .inl hinvalid
        · exact .inr (h.unique f e hinvalid hstate (hf.trans htag.symm) ▸ hevicting)
      next => exact h
    next hfind => exact asked fun e he => .inl (Cache.find_none.1 hfind e he)

theorem foldl_requestFill (l : List Channel) (hfree : ∀ n ∈ l, hold n = .free) (h : c.Resident hold) :
    (l.foldl Cache.requestFill c).Resident hold := by
  induction l generalizing c with
  | nil => exact h
  | cons n l ih =>
    exact ih (fun m hm => hfree m (List.mem_cons_of_mem n hm)) (h.requestFill (hfree n List.mem_cons_self))

/-- An empty cache has neither entries nor fills for any channel. -/
theorem of_empty (h : c.Empty) : c.Resident hold := by
  obtain ⟨hentries, hfills, -⟩ := h
  constructor
  all_goals simp [hentries, hfills, Cache.Absent]

end Cache.Resident

/-! ### Residency through the commands -/

/-- The residency of the cache under the channel table. -/
def State.Resident (s : State) : Prop := s.cache.Resident fun n => (s.record n).hold

namespace State.Resident

variable {s t : State}

theorem congr (hcache : t.cache = s.cache) (hstatus : t.status = s.status) (h : s.Resident) : t.Resident := by
  unfold State.Resident State.record at *
  rw [hcache, hstatus]
  exact h

/-- A record that shows HELD or FAULTED only as it did before. -/
theorem setRecord (h : s.Resident) {n : Channel} {f : ChannelRecord → ChannelRecord}
    (hf : (f (s.record n)).hold = .held ∨ (f (s.record n)).hold = .faulted →
      (s.record n).hold = .held ∨ (s.record n).hold = .faulted) : (s.setRecord n f).Resident := by
  refine Cache.Resident.holds h fun m hm => ?_
  rw [State.record_setRecord] at hm
  split at hm
  next heq => exact heq ▸ hf hm
  next => exact hm

/-- A record may come to show HELD or FAULTED where the channel has neither entry nor fill. -/
theorem setRecord_of_absent (h : s.Resident) {n : Channel} (f : ChannelRecord → ChannelRecord)
    (habsent : s.cache.Absent n) (hpending : s.cache.fillPending n = false) : (s.setRecord n f).Resident := by
  refine Cache.Resident.takes h habsent hpending fun m hmn hm => ?_
  rwa [State.record_setRecord, if_neg hmn] at hm

theorem requestFill (h : s.Resident) {n : Channel} (hfree : (s.record n).hold = .free) :
    State.Resident { s with cache := s.cache.requestFill n } := Cache.Resident.requestFill h hfree

theorem refill (h : s.Resident) {n : Channel} (hfree : (s.record n).hold = .free) : (s.refill n).Resident := by
  unfold State.refill
  split
  · exact h.requestFill hfree
  · exact h

theorem update (hupdate : s.Update t) (h : s.Resident) : t.Resident := by
  cases hupdate with
  | marks e b => exact Cache.Resident.modify h e (f := fun x => { x with inUse := b }) (by simp)
  | changes e f =>
    refine Cache.Resident.modify h e (f := fun x => { x with context := f x.context, state := x.state.changed }) ?_
    cases (s.cache.entry e).state <;> simp [EntryState.changed]
  | touches e => exact Cache.Resident.touch h e
  | asksFill n hfree _ => exact h.requestFill hfree
  | withdraws n => exact Cache.Resident.withdrawFill h n
  | fills e d hfilling =>
    have hfilled : (s.cache.modify e fun x => { x with context := d, state := .clean }).Resident
        fun n => (s.record n).hold :=
      Cache.Resident.modify h e (f := fun x => { x with context := d, state := .clean }) (by simp [hfilling])
    exact hfilled.touch e
  | invalidates e => exact Cache.Resident.invalidate h e
  | castsOut e hdirty => exact Cache.Resident.castsOut h hdirty
  | beginsWrite e hdirty =>
    exact Cache.Resident.modify h e (f := fun x => { x with state := .writing, snapshot := x.context }) (by simp [hdirty])
  | settles e =>
    refine Cache.Resident.modify h e (f := fun x => { x with state := x.state.written }) ?_
    cases (s.cache.entry e).state <;> simp [EntryState.written]
  | owes b _ => exact Cache.Resident.shrinks h (fun _ hg => ⟨rfl, hg, id⟩) (fun _ hg => .inr ⟨hg, rfl⟩) (.refl _)
  | presents b rest x _ _ =>
    exact Cache.Resident.shrinks h (fun _ hg => ⟨rfl, hg, id⟩) (fun _ hg => .inr ⟨hg, rfl⟩) (.refl _)
  | flags v hv =>
    refine Cache.Resident.holds h fun n hn => ?_
    have hsame : (State.record { s with status := v } n).hold = (s.record n).hold := (hv n).1
    rwa [hsame] at hn
  | fails e reason subCode hstate =>
    refine Cache.Resident.fails h hstate fun m hmn hm => ?_
    rwa [State.record_setRecord, if_neg hmn] at hm
  | evictsFor e n hnext hdirty => exact Cache.Resident.evictsFor h hnext hdirty
  | beginsFill e n hnext _ => exact Cache.Resident.beginsFill h e hnext
  | goesOn e n hstate hnext => exact Cache.Resident.goesOn h hstate hnext
  | grants => exact h.congr (by simp) (by simp)
  | asksFetch => exact h.congr (by simp) (by simp)
  | _ => exact h

theorem leads (hleads : s.Leads t) (h : s.Resident) : t.Resident := hleads.keeps (fun _ _ hu hs => update hu hs) h

theorem writerLook (h : s.Resident) : s.writerLook.Resident := h.congr (by simp) (by simp)

theorem written (hwritten : s.Written t) (h : s.Resident) : t.Resident := by
  cases hwritten with
  | consumes q => exact h.congr (by simp) (by simp)
  | looks => exact h.writerLook
  | _ => exact h

theorem startNode (h : s.Resident) : s.startNode.Resident := by
  have hcleared : s.clearSeqValid.Resident := Cache.Resident.holds h fun n hn => by simpa using hn
  refine Cache.Resident.foldl_requestFill s.clearSeqValid.pinnedFree (fun n hn => ?_) hcleared
  have hfree := (List.mem_filter.1 hn).2
  simp only [Bool.and_eq_true, decide_eq_true_eq] at hfree
  exact hfree.2

theorem obeys (hobeys : s.Obeys t) (hquiet : s.QuietLaw) (h : s.Resident) : t.Resident := by
  have freed {n : Channel} : (s.setRecord n ChannelRecord.becomeFree).Resident :=
    h.setRecord (by simp [ChannelRecord.becomeFree])
  have freed_hold (n : Channel) : ((s.setRecord n ChannelRecord.becomeFree).record n).hold = .free := by
    simp [State.record_setRecord, ChannelRecord.becomeFree]
  have pinned {n : Channel} : (s.setRecord n fun x => { x with pinned := true }).Resident := h.setRecord id
  cases hobeys with
  | starts _ _ => exact h.startNode
  | waits n _ _ =>
    exact (setRecord (s := { s with engine := s.engine.map Request.beforeHold }) h
      (f := fun x => { x with hold := .holdWait }) (by simp))
  | holds n hhold =>
    obtain hfaulted | hhalted := hhold
    · exact h.setRecord (f := ChannelRecord.becomeHeld) fun _ => .inr hfaulted
    · obtain ⟨-, -, -, ⟨hentries, hfills, -⟩, -⟩ := hquiet.at_rest hhalted
      exact h.setRecord_of_absent ChannelRecord.becomeHeld (fun e _ => hentries e)
        ((Cache.not_fillPending_iff _ _).2 ⟨by simp [hfills], fun e he => by simp [hentries] at he⟩)
  | frees n _ => exact freed
  | freesPinned n _ => exact freed.refill (freed_hold n)
  | flags n f hhold _ => exact h.setRecord (by rw [hhold]; exact id)
  | pins n _ => exact pinned
  | pinsFree n _ hfree => exact pinned.refill (by simpa [State.record_setRecord] using hfree)
  | resumes => exact h.congr (by simp) (by simp)
  | _ => exact h

theorem advances {last : Prop} (hadvances : s.Advances last t) (h : s.Resident) : t.Resident := by
  cases hadvances with
  | leads hleads => exact h.leads hleads
  | @ends u r _ hleads =>
    have hu : u.Resident := h.leads hleads
    exact hu
  | @finishes u n _ hidle hu =>
    have hpending : s.cache.fillPending n = false := by
      simp only [State.channelIdle, Bool.and_eq_true, Bool.not_eq_true'] at hidle
      exact hidle.2
    have hnone : u.Resident ∧ u.cache.Absent n ∧ u.cache.fillPending n = false := by
      obtain ⟨habsent, rfl⟩ | ⟨e, hfind, hclean, rfl⟩ := hu
      · exact ⟨h, habsent, hpending⟩
      · obtain ⟨rfl, hstate⟩ := Cache.find_some hfind
        obtain ⟨hfills, hnext⟩ := (Cache.not_fillPending_iff _ _).1 hpending
        refine ⟨Cache.Resident.invalidate h e, Cache.Resident.absent_invalidate h hstate,
          (Cache.not_fillPending_iff _ _).2 ⟨hfills, fun f hf => ?_⟩⟩
        dsimp only at hf ⊢
        rw [Cache.entry_invalidate] at hf ⊢
        split at hf
        next => simp at hf
        next hne => rw [if_neg hne]; exact hnext f hf
    obtain ⟨hu, habsent, hpending⟩ := hnone
    unfold State.finishHold
    split
    · exact hu.setRecord_of_absent ChannelRecord.becomeHeld habsent hpending
    · exact hu.setRecord_of_absent (fun x => { x with hold := .faulted, returned := false, seqValid := false }) habsent
        hpending
  | @goesOn u a b f g _ hleads =>
    have hu : u.Resident := h.leads hleads
    exact hu
  | looks => exact h.writerLook
  | looksLast f _ => exact h.writerLook
  | halts f _ _ => exact h

theorem afterReset (s : State) (b : Bool) : (s.afterReset b).Resident := by
  refine Cache.Resident.of_empty ⟨fun e => ?_, rfl, rfl⟩
  simp [Entry.reset]

/-- The fault of an eviction castout is reported while its entry still has the channel; as the entry goes on the channel
has none. -/
theorem evictionFaults {e : EntryIx} {n : Channel} (hstate : (s.cache.entry e).state = .evicting)
    (hnext : (s.cache.entry e).next = some n) (h : s.Resident) :
    ((s.castoutFaults e (s.cache.entry e).tag).evictionGoesOn e n).Resident := by
  obtain ⟨hcache, hstatus⟩ := s.castoutFaults_cache e (s.cache.entry e).tag
  obtain ⟨b, hentry⟩ := s.castoutFaults_entry e e (s.cache.entry e).tag
  generalize s.castoutFaults e (s.cache.entry e).tag = u at hcache hstatus hentry ⊢
  have hwithdrawn := Cache.Resident.withdrawFill h (s.cache.entry e).tag
  have hold : u.cache.Resident fun m => (s.record m).hold := by
    obtain hu | ⟨f, hu⟩ := hcache <;> rw [hu]
    · exact hwithdrawn
    · exact hwithdrawn.modify f (f := fun x => { x with inUse := false }) (by simp)
  have htag : (u.cache.entry e).tag = (s.cache.entry e).tag := by rw [hentry]
  have hustate : (u.cache.entry e).state = .evicting := by rw [hentry]; exact hstate
  have hunext : (u.cache.entry e).next = some n := by rw [hentry]; exact hnext
  have hnotin : (u.cache.entry e).tag ∉ u.cache.fills := by
    rw [htag]
    obtain hu | ⟨f, hu⟩ := hcache <;> rw [hu] <;> simp [Cache.withdrawFill, Cache.setInUse]
  obtain ⟨habsent, hpending⟩ := hold.goesOn_absent hustate hunext hnotin
  have hgone := (hold.goesOn hustate hunext).takes (hold' := fun m => (u.record m).hold) habsent hpending fun m hm hheld => by
    rw [htag] at hm
    rwa [State.record_congr hstatus, State.record_setRecord, if_neg hm] at hheld
  have hrecord (m : Channel) : (u.evictionGoesOn e n).record m = u.record m := State.record_congr (by simp) m
  unfold State.Resident
  simp only [hrecord]
  exact hgone.of_entries (by simp [State.evictionGoesOn]) (by simp [State.evictionGoesOn])

/-- An eviction castout that ends goes on to the fill that chose it; on a bus error its channel is reported as its entry
leaves it. -/
theorem endEviction (r : WriteEnd) (h : s.Resident) : (s.endEviction r).Resident := by
  unfold State.endEviction
  repeat' split
  next b _ _ e _ _ _ n hstate hnext =>
    have hwritten : (s.landed.burstWrites b r).Resident := h.leads (s.landedWrites_leads b r)
    unfold State.evictionEnds
    refine State.Resident.leads (State.retryDescriptor_leads _) ?_
    cases r with
    | completion =>
      exact hwritten.leads (State.evictionGoesOn_leads (by simpa using hstate) (by simpa using hnext))
    | busError =>
      have hsame (g : EntryIx) : (s.landed.burstWrites b .busError).cache.entry g = s.cache.entry g := by simp
      rw [← hsame e]
      exact hwritten.evictionFaults (by simpa using hstate) (by simpa using hnext)
  all_goals exact h

end State.Resident

theorem body_resident {c : Instr} {s : State} (hquiet : s.QuietLaw) (h : s.Resident) : (c.body s).Resident := by
  obtain ⟨b, hreset, -⟩ | hsame | ⟨-, hcommand⟩ | hwritten | ⟨-, hleads⟩ | ⟨-, hadvances⟩ | ⟨r, rfl⟩ | ⟨r, rfl⟩ :=
    body_cases c s
  · exact hreset.symm ▸ State.Resident.afterReset s b
  · exact hsame.symm ▸ h
  · generalize c.body s = t at hcommand
    cases hcommand with
    | busy _ => exact h
    | taken operand hbusy hobeys =>
      obtain ⟨hnone, hnode⟩ := hquiet.1.of_not_busy hbusy
      have htaken : (s.taken c.code operand).QuietLaw :=
        State.QuietLaw.sameRest (s := s) (t := s.taken c.code operand) ⟨rfl, rfl, rfl, rfl, rfl, rfl, rfl, rfl⟩
          (.of_ended hnode hnone) hnode hquiet
      exact State.Resident.obeys hobeys htaken h
  · exact State.Resident.written hwritten h
  · exact h.leads hleads
  · exact State.Resident.advances hadvances h
  · exact h.endEviction r
  · exact h.congr (by simp [Instr.body]) (by simp [Instr.body])

/-- Settles O59: every update keeps residency; a channel becomes HELD or FAULTED as it has lost its entry. -/
theorem channelLawKept : Obligations.ChannelLawKept := by
  unfold Obligations.ChannelLawKept
  intro s t ⟨hquiet, hresidency, howned⟩ hstep
  obtain ⟨hquiet', hresident⟩ := step_keeps (P := fun s => s.QuietLaw ∧ s.Resident) (fun _ _ h => h)
    (fun _ _ hpasses h => ⟨body_quietLaw hpasses h.1, body_resident h.1 h.2⟩) s t
    ⟨hquiet, (State.resident_iff s).1 ⟨hresidency, howned⟩⟩ hstep
  exact ⟨hquiet', (State.resident_iff t).2 hresident⟩

end Sys2Proof.Machine


/-! PROOFS. The advance of a commit in each buffering scheme (R20, R25, R26, R29, R32 to R34): what a field of a word
reads after a field is put, and what each scheme leaves of a descriptor. -/

namespace Sys2Proof.Machine

/-! ### Fields of a word -/

/-- Bit `i` of a word one of whose fields has been put. -/
theorem getLsbD_putField (w : Word) (lo n : Nat) (v : BitVec n) {i : Nat} (hi : i < 32) :
    (putField w lo n v).getLsbD i = if lo ≤ i ∧ i < lo + n then v.getLsbD (i - lo) else w.getLsbD i := by
  unfold putField
  simp only [BitVec.getLsbD_or, BitVec.getLsbD_and, BitVec.getLsbD_not, BitVec.getLsbD_shiftLeft, BitVec.getLsbD_setWidth,
    BitVec.getLsbD_allOnes, hi, decide_true, Bool.true_and]
  by_cases hlo : lo ≤ i
  · by_cases hn : i < lo + n
    · have h1 : i - lo < n := by omega
      have h2 : i - lo < 32 := by omega
      simp [hlo, hn, h1, h2, Nat.not_lt.mpr hlo]
    · have h1 : ¬ i - lo < n := by omega
      simp [hlo, hn, h1, BitVec.getLsbD_of_ge v (i - lo) (by omega)]
  · simp [hlo, Nat.lt_of_not_le hlo]

/-- A field that has just been put reads what was put. -/
theorem getField_putField_same (w : Word) {lo n : Nat} (h : lo + n ≤ 32) (v : BitVec n) :
    getField (putField w lo n v) lo n = v := by
  refine BitVec.eq_of_getLsbD_eq fun i hi => ?_
  rw [getField, BitVec.getLsbD_extractLsb', getLsbD_putField w lo n v (by omega)]
  simp [hi]

/-- A field apart from the one that is put keeps its value. -/
theorem getField_putField_apart (w : Word) {lo n lo' n' : Nat} (h' : lo' + n' ≤ 32)
    (h : lo + n ≤ lo' ∨ lo' + n' ≤ lo) (v : BitVec n) :
    getField (putField w lo n v) lo' n' = getField w lo' n' := by
  refine BitVec.eq_of_getLsbD_eq fun i hi => ?_
  rw [getField, getField, BitVec.getLsbD_extractLsb', BitVec.getLsbD_extractLsb', getLsbD_putField w lo n v (by omega),
    if_neg (by omega)]

/-- A bit outside the field that is put keeps its value. -/
theorem getBit_putField_apart (w : Word) {lo n i : Nat} (hi : i < 32) (h : i < lo ∨ lo + n ≤ i) (v : BitVec n) :
    getBit (putField w lo n v) i = getBit w i := by
  rw [getBit, getBit, getLsbD_putField w lo n v hi, if_neg (by omega)]

theorem getBit_putBit_same (w : Word) {i : Nat} (hi : i < 32) (b : Bool) : getBit (putBit w i b) i = b := by
  rw [getBit, putBit, getLsbD_putField w i 1 _ hi, if_pos (by omega)]
  simp

theorem getBit_putBit_ne (w : Word) {i j : Nat} (hj : j < 32) (h : j ≠ i) (b : Bool) :
    getBit (putBit w i b) j = getBit w j :=
  getBit_putField_apart w hj (by omega) _

theorem getField_putBit_apart (w : Word) {i lo n : Nat} (h' : lo + n ≤ 32) (h : i < lo ∨ lo + n ≤ i) (b : Bool) :
    getField (putBit w i b) lo n = getField w lo n :=
  getField_putField_apart w h' (by omega) _

/-! ### What a commit leaves of each field -/

/-- LAST_SEQ and MSG_COUNT of any descriptor put by the commit, and the fields of W6 that stay (R20). -/
theorem Descriptor.stamped_fields (d : Descriptor) (seq : Bool) (n : Half) :
    let c := (d.setLastSeq seq).setMsgCount n
    c.lastSeq = seq ∧ c.msgCount = n ∧ c.active = d.active ∧ c.prevLen = d.prevLen ∧
      getField c.w6 2 6 = getField d.w6 2 6 := by
  refine ⟨?_, getField_putField_same _ (by decide) n, ?_, ?_, ?_⟩
  · exact (getBit_putField_apart _ (by decide) (by decide) n).trans (getBit_putBit_same _ (by decide) seq)
  · exact (getBit_putField_apart _ (by decide) (by decide) n).trans (getBit_putBit_ne _ (by decide) (by decide) seq)
  · exact (getField_putField_apart _ (by decide) (by decide) n).trans
      (getField_putBit_apart _ (by decide) (by decide) seq)
  · exact (getField_putField_apart _ (by decide) (by decide) n).trans
      (getField_putBit_apart _ (by decide) (by decide) seq)

theorem Descriptor.setPrevLen_fields (d : Descriptor) (n : Byte) :
    (d.setPrevLen n).prevLen = n ∧ (d.setPrevLen n).active = d.active ∧
      getField (d.setPrevLen n).w6 2 6 = getField d.w6 2 6 :=
  ⟨getField_putField_same _ (by decide) n, getBit_putField_apart _ (by decide) (by decide) n,
    getField_putField_apart _ (by decide) (by decide) n⟩

theorem Descriptor.setActive_fields (d : Descriptor) (b : Bool) :
    (d.setActive b).active = b ∧ (d.setActive b).prevLen = d.prevLen ∧
      getField (d.setActive b).w6 2 6 = getField d.w6 2 6 :=
  ⟨getBit_putBit_same _ (by decide) b, getField_putBit_apart _ (by decide) (by decide) b,
    getField_putBit_apart _ (by decide) (by decide) b⟩

/-- RECIDX and GEN after the advance of a RING channel, and the bits of W5 that stay. -/
theorem Descriptor.setRecIdx_fields (d : Descriptor) (i : Byte) :
    (d.setRecIdx i).recIdx = i ∧ (d.setRecIdx i).gen = d.gen ∧
      getField (d.setRecIdx i).w5 9 23 = getField d.w5 9 23 :=
  ⟨getField_putField_same _ (by decide) i, getBit_putField_apart _ (by decide) (by decide) i,
    getField_putField_apart _ (by decide) (by decide) i⟩

theorem Descriptor.setGen_fields (d : Descriptor) (g : Bool) :
    (d.setGen g).gen = g ∧ (d.setGen g).recIdx = d.recIdx ∧ getField (d.setGen g).w5 9 23 = getField d.w5 9 23 :=
  ⟨getBit_putBit_same _ (by decide) g, getField_putBit_apart _ (by decide) (by decide) g,
    getField_putBit_apart _ (by decide) (by decide) g⟩

/-! ### The schemes -/

/-- The words that no scheme changes (R20): the configuration, the bounds, the counts of W7 and the bits of W6 that no
field holds. -/
def Descriptor.KeepsFixed (d c : Descriptor) : Prop :=
  c.w0 = d.w0 ∧ c.w1 = d.w1 ∧ c.w2 = d.w2 ∧ c.w7 = d.w7 ∧ getField c.w6 2 6 = getField d.w6 2 6

theorem Descriptor.advanceScheme_keepsFixed (d : Descriptor) (kind : MsgKind) (len : Byte) (rg : Ranges)
    (returned : Bool) : d.KeepsFixed (d.advanceScheme kind len rg returned).context := by
  unfold Descriptor.advanceScheme
  cases d.mode with
  | off => exact ⟨rfl, rfl, rfl, rfl, rfl⟩
  | counted =>
    cases kind with
    | put => exact ⟨rfl, rfl, rfl, rfl, rfl⟩
    | get => exact ⟨rfl, rfl, rfl, rfl, (d.setPrevLen_fields len).2.2⟩
  | alternate =>
    cases kind with
    | put =>
      cases returned with
      | false => exact ⟨rfl, rfl, rfl, rfl, rfl⟩
      | true => exact ⟨rfl, rfl, rfl, rfl, (d.setActive_fields _).2.2⟩
    | get => exact ⟨rfl, rfl, rfl, rfl, (d.setPrevLen_fields len).2.2⟩
  | ring =>
    dsimp only [Descriptor.advanceRing]
    split <;> exact ⟨rfl, rfl, rfl, rfl, rfl⟩

section
variable {d : Descriptor} (kind : MsgKind) (len : Byte) (rg : Ranges) (returned : Bool)

/-- COUNTED (R25, R26), before LAST_SEQ and MSG_COUNT are put. -/
theorem Descriptor.advanceScheme_counted (hmode : d.mode = .counted) :
    let a := d.advanceScheme kind len rg returned
    let c := a.context
    c.cursor = d.cursor + BitVec.ofNat 32 (8 + (len.toNat + 3) / 4 * 4) ∧ c.quota = d.quota - 1 ∧
      (a.milestone = if d.quota = 1 then some .quotaZero else none) ∧ a.returned = returned ∧ c.active = d.active ∧
      getField c.w5 16 16 = getField d.w5 16 16 ∧
      (kind = .get → c.prev = rg.record ∧ c.prevLen = len) ∧
      (kind = .put → c.prev = d.prev ∧ c.prevLen = d.prevLen) := by
  have hquota : getField (putField d.w5 0 16 (d.quota - 1)) 0 16 = d.quota - 1 :=
    getField_putField_same _ (by decide) _
  have hupper : getField (putField d.w5 0 16 (d.quota - 1)) 16 16 = getField d.w5 16 16 :=
    getField_putField_apart _ (by decide) (by decide) _
  simp only [Descriptor.advanceScheme, hmode]
  cases kind with
  | put => exact ⟨rfl, hquota, rfl, rfl, rfl, hupper, nofun, fun _ => ⟨rfl, rfl⟩⟩
  | get =>
    obtain ⟨hlen, hactive, -⟩ := d.setPrevLen_fields len
    exact ⟨rfl, hquota, rfl, rfl, hactive, hupper, fun _ => ⟨rfl, hlen⟩, nofun⟩

/-- ALTERNATE (R29, R32): a PUT swaps or overwrites by the returned flag, a GET records PREV_LEN. -/
theorem Descriptor.advanceScheme_alternate (hmode : d.mode = .alternate) :
    let a := d.advanceScheme kind len rg returned
    let c := a.context
    c.cursor = d.cursor ∧ c.w4 = d.w4 ∧ c.w5 = d.w5 ∧
      (kind = .put → c.prevLen = d.prevLen ∧ a.returned = false ∧ c.active = (d.active ^^ returned) ∧
        a.milestone = some (if returned then .swap else .overwrite)) ∧
      (kind = .get → c.prevLen = len ∧ a.returned = returned ∧ c.active = d.active ∧ a.milestone = none) := by
  simp only [Descriptor.advanceScheme, hmode]
  cases kind with
  | put =>
    cases returned with
    | false => exact ⟨rfl, rfl, rfl, fun _ => ⟨rfl, rfl, (Bool.xor_false _).symm, rfl⟩, nofun⟩
    | true =>
      obtain ⟨hactive, hlen, -⟩ := d.setActive_fields (!d.active)
      exact ⟨rfl, rfl, rfl, fun _ => ⟨hlen, rfl, hactive.trans (Bool.xor_true _).symm, rfl⟩, nofun⟩
  | get =>
    obtain ⟨hlen, hactive, -⟩ := d.setPrevLen_fields len
    exact ⟨rfl, rfl, rfl, nofun, fun _ => ⟨hlen, rfl, hactive, rfl⟩⟩

/-- RING (R33, R34): at the last record RECIDX wraps and GEN flips. -/
theorem Descriptor.advanceScheme_ring (hmode : d.mode = .ring) :
    let a := d.advanceScheme kind len rg returned
    let c := a.context
    c.w4 = d.w4 ∧ c.prevLen = d.prevLen ∧ c.active = d.active ∧ a.returned = returned ∧
      getField c.w5 9 23 = getField d.w5 9 23 ∧ c.cursor = d.ringCursorAfter rg.data len ∧
      (d.recIdx = d.recCountLess1 → c.recIdx = 0 ∧ c.gen = !d.gen ∧ a.milestone = some .ringWrap) ∧
      (d.recIdx ≠ d.recCountLess1 → c.recIdx = d.recIdx + 1 ∧ c.gen = d.gen ∧ a.milestone = none) := by
  simp only [Descriptor.advanceScheme, hmode, Descriptor.advanceRing]
  split
  next hlast =>
    obtain ⟨hidx, -, hupper⟩ := (d.setCursor (d.ringCursorAfter rg.data len)).setRecIdx_fields 0
    obtain ⟨hgen, hkeep, hupper'⟩ :=
      ((d.setCursor (d.ringCursorAfter rg.data len)).setRecIdx 0).setGen_fields (!d.gen)
    exact ⟨rfl, rfl, rfl, rfl, hupper'.trans hupper, rfl, fun _ => ⟨hkeep.trans hidx, hgen, rfl⟩,
      fun hne => absurd hlast hne⟩
  next hnot =>
    obtain ⟨hidx, hgen, hupper⟩ :=
      (d.setCursor (d.ringCursorAfter rg.data len)).setRecIdx_fields (d.recIdx + 1)
    exact ⟨rfl, rfl, rfl, rfl, hupper, rfl, fun hlast => absurd hlast hnot, fun _ => ⟨hidx, hgen, rfl⟩⟩

end

/-- Settles O34: the scheme's own advance, field by field, under the stamp of LAST_SEQ and MSG_COUNT, which lies in W6
apart from every field a scheme changes. -/
theorem schemesAdvance : Obligations.SchemesAdvance := by
  unfold Obligations.SchemesAdvance
  intro d kind seq returned len rg
  obtain ⟨hseq, hcount, hactive, hprevLen, hfree⟩ :=
    (d.advanceScheme kind len rg returned).context.stamped_fields seq (d.msgCount + 1)
  obtain ⟨h0, h1, h2, h7, h6⟩ := d.advanceScheme_keepsFixed kind len rg returned
  refine ⟨hseq, hcount, congrArg (getField · 0 16) h7, congrArg (getField · 16 16) h7, h0, h1, h2, h7, hfree.trans h6,
    fun hmode => ?_, fun hmode => ?_, fun hmode => ?_⟩
  · obtain ⟨hcursor, hquota, hmilestone, hret, hact, hupper, hget, hput⟩ :=
      Descriptor.advanceScheme_counted kind len rg returned hmode
    exact ⟨hcursor, hquota, hmilestone, hret, hactive.trans hact, hupper,
      fun hk => ⟨(hget hk).1, hprevLen.trans (hget hk).2⟩, fun hk => ⟨(hput hk).1, hprevLen.trans (hput hk).2⟩⟩
  · obtain ⟨hcursor, h4, h5, hput, hget⟩ := Descriptor.advanceScheme_alternate kind len rg returned hmode
    refine ⟨hcursor, h4, h5, fun hk => ?_, fun hk => ?_⟩
    · obtain ⟨hlen, hret, hact, hmilestone⟩ := hput hk
      exact ⟨hprevLen.trans hlen, hret, hactive.trans hact, hmilestone⟩
    · obtain ⟨hlen, hret, hact, hmilestone⟩ := hget hk
      exact ⟨hprevLen.trans hlen, hret, hactive.trans hact, hmilestone⟩
  · obtain ⟨h4, hlen, hact, hret, hupper, hcursor, hlast, hnext⟩ :=
      Descriptor.advanceScheme_ring kind len rg returned hmode
    exact ⟨h4, hprevLen.trans hlen, hactive.trans hact, hret, hupper, hcursor, hlast, hnext⟩

end Sys2Proof.Machine


/-! PROOFS. FILL_TAKES_ENTRY (R89, R90, R91): which fill takes which entry, and what becomes of that entry. -/

namespace Sys2Proof.Machine

/-! ### The fill that takes an entry, and the entry it takes -/

/-- The fills before `n` wait for a castout of their channel, `n` for none (R89). -/
theorem Cache.nextFill_eq {c : Cache} {before after : List Channel} {n : Channel} (hfills : c.fills = before ++ n :: after)
    (hbefore : ∀ m ∈ before, ∃ e, c.find m = some e ∧ (c.entry e).state = .evicting)
    (hn : ∀ e, c.find n = some e → (c.entry e).state ≠ .evicting) : c.nextFill = some n := by
  unfold Cache.nextFill
  rw [hfills, List.find?_append, List.find?_eq_none.mpr, List.find?_cons_of_pos]
  · rfl
  · cases hfind : c.find n with
    | none => rfl
    | some e => simpa using hn e hfind
  · intro m hm
    obtain ⟨e, hfind, hstate⟩ := hbefore m hm
    simp [hfind, hstate]

theorem Cache.withdrawFill_fills {c : Cache} {before after : List Channel} {n : Channel}
    (hfills : c.fills = before ++ n :: after) (hnodup : c.fills.Nodup) :
    (c.withdrawFill n).fills = before ++ after := by
  rw [hfills, List.nodup_middle, List.nodup_cons, List.mem_append, not_or] at hnodup
  obtain ⟨⟨hbefore, hafter⟩, -⟩ := hnodup
  have hkeep {l : List Channel} (hl : n ∉ l) : (l.filter fun m => decide (m ≠ n)) = l :=
    List.filter_eq_self.mpr fun m hm => by simpa using fun h : m = n => hl (h ▸ hm)
  change (c.fills.filter fun m => decide (m ≠ n)) = before ++ after
  rw [hfills, List.filter_append, List.filter_cons_of_neg (by simp), hkeep hbefore, hkeep hafter]

/-- With an entry that is INVALID or eligible there is one to take (R90). -/
theorem State.fillTarget_isSome {s : State} {e : EntryIx} (h : (s.cache.entry e).state = .invalid ∨
    (s.cache.entry e).eligible (s.record (s.cache.entry e).tag).pinned = true) : ∃ g, s.fillTarget = some g := by
  unfold State.fillTarget
  split
  next g _ => exact ⟨g, rfl⟩
  next hinvalid =>
    refine Option.ne_none_iff_exists'.mp fun hnone => ?_
    have hnot := Cache.oldest_none hinvalid e
    have hbusy := Cache.oldest_none hnone e
    simp_all

theorem Entry.eligible_iff {x : Entry} {pinned : Bool} :
    x.eligible pinned = true ↔ (x.state = .clean ∨ x.state = .dirty) ∧ x.inUse = false ∧ pinned = false := by
  unfold Entry.eligible
  cases pinned <;> cases x.inUse <;> simp

/-! ### What becomes of the entry -/

/-- A burst that becomes due is presented at once, or joins the list behind another that waits or flies (R96). -/
theorem State.cacheDue_presents (s : State) (b : CacheBurst) :
    (s.CachePortFree → (s.cacheDue b).cache.due = [] ∧
      (s.cacheDue b).port = { s.port with cache := some (s.cacheBurst b) }) ∧
    (s.port.cache ≠ none ∨ (∃ p x, s.port.inFlight = some p ∧ p.kind = .cache x) → (s.cacheDue b).port = s.port ∧
      (s.cacheDue b).cache.due = s.cache.due ++ [b]) := by
  refine ⟨fun hfree => ?_, fun hbusy => ?_⟩
  · obtain ⟨hdue, hport, hflies⟩ := hfree.unfold
    rw [State.cacheDue_of_free hdue hport hflies]
    exact ⟨hdue, rfl⟩
  · rw [State.cacheDue_of_busy]
    · exact ⟨rfl, rfl⟩
    · refine hbusy.imp_right ?_
      rintro ⟨p, x, hflight, hkind⟩
      simp [Port.flies, hflight, hkind, BurstKind.client]

/-- A DIRTY victim is cast out for the fill of `n` (R91). -/
theorem State.fillTakes_of_dirty {s : State} {n : Channel} {e : EntryIx} (h : (s.cache.entry e).state = .dirty) :
    let t := s.fillTakes n e
    t.cache.entry e = { s.cache.entry e with state := .evicting, snapshot := s.context e, next := some n } ∧
      (∀ f, f ≠ e → t.cache.entry f = s.cache.entry f) ∧ t.cmd = s.cmd ∧
      (s.CachePortFree → t.cache.due = [] ∧ t.port = { s.port with
        cache := some (s.writeOf (.cache (.eviction e)) (s.cache.entry e).tag (s.context e)) }) ∧
      (s.port.cache ≠ none ∨ (∃ b x, s.port.inFlight = some b ∧ b.kind = .cache x) → t.port = s.port ∧
        t.cache.due = s.cache.due ++ [.eviction e]) := by
  obtain ⟨-, htakes⟩ | ⟨hnot, -⟩ := s.fillTakes_cases n e
  swap
  · exact absurd h hnot
  have hpresents :=
    State.cacheDue_presents { s with cache := (s.cache.withdrawFill n).beginEvict e (some n) } (.eviction e)
  rw [htakes]
  refine ⟨?_, fun f hf => ?_, by simp, fun hfree => ?_, hpresents.2⟩
  · rw [State.cacheDue_entry, Cache.entry_beginEvict, if_pos rfl]
    rfl
  · rw [State.cacheDue_entry, Cache.entry_beginEvict, if_neg hf]
    rfl
  · obtain ⟨hdue, hport⟩ := hpresents.1 hfree
    refine ⟨hdue, hport.trans ?_⟩
    simp only [State.cacheBurst, State.descriptorBurst, CacheBurst.entry, Cache.entry_beginEvict, if_pos]
    rfl

/-- An entry that is INVALID or CLEAN begins to fill at once (R90), and is no member of PURGE's second set (R103). -/
theorem State.fillTakes_of_not_dirty {s : State} {n : Channel} {e : EntryIx} (h : (s.cache.entry e).state ≠ .dirty) :
    let t := s.fillTakes n e
    (t.cache.entry e).tag = n ∧ (t.cache.entry e).state = .filling ∧ t.context e = s.context e ∧
      (∀ f, f ≠ e → (t.cache.entry f).state = (s.cache.entry f).state ∧
        (t.cache.entry f).tag = (s.cache.entry f).tag ∧ t.context f = s.context f) ∧
      t.cmd = { s.cmd with work := s.cmd.work.entryTaken e } ∧
      (s.CachePortFree → t.cache.due = [] ∧ t.port = { s.port with cache := some (s.linefillOf e n) }) ∧
      (s.port.cache ≠ none ∨ (∃ b x, s.port.inFlight = some b ∧ b.kind = .cache x) → t.port = s.port ∧
        t.cache.due = s.cache.due ++ [.linefill e]) := by
  obtain ⟨hdirty, -⟩ | ⟨-, htakes⟩ := s.fillTakes_cases n e
  · exact absurd hdirty h
  have hpresents := State.cacheDue_presents
    (State.setWork { s with cache := (s.cache.withdrawFill n).beginFill e n } (s.cmd.work.entryTaken e)) (.linefill e)
  rw [htakes]
  have hentry (f : EntryIx) : (State.cacheDue (State.setWork { s with cache := (s.cache.withdrawFill n).beginFill e n }
      (s.cmd.work.entryTaken e)) (.linefill e)).cache.entry f = ((s.cache.withdrawFill n).beginFill e n).entry f :=
    State.cacheDue_entry ..
  simp only [State.context, hentry, Cache.entry_beginFill, if_pos]
  refine ⟨trivial, trivial, rfl, fun f hf => ?_, by simp, fun hfree => ?_, hpresents.2⟩
  · simp [hf]
  · obtain ⟨hdue, hport⟩ := hpresents.1 hfree
    refine ⟨hdue, hport.trans ?_⟩
    simp only [State.cacheBurst, State.setWork_cache, Cache.entry_beginFill, if_pos]
    rfl

theorem State.fillTakes_lists (s : State) (n : Channel) (e : EntryIx) :
    (s.fillTakes n e).cache.fills = (s.cache.withdrawFill n).fills ∧ (s.fillTakes n e).mem = s.mem ∧
      (s.fillTakes n e).status = s.status := by
  obtain ⟨-, h⟩ | ⟨-, h⟩ := s.fillTakes_cases n e <;> rw [h] <;>
    exact ⟨(State.cacheDue_entries ..).2, by simp, by simp⟩

theorem exec_fillTakesEntry_eq {s : State} (h : s.resetAsserted = false) {n : Channel} {e : EntryIx}
    (hnext : s.cache.nextFill = some n) (htarget : s.fillTarget = some e) :
    exec .fillTakesEntry s = .next (s.fillTakes n e) := by
  refine congrArg _ ((State.live_of_not_reset h _).trans ?_)
  simp only [State.takeFill, hnext, htarget]

/-- Settles O35: the first fill that no castout of its channel holds up takes the entry `fillTarget` names, a DIRTY one by
way of its castout. -/
theorem fillTakesOldestEntry : Obligations.FillTakesOldestEntry := by
  unfold Obligations.FillTakesOldestEntry
  intro s before after n hlive hfills hnodup hbefore hn ⟨g, hg⟩
  obtain ⟨e, htarget⟩ := State.fillTarget_isSome hg
  obtain ⟨hlist, hmem, hstatus⟩ := s.fillTakes_lists n e
  refine ⟨e, s.fillTakes n e, exec_fillTakesEntry_eq hlive (Cache.nextFill_eq hfills hbefore hn) htarget, ?_, ?_,
    hlist.trans (Cache.withdrawFill_fills hfills hnodup), hmem, hstatus, ?_⟩
  · rintro ⟨f, hf⟩
    obtain holdest | ⟨hnone, -⟩ := State.fillTarget_some htarget
    · exact holdest
    · exact absurd hf (hnone f)
  · intro hnone
    obtain ⟨hinvalid, -⟩ | ⟨-, heligible, holdest⟩ := State.fillTarget_some htarget
    · exact absurd hinvalid (hnone e)
    · obtain ⟨hstate, hfree, hpinned⟩ := Entry.eligible_iff.mp heligible
      exact ⟨hstate, hfree, hpinned, holdest⟩
  · by_cases hdirty : (s.cache.entry e).state = .dirty
    · obtain ⟨hentry, hother, hcmd, hfree, hbusy⟩ := State.fillTakes_of_dirty (n := n) hdirty
      simp only [if_pos hdirty]
      refine ⟨fun f hf => ?_, fun _ => hentry, fun h => absurd hdirty h, hfree, hbusy,
        fun _ _ _ _ h => absurd hdirty h, fun _ => hcmd⟩
      rw [State.context, hother f hf]
      exact ⟨rfl, rfl, rfl⟩
    · obtain ⟨htag, hstate, -, hother, hcmd, hfree, hbusy⟩ := State.fillTakes_of_not_dirty (n := n) hdirty
      simp only [if_neg hdirty]
      refine ⟨hother, fun h => absurd h hdirty, fun _ => ⟨htag, hstate⟩, hfree, hbusy, fun j k f hwork _ => ?_,
        fun hother => ?_⟩
      · rw [hcmd, hwork]
        rfl
      · obtain ⟨j, k, f, hwork, -⟩ | ⟨-, hkeep⟩ := s.cmd.work.entryTaken_cases e
        · exact absurd hwork (hother.resolve_right hdirty j k f)
        · rw [hcmd, hkeep]

end Sys2Proof.Machine


/-! PROOFS. The store client (R127 to R131): what a search for a segment finds after each update, and what a store burst
leaves in host memory. -/

namespace Sys2Proof.Machine

/-! ### Searching for a segment -/

theorem Mover.segment_some {m : Mover} {msg : Nat} {x : Segment} (h : m.segment msg = some x) :
    x ∈ m.segments ∧ x.msg = msg :=
  ⟨List.mem_of_find?_eq_some h, by simpa using List.find?_some h⟩

theorem Mover.segment_none {m : Mover} {msg : Nat} : m.segment msg = none ↔ ∀ x ∈ m.segments, x.msg ≠ msg := by
  simp [Mover.segment, List.find?_eq_none]

/-- A change of one message's segment, which keeps its message, is seen by a search for that message alone. -/
theorem Mover.segment_modify (m : Mover) (msg k : Nat) {f : Segment → Segment} (hf : ∀ x, (f x).msg = x.msg) :
    (m.modify msg f).segment k = if k = msg then (m.segment msg).map f else m.segment k := by
  have hmsg (x : Segment) : (if x.msg = msg then f x else x).msg = x.msg := by
    split
    · exact hf x
    · rfl
  have hfind : (m.modify msg f).segment k = (m.segment k).map fun x => if x.msg = msg then f x else x := by
    simp only [Mover.segment, Mover.modify, List.find?_map]
    congr 2
    funext x
    simp [hmsg]
  rw [hfind]
  split
  next hk =>
    subst hk
    cases hx : m.segment k with
    | none => rfl
    | some x => simp [(Mover.segment_some hx).2]
  next hk =>
    cases hx : m.segment k with
    | none => rfl
    | some x => simp [(Mover.segment_some hx).2, hk]

/-- A segment that stays is found after a sweep as before it. -/
theorem State.sweepSegments_segment {s : State} {msg : Nat} {x : Segment} (h : s.mover.segment msg = some x)
    (hstays : x.stays (s.port.carried msg).isSome = true) : s.sweepSegments.mover.segment msg = some x := by
  obtain ⟨hmsg, before, after, hsplit, hbefore⟩ := List.find?_eq_some_iff_append.mp h
  simp only [decide_eq_true_eq] at hmsg
  subst hmsg
  simp only [State.sweepSegments_mover, Mover.segment]
  rw [hsplit, List.filter_append, List.filter_cons_of_pos (by simpa using hstays), List.find?_append,
    List.find?_eq_none.mpr fun y hy => by simpa using hbefore y (List.mem_of_mem_filter hy), Option.none_or,
    List.find?_cons_of_pos (by simp)]

/-- Segments of a message that do not stay are gone after a sweep. -/
theorem State.sweepSegments_segment_none {s : State} {msg : Nat}
    (h : ∀ x ∈ s.mover.segments, x.msg = msg → x.stays (s.port.carried msg).isSome = false) :
    s.sweepSegments.mover.segment msg = none := by
  rw [Mover.segment_none]
  intro x hx hmsg
  obtain ⟨hin, hstays⟩ := List.mem_filter.mp hx
  rw [hmsg, h x hin hmsg] at hstays
  exact Bool.noConfusion hstays

/-! ### The bytes of a store burst in host memory -/

theorem extractLsb_wordOfBytes (b0 b1 b2 b3 : Byte) :
    (wordOfBytes b0 b1 b2 b3).extractLsb' 0 8 = b0 ∧ (wordOfBytes b0 b1 b2 b3).extractLsb' 8 8 = b1 ∧
      (wordOfBytes b0 b1 b2 b3).extractLsb' 16 8 = b2 ∧ (wordOfBytes b0 b1 b2 b3).extractLsb' 24 8 = b3 := by
  unfold wordOfBytes
  simp [↓BitVec.extractLsb'_append_eq_of_le, ↓BitVec.extractLsb'_append_eq_of_add_le]

/-- The offset of an address from another names it. -/
theorem eq_add_ofNat_of_sub {a b : Addr} {k : Nat} (h : (b - a).toNat = k) : b = a + BitVec.ofNat 32 k := by
  subst h
  bv_omega

/-- A byte read after a word is written: its enabled bytes at their places, every other byte as before (R122). -/
theorem Memory.readByte_writeWord {m : Memory} (a b : Addr) (x : WriteWord) (h : Memory.wf m = true) :
    Memory.readByte (Memory.writeWord m a x) b =
      if (b - a).toNat < 4 ∧ x.enables.getLsbD (b - a).toNat = true then
        x.value.extractLsb' (8 * (b - a).toNat) 8
      else Memory.readByte m b := by
  by_cases hnear : (b - a).toNat < 4
  · have hfirst := Memory.wf_writeEnabled a (x.enables.getLsbD 0) (x.value.extractLsb' 0 8) h
    have hsecond := Memory.wf_writeEnabled (a + 1) (x.enables.getLsbD 1) (x.value.extractLsb' 8 8) hfirst
    have hthird := Memory.wf_writeEnabled (a + 2) (x.enables.getLsbD 2) (x.value.extractLsb' 16 8) hsecond
    generalize hk : (b - a).toNat = k at hnear
    have hb := eq_add_ofNat_of_sub hk
    simp only [Memory.writeWord]
    rw [Memory.readByte_writeEnabled _ _ _ _ hthird, Memory.readByte_writeEnabled _ _ _ _ hsecond,
      Memory.readByte_writeEnabled _ _ _ _ hfirst, Memory.readByte_writeEnabled _ _ _ _ h]
    obtain rfl | rfl | rfl | rfl : k = 0 ∨ k = 1 ∨ k = 2 ∨ k = 3 := by omega
    all_goals
      subst hb
      simp
  · rw [if_neg (by omega), Memory.readByte_writeWord_ne m x (by omega)]

/-- A byte read after the words of a store burst are written: the bytes carried at their places, every other byte as
before (R122, R130). -/
theorem Memory.readByte_storeWords (bs : List Byte) : ∀ {m : Memory} (a b : Addr), Memory.wf m = true →
    bs.length < 2 ^ 32 →
    Memory.readByte (Memory.writeWords m a (storeWords bs)) b = bs[(b - a).toNat]?.getD (Memory.readByte m b) := by
  have hsmall (bs : List Byte) (x : WriteWord) (hlen : bs.length < 4) (henables : ∀ i < 4,
      x.enables.getLsbD i = decide (i < bs.length)) (hvalue : ∀ i < bs.length,
      bs[i]? = some (x.value.extractLsb' (8 * i) 8)) {m : Memory} (a b : Addr) (h : Memory.wf m = true) :
      Memory.readByte (Memory.writeWord m a x) b = bs[(b - a).toNat]?.getD (Memory.readByte m b) := by
    rw [Memory.readByte_writeWord a b x h]
    by_cases hin : (b - a).toNat < bs.length
    · rw [if_pos ⟨by omega, by rw [henables _ (by omega)]; simpa using hin⟩, hvalue _ hin]
      rfl
    · rw [if_neg, List.getElem?_eq_none (by omega)]
      · rfl
      · rintro ⟨hfour, hon⟩
        rw [henables _ hfour] at hon
        exact hin (by simpa using hon)
  induction bs using storeWords.induct with
  | case1 => intro m a b h _; rfl
  | case2 x =>
    intro m a b h _
    obtain ⟨h0, -⟩ := extractLsb_wordOfBytes x 0 0 0
    refine hsmall [x] _ (by simp) (by change ∀ i < 4, (0x1#4).getLsbD i = decide (i < 1); decide) (fun i hi => ?_) a b h
    obtain rfl : i = 0 := by simpa using hi
    exact congrArg some h0.symm
  | case3 x y =>
    intro m a b h _
    obtain ⟨h0, h1, -⟩ := extractLsb_wordOfBytes x y 0 0
    refine hsmall [x, y] _ (by simp) (by simp; decide) (fun i hi => ?_) a b h
    obtain rfl | rfl : i = 0 ∨ i = 1 := by simp at hi; omega
    · exact congrArg some h0.symm
    · exact congrArg some h1.symm
  | case4 x y z =>
    intro m a b h _
    obtain ⟨h0, h1, h2, -⟩ := extractLsb_wordOfBytes x y z 0
    refine hsmall [x, y, z] _ (by simp) (by simp; decide) (fun i hi => ?_) a b h
    obtain rfl | rfl | rfl : i = 0 ∨ i = 1 ∨ i = 2 := by simp at hi; omega
    · exact congrArg some h0.symm
    · exact congrArg some h1.symm
    · exact congrArg some h2.symm
  | case5 w x y z rest ih =>
    intro m a b h hlen
    obtain ⟨h0, h1, h2, h3⟩ := extractLsb_wordOfBytes w x y z
    simp only [List.length_cons] at hlen
    change Memory.readByte (Memory.writeWords (Memory.writeWord m a ⟨wordOfBytes w x y z, 0xF#4⟩) (a + 4)
      (storeWords rest)) b = _
    rw [ih _ _ (Memory.wf_writeWord _ _ h) (by omega), Memory.readByte_writeWord a b _ h]
    by_cases hnear : (b - a).toNat < 4
    · have hon : ∀ k < 4, (0xF#4).getLsbD k = true := by decide
      rw [List.getElem?_eq_none (l := rest) (by bv_omega), if_pos ⟨hnear, hon _ hnear⟩]
      generalize (b - a).toNat = k at hnear
      obtain rfl | rfl | rfl | rfl : k = 0 ∨ k = 1 ∨ k = 2 ∨ k = 3 := by omega
      · exact h0
      · exact h1
      · exact h2
      · exact h3
    · have hfar : (b - (a + 4)).toNat = (b - a).toNat - 4 := by bv_omega
      obtain ⟨k, hk⟩ : ∃ k, (b - a).toNat = k + 4 := ⟨(b - a).toNat - 4, by omega⟩
      rw [hfar, if_neg (fun hin => hnear hin.1), hk]
      rfl

end Sys2Proof.Machine


/-! PROOFS. The end of a store burst that completes (R130, R131). -/

namespace Sys2Proof.Machine

theorem Segment.burstBytes_le (x : Segment) : x.burstBytes ≤ x.held.length ∧ x.burstBytes ≤ 32 := by
  unfold Segment.burstBytes blockRoom
  split <;> omega

/-- The bytes carried by a segment's burst, read at their places, and every other byte as before (R122, R130). -/
theorem Segment.readByte_burst (x : Segment) {m : Memory} (h : Memory.wf m = true) (a : Addr) :
    Memory.readByte (Memory.writeWords m x.burst.addr x.burst.data) a =
      if (a - x.next).toNat < x.burstBytes then (x.held[(a - x.next).toNat]?).getD (Memory.readByte m a)
      else Memory.readByte m a := by
  obtain ⟨hheld, hblock⟩ := x.burstBytes_le
  have hlen : (x.held.take x.burstBytes).length < 2 ^ 32 := by rw [List.length_take]; omega
  change Memory.readByte (Memory.writeWords m x.next (storeWords (x.held.take x.burstBytes))) a = _
  rw [Memory.readByte_storeWords _ _ _ h hlen, List.getElem?_take]
  split <;> rfl

theorem exec_storeBurstEnd_eq {s : State} (h : s.resetAsserted = false) {b : Burst} {msg bytes : Nat}
    (hflight : s.port.inFlight = some b) (hkind : b.kind = .store msg bytes) (result : WriteEnd) :
    exec (.storeBurstEnd result) s = .next (s.storeEnds msg bytes b result) := by
  refine congrArg _ ((State.live_of_not_reset h _).trans ?_)
  simp only [State.endStore, hflight, hkind]

/-- With no burst in flight a sweep looks at the segment alone (R127). -/
theorem Port.carried_of_idle {p : Port} (h : p.inFlight = none) (msg : Nat) : p.carried msg = none := by
  simp [Port.carried, h]

/-- The message's stores have ended, and its completion entry is told so; or they have not (R131, R142). -/
theorem State.reportIfEnded_retire {s : State} {msg : Nat} {x : Segment} (h : s.mover.segment msg = some x) :
    (s.reportIfEnded msg).retire =
      if x.storesEnded then { s.retire with queue := s.retire.queue.map fun c =>
        if c.msg = msg ∧ c.storesPending = true then { c with storesPending := false } else c }
      else s.retire := by
  simp only [State.reportIfEnded, h]
  split <;> rfl

/-- A STORING segment that a burst has left empty, with no byte due, has ended its stores and leaves the FIFO; any other
stays (R127, R131). -/
theorem Segment.stored_ends {x : Segment} (hstate : x.state = .storing) (bytes : Nat) :
    ((x.stored bytes).storesEnded = true ↔ x.held.length ≤ bytes ∧ x.due = 0) ∧
      (x.stored bytes).stays false = !(x.stored bytes).storesEnded := by
  have hempty : (x.held.drop bytes).isEmpty = true ↔ x.held.length ≤ bytes := by
    rw [List.isEmpty_iff, List.drop_eq_nil_iff]
  refine ⟨?_, ?_⟩
  · simp [Segment.storesEnded, Segment.stored, hstate]
  · simp [Segment.storesEnded, Segment.stored, Segment.stays, hstate]

/-! ### The message's segment and its completion entry -/

/-- A segment's burst has completed: its words lie in memory, and the bytes it carried have left the segment. -/
def State.bytesLeave (s : State) (x : Segment) : State :=
  { s.landed.burstWrites x.burst .completion with mover := s.mover.modify x.msg fun y => y.stored x.burstBytes }

theorem State.storeEnds_completion (s : State) (x : Segment) :
    s.storeEnds x.msg x.burstBytes x.burst .completion =
      ((s.bytesLeave x).reportIfEnded x.msg).sweepSegments.presentStore := rfl

section
variable {s : State} {x : Segment} (hsegment : s.mover.segment x.msg = some x) (hstate : x.state = .storing)
include hsegment

theorem State.bytesLeave_segment :
    (s.bytesLeave x).mover.segment x.msg = some (x.stored x.burstBytes) := by
  refine (s.mover.segment_modify x.msg x.msg (f := fun y => y.stored x.burstBytes) fun _ => rfl).trans ?_
  rw [if_pos rfl, hsegment]
  rfl

include hstate

/-- With the message's last byte its stores have ended: the segment is gone, its completion entry is told (R131, R142). -/
theorem State.bytesLeave_of_last (hunique : ∀ y ∈ s.mover.segments, y.msg = x.msg → y = x)
    (hend : (x.stored x.burstBytes).storesEnded = true) :
    ((s.bytesLeave x).reportIfEnded x.msg).sweepSegments.mover.segment x.msg = none ∧
      ((s.bytesLeave x).reportIfEnded x.msg).retire = { s.retire with queue := s.retire.queue.map fun c =>
        if c.msg = x.msg ∧ c.storesPending = true then { c with storesPending := false } else c } := by
  obtain ⟨-, hstays⟩ := Segment.stored_ends hstate x.burstBytes
  refine ⟨State.sweepSegments_segment_none fun y hy hmsg => ?_, ?_⟩
  · rw [Port.carried_of_idle (by simp [State.bytesLeave])]
    simp only [State.reportIfEnded_frame] at hy
    obtain ⟨z, hz, rfl⟩ := List.mem_map.mp hy
    have hzmsg : z.msg = x.msg := by
      dsimp only at hmsg
      split at hmsg
      · assumption
      · exact hmsg
    dsimp only
    rw [hunique z hz hzmsg, if_pos rfl, Option.isSome_none, hstays, hend]
    rfl
  · rw [State.reportIfEnded_retire (State.bytesLeave_segment hsegment), if_pos hend]
    simp [State.bytesLeave]

/-- While bytes are held or due the segment goes on, without those the burst carried (R130). -/
theorem State.bytesLeave_of_more (hgoes : (x.stored x.burstBytes).storesEnded = false) :
    ((s.bytesLeave x).reportIfEnded x.msg).sweepSegments.mover.segment x.msg = some (x.stored x.burstBytes) ∧
      ((s.bytesLeave x).reportIfEnded x.msg).retire = s.retire := by
  have hfound := State.bytesLeave_segment hsegment
  obtain ⟨-, hstays⟩ := Segment.stored_ends hstate x.burstBytes
  refine ⟨State.sweepSegments_segment (by simpa using hfound) ?_, ?_⟩
  · rw [Port.carried_of_idle (by simp [State.bytesLeave]), Option.isSome_none, hstays, hgoes]
    rfl
  · rw [State.reportIfEnded_retire hfound, hgoes]
    simp [State.bytesLeave]

end

/-- Settles O41: the burst's words carry the segment's first bytes; after it the segment holds the others, and it is gone
with its last one. -/
theorem storedBytesReachMemory : Obligations.StoredBytesReachMemory := by
  unfold Obligations.StoredBytesReachMemory
  intro s x hlive hmem hsegment hunique hstate hflight
  obtain ⟨hheld, hblock⟩ := x.burstBytes_le
  obtain ⟨hended, -⟩ := Segment.stored_ends hstate x.burstBytes
  have hread := x.readByte_burst hmem
  refine ⟨_, exec_storeBurstEnd_eq hlive hflight rfl .completion, ?_⟩
  rw [State.storeEnds_completion]
  have hwritten : (((s.bytesLeave x).reportIfEnded x.msg).sweepSegments.presentStore).mem =
      Memory.writeWords s.mem x.burst.addr x.burst.data := by simp [State.bytesLeave, State.burstWrites]
  refine ⟨?_, fun k hk => ?_, fun a ha => ?_, by simp [State.bytesLeave], by simp [State.bytesLeave],
    by simp [State.bytesLeave], by simp [State.bytesLeave], fun hall hdue => ?_, fun hsome => ?_⟩
  · rw [State.presentStore_eq]
    simp [State.bytesLeave]
  · have hoffset : (x.next + BitVec.ofNat 32 k - x.next).toNat = k := by bv_omega
    rw [hwritten, hread, hoffset, if_pos hk, List.getElem?_eq_getElem (by omega)]
    rfl
  · rw [hwritten, hread, if_neg (by omega)]
  · rw [State.presentStore_eq]
    exact State.bytesLeave_of_last hsegment hstate hunique (hended.mpr ⟨hall, hdue⟩)
  · rw [State.presentStore_eq]
    have hgoes : (x.stored x.burstBytes).storesEnded = false := by
      rw [Bool.eq_false_iff, ne_eq, hended]
      omega
    exact (State.bytesLeave_of_more hsegment hstate hgoes).symm

end Sys2Proof.Machine


/-! PROOFS. The receiver symbol by symbol (R40 to R50, R54, R55): what each symbol does outside HALTED, the header bytes of
a frame, and how a frame that is broken off is reported. -/

namespace Sys2Proof.Machine

/-! ### A symbol outside HALTED -/

section
variable {s : State} (hreset : s.resetAsserted = false) (hnode : s.cmd.node ≠ .halted)
include hreset hnode

theorem exec_openingFlag_eq : exec .openingFlag s = .next s.takeOpening :=
  congrArg _ (State.live_onLine hreset hnode _)

theorem exec_dataSymbol_eq (b : Byte) : exec (.dataSymbol b) s = .next (s.takeData b) :=
  congrArg _ (State.live_onLine hreset hnode _)

theorem exec_closingFlag_eq : exec .closingFlag s = .next s.takeClosing :=
  congrArg _ (State.live_onLine hreset hnode _)

theorem exec_abortSymbol_eq : exec .abortSymbol s = .next s.takeAbort :=
  congrArg _ (State.live_onLine hreset hnode _)

theorem exec_symbolSilenceLimit_eq : exec .symbolSilenceLimit s = .next s.takeAbort :=
  congrArg _ (State.live_onLine hreset hnode _)

theorem exec_badSymbol_eq (p : Byte) : exec (.badSymbol p) s = .next (s.takeControl p) :=
  congrArg _ (State.live_onLine hreset hnode _)

end

/-- In HALTED the receiver acts on no symbol (R55). -/
theorem exec_symbol_of_halted {s : State} (hreset : s.resetAsserted = false) (hnode : s.cmd.node = .halted) (b p : Byte) :
    ∀ c ∈ [Instr.openingFlag, .dataSymbol b, .closingFlag, .abortSymbol, .badSymbol p, .symbolSilenceLimit],
      exec c s = .next s := by
  have hline (f : State → State) : (s.live fun t => t.onLine f) = s := by
    rw [State.live_of_not_reset hreset]
    exact if_pos hnode
  simp only [List.forall_mem_cons]
  exact ⟨congrArg _ (hline _), congrArg _ (hline _), congrArg _ (hline _), congrArg _ (hline _), congrArg _ (hline _),
    congrArg _ (hline _), by simp⟩

/-! ### With no frame open (R47) -/

section
variable {s : State} (hclosed : ∀ f, s.link.rx ≠ .receiving f)
include hclosed

theorem State.takeData_of_closed (b : Byte) : s.takeData b = s := by
  unfold State.takeData
  split
  next f hrx => exact absurd hrx (hclosed f)
  next => rfl

theorem State.takeClosing_of_closed : s.takeClosing = s := by
  unfold State.takeClosing
  split
  next f hrx => exact absurd hrx (hclosed f)
  next => rfl

theorem State.takeAbort_of_closed : s.takeAbort = s := by
  unfold State.takeAbort
  split
  next f hrx => exact absurd hrx (hclosed f)
  next => rfl

theorem State.takeBad_of_closed : s.takeBad = s := by
  unfold State.takeBad
  split
  next f hrx => exact absurd hrx (hclosed f)
  next => rfl

/-- Any control symbol but an opening flag changes nothing. -/
theorem State.takeControl_of_closed {p : Byte} (hp : p ≠ 0x5A) : s.takeControl p = s := by
  unfold State.takeControl
  split
  next hopening => exact absurd (BitVec.eq_of_toNat_eq hopening) hp
  next => exact State.takeClosing_of_closed hclosed
  next => exact State.takeAbort_of_closed hclosed
  next => exact State.takeBad_of_closed hclosed

end

/-! ### The header bytes (R45) -/

section
variable {s : State} {f : Frame} (hrx : s.link.rx = .receiving f)
include hrx

theorem State.takeData_of_open (b : Byte) : s.takeData b = s.takeByte f b := by
  simp only [State.takeData, hrx]

theorem State.takeClosing_of_own {cls : FrameClass} (hcls : f.cls = some cls) (hown : cls ≠ .foreign) :
    s.takeClosing = s.closeFrame f cls := by
  cases cls with
  | foreign => exact absurd rfl hown
  | _ => simp only [State.takeClosing, hrx, hcls]

theorem State.takeClosing_of_other (hcls : f.cls = none ∨ f.cls = some .foreign) : s.takeClosing = s.setRx .idle := by
  rcases hcls with hcls | hcls <;> simp only [State.takeClosing, hrx, hcls]

theorem State.takeAbort_of_open : s.takeAbort = s.breakFrame f := by
  simp only [State.takeAbort, hrx]

theorem State.takeBad_of_open : s.takeBad = if f.cls = some .foreign then s else s.breakFrame f := by
  simp only [State.takeBad, hrx]

theorem State.takeOpening_of_open : s.takeOpening = (s.breakFrame f).setRx (.receiving .opened) := by
  simp only [State.takeOpening, hrx]

end

/-- The class of a frame by its NODE byte (R45). -/
theorem classOf_eq (node : BitVec 6) (b : Byte) : classOf node b =
    if b.toNat = node.toNat then .addressed else if b = 63 then .broadcast else .foreign := by
  have h63 : b.toNat = 63 ↔ b = 63 := ⟨fun h => BitVec.eq_of_toNat_eq h, fun h => by rw [h]; rfl⟩
  simp only [classOf, h63]

/-- One of the first three bytes is kept, and its frame stays open (R45). -/
theorem State.takeByte_of_header (s : State) {f : Frame} (hcls : f.cls ≠ some .foreign) (hcount : f.count < 3) (b : Byte) :
    s.takeByte f b = s.setRx (.receiving (f.takeHeaderByte s.host.nodeAddress b)) := by
  have hfour : (f.takeHeaderByte s.host.nodeAddress b).count ≠ 4 := by
    change f.count + 1 ≠ 4
    omega
  unfold State.takeByte
  rw [if_neg hcls, if_pos (by omega)]
  dsimp only
  split
  · rw [if_neg hfour]
  · rw [if_neg hfour]
  · rfl

/-- Settles O17: with no frame open, in a foreign frame, and in the header of any other. -/
theorem headerByteTaken : Obligations.HeaderByteTaken := by
  unfold Obligations.HeaderByteTaken
  intro s b hreset hnode
  rw [exec_dataSymbol_eq hreset hnode]
  refine ⟨fun hclosed => ?_, fun f hrx hcls => ?_, fun f hrx hcls hcount => ?_⟩
  · rw [State.takeData_of_closed hclosed]
  · rw [State.takeData_of_open hrx, State.takeByte, if_pos hcls]
    rfl
  · rw [State.takeData_of_open hrx, State.takeByte_of_header s hcls hcount, Frame.takeHeaderByte, classOf_eq]
    rfl

end Sys2Proof.Machine


/-! PROOFS. Frames that end in error (R40, R47, R49, R50): the report, and the request that ends with the frame. -/

namespace Sys2Proof.Machine

/-! ### The report (R50) -/

theorem frameKind_of_put {b0 : Byte} (h : b0 &&& 0x7F = 1) : frameKind b0 = some .put := by
  unfold frameKind
  rw [extractLsb_toNat_eq_and_toNat, h]
  rfl

theorem frameKind_of_get {b0 : Byte} (h : b0 &&& 0x7F = 2) : frameKind b0 = some .get := by
  unfold frameKind
  rw [extractLsb_toNat_eq_and_toNat, h]
  rfl

theorem Frame.concerns_eq_some {f : Frame} {h : RequestHeader} : f.concerns = some h ↔
    f.cls = some .addressed ∧ headerOf f.header = some h ∧ (h.kind = .put ∨ h.kind = .get) ∧ h.channel.toNat ≤ 63 := by
  unfold Frame.concerns
  by_cases hcls : f.cls = some .addressed
  · rw [if_pos hcls]
    cases headerOf f.header with
    | none => simp
    | some k => grind
  · simp [hcls]

/-- The header of four bytes. -/
theorem headerOf_eq_some {bytes : List Byte} {h : RequestHeader} (hsome : headerOf bytes = some h) :
    ∃ b0 b1, bytes = [b0, b1, h.channel, h.length] ∧ frameKind b0 = some h.kind ∧ b0.getLsbD 7 = h.seq := by
  unfold headerOf at hsome
  split at hsome
  next b0 b1 b2 b3 =>
    obtain ⟨kind, hkind, rfl⟩ := Option.map_eq_some_iff.mp hsome
    exact ⟨b0, b1, rfl, hkind, rfl⟩
  next => exact absurd hsome nofun

/-- The frame concerns a message exactly when the model finds one whose entry answers with EV_ERROR set. -/
theorem State.frameConcerns_iff {s : State} {f : Frame} {e : EntryIx} {channel length : Byte} :
    s.FrameConcerns f e channel length ↔ ∃ h, f.concerns = some h ∧ h.channel = channel ∧ h.length = length ∧
      s.cache.find (channelOf channel) = some e ∧ ((s.cache.entry e).state.answers && (s.context e).evError) = true := by
  simp only [Bool.and_eq_true]
  constructor
  · rintro ⟨hcls, ⟨b0, b1, hheader, hkind⟩, hchannel, hfind, hanswers, herror⟩
    obtain ⟨k, hk, hput⟩ : ∃ k, frameKind b0 = some k ∧ (k = .put ∨ k = .get) := by
      rcases hkind with hkind | hkind
      · exact ⟨_, frameKind_of_put hkind, .inl rfl⟩
      · exact ⟨_, frameKind_of_get hkind, .inr rfl⟩
    refine ⟨⟨k, b0.getLsbD 7, channel, length⟩, Frame.concerns_eq_some.mpr ⟨hcls, ?_, hput, hchannel⟩, rfl, rfl, hfind,
      hanswers, herror⟩
    rw [hheader]
    simp [headerOf, hk]
  · rintro ⟨h, hconcerns, rfl, rfl, hfind, hanswers, herror⟩
    obtain ⟨hcls, hheader, hkind, hchannel⟩ := Frame.concerns_eq_some.mp hconcerns
    obtain ⟨b0, b1, hbytes, hk, -⟩ := headerOf_eq_some hheader
    have hnumber := number_of_frameKind_eq_some hk
    refine ⟨hcls, ⟨b0, b1, hbytes, ?_⟩, hchannel, hfind, hanswers, herror⟩
    rcases hkind with hkind | hkind <;> rw [hkind] at hnumber
    · exact .inl (BitVec.eq_of_toNat_eq hnumber)
    · exact .inr (BitVec.eq_of_toNat_eq hnumber)

theorem State.frameMessageError_of_concerns {s : State} {f : Frame} {e : EntryIx} {channel length : Byte}
    (h : s.FrameConcerns f e channel length) :
    s.frameMessageError f = s.raise .messageError channel 1 (length.setWidth 16) 0 := by
  obtain ⟨hd, hconcerns, rfl, rfl, hfind, hanswers⟩ := State.frameConcerns_iff.mp h
  simp only [State.frameMessageError, hconcerns, hfind, hanswers, if_true]
  rfl

theorem State.frameMessageError_of_not {s : State} {f : Frame}
    (h : ∀ e channel length, ¬ s.FrameConcerns f e channel length) : s.frameMessageError f = s := by
  unfold State.frameMessageError
  split
  next hd hconcerns =>
    split
    next e hfind =>
      split
      next hanswers =>
        exact absurd (State.frameConcerns_iff.mpr ⟨hd, hconcerns, rfl, rfl, hfind, hanswers⟩) (h _ _ _)
      next => rfl
    next => rfl
  next => rfl

/-- LINK_ERROR carries the counter after its increment (R50). -/
theorem State.lineError_writer (s : State) (err : LineError) : (s.lineError err).writer =
    if s.host.linkErrorEnable then s.writer.take ⟨.linkError, 0xFF, err.code, s.link.cycle, s.link.offset,
      (s.link.countLineError err).errorCounter err, 0⟩ else s.writer := by
  unfold State.lineError
  dsimp only
  split
  · cases err <;> rfl
  · rfl

theorem State.failFrame_writer_eq (s : State) (f : Frame) (err : LineError) :
    (s.failFrame f err).writer = (((s.setRx .idle).lineError err).frameMessageError f).writer := by
  unfold State.failFrame
  cases f.msg <;> simp

/-- A frame that fails is reported as R50 gives. -/
theorem State.failFrame_reported (s : State) (f : Frame) (err : LineError) :
    s.FrameErrorReported f err.code ((s.failFrame f err).link.errorCounter err) (s.failFrame f err).writer := by
  have hsame (e : EntryIx) (channel length : Byte) :
      ((s.setRx .idle).lineError err).FrameConcerns f e channel length ↔ s.FrameConcerns f e channel length := by
    simp [State.FrameConcerns, State.context]
  have hstamp : ((s.setRx .idle).lineError err).link.cycle = s.link.cycle ∧
      ((s.setRx .idle).lineError err).link.offset = s.link.offset := by
    cases err <;> simp [Link.countLineError]
  have hw := State.lineError_writer (s.setRx .idle) err
  rw [State.FrameErrorReported, State.failFrame_writer_eq, State.failFrame_link]
  refine ⟨fun e channel length hconcerns => ?_, fun hnot => ?_⟩
  · rw [State.frameMessageError_of_concerns ((hsame ..).mpr hconcerns)]
    simp only [State.raise, Link.stamped, hw, hstamp]
    rfl
  · rw [State.frameMessageError_of_not fun e channel length => (hsame ..).not.mpr (hnot _ _ _)]
    exact hw

/-! ### The request of a frame that fails, and the rest of the state -/

/-- The request whose frame fails ends (R48). -/
theorem State.failFrame_engine {s : State} {f : Frame} {r : Request} (hmsg : f.msg = some r.msg)
    (hengine : s.engine = some r) (err : LineError) : (s.failFrame f err).engine = none := by
  simp [State.failFrame, hmsg, State.requestFails, hengine]

/-- A frame that carries no message changes nothing but the link interface and the events. -/
theorem State.failFrame_of_no_message {s : State} {f : Frame} (hmsg : f.msg = none) (err : LineError) :
    s.failFrame f err = { s with link := (s.failFrame f err).link, writer := (s.failFrame f err).writer } := by
  have hline : (s.setRx .idle).lineError err = { s with
      link := ((s.setRx .idle).lineError err).link, writer := ((s.setRx .idle).lineError err).writer } := by
    unfold State.lineError
    dsimp only
    split <;> rfl
  have hmessage (t : State) : t.frameMessageError f = { t with writer := (t.frameMessageError f).writer } := by
    unfold State.frameMessageError
    repeat' split
    all_goals rfl
  simp only [State.failFrame, hmsg]
  rw [hmessage, hline]

/-- A frame whose header is not complete concerns no message (R50). -/
theorem Frame.concerns_of_short {f : Frame} (h : f.header.length < 4) : f.concerns = none := by
  refine Option.eq_none_iff_forall_ne_some.mpr fun hd hconcerns => ?_
  obtain ⟨-, hheader, -⟩ := Frame.concerns_eq_some.mp hconcerns
  obtain ⟨b0, b1, hbytes, -⟩ := headerOf_eq_some hheader
  rw [hbytes] at h
  exact absurd h (by simp)

/-! ### Frames that are broken off (R40, R47) -/

theorem State.breakFrame_of_own {f : Frame} (hcls : f.cls = some .addressed ∨ f.cls = some .broadcast) (s : State) :
    s.breakFrame f = s.failFrame f .frame := by
  rcases hcls with hcls | hcls <;> simp only [State.breakFrame, hcls]

theorem State.breakFrame_of_other {f : Frame} (hcls : f.cls = none ∨ f.cls = some .foreign) (s : State) :
    s.breakFrame f = s.setRx .idle := by
  rcases hcls with hcls | hcls <;> simp only [State.breakFrame, hcls]

theorem State.setRx_of_eq {s : State} {rx : Receiver} (h : s.link.rx = rx) : s.setRx rx = s := by
  subst h
  rfl

/-- A symbol of Table 3-1 with an undefined payload. -/
theorem State.takeControl_of_bad {p : Byte} (hopening : p ≠ 0x5A) (hclosing : p ≠ 0xA5) (habort : p ≠ 0x00) (s : State) :
    s.takeControl p = s.takeBad :=
  State.takeControl_of_undefined (by simpa [Instr.wellFormed] using ⟨⟨hopening, hclosing⟩, habort⟩) s

/-- How a frame of this node is broken off: after it the receiver is in `IDLE`, or has a new frame open. -/
theorem exec_breaks {s : State} {f : Frame} {p : Byte} (hreset : s.resetAsserted = false)
    (hnode : s.cmd.node ≠ .halted) (hrx : s.link.rx = .receiving f) (hopening : p ≠ 0x5A) (hclosing : p ≠ 0xA5)
    (habort : p ≠ 0x00) (hcls : f.cls = some .addressed ∨ f.cls = some .broadcast) :
    ∀ c ∈ [Instr.abortSymbol, .symbolSilenceLimit, .openingFlag, .badSymbol p], exec c s =
      .next ((s.failFrame f .frame).setRx (if c = .openingFlag then .receiving .opened else .idle)) := by
  have hbreak := s.breakFrame_of_own hcls
  have hidle : (s.failFrame f .frame).setRx .idle = s.failFrame f .frame :=
    State.setRx_of_eq (by rw [State.failFrame_link]; rfl)
  have hforeign : f.cls ≠ some .foreign := by rcases hcls with hcls | hcls <;> simp [hcls]
  simp only [List.forall_mem_cons, if_true, reduceCtorEq, if_false, hidle]
  refine ⟨?_, ?_, ?_, ?_, by simp⟩
  · rw [exec_abortSymbol_eq hreset hnode, State.takeAbort_of_open hrx, hbreak]
  · rw [exec_symbolSilenceLimit_eq hreset hnode, State.takeAbort_of_open hrx, hbreak]
  · rw [exec_openingFlag_eq hreset hnode, State.takeOpening_of_open hrx, hbreak]
  · rw [exec_badSymbol_eq hreset hnode, State.takeControl_of_bad hopening hclosing habort, State.takeBad_of_open hrx,
      if_neg hforeign, hbreak]

/-- Settles O16, by the receiver's state and the class of the open frame. -/
theorem framesOpenAndBreak : Obligations.FramesOpenAndBreak := by
  unfold Obligations.FramesOpenAndBreak
  refine ⟨fun s hreset => ⟨fun hnode => exec_symbol_of_halted hreset hnode, fun hnode => ⟨?_, ?_, ?_, ?_⟩⟩,
    fun s f p hreset hnode hrx hopening hclosing habort => ⟨fun hcls c hc => ?_, fun hcls => ⟨?_, ?_⟩, fun hcls => ?_⟩⟩
  · rw [exec_openingFlag_eq hreset hnode]
    rintro (hidle | ⟨f, hrx, hcls⟩)
    · simp only [State.takeOpening, hidle]
      rfl
    · rw [State.takeOpening_of_open hrx, State.breakFrame_of_other hcls]
      rfl
  · intro tx hrx
    rw [exec_openingFlag_eq hreset hnode]
    simp only [State.takeOpening, hrx]
  · intro hrx
    have hearly : s.takeOpening = s.lineError .earlyRequest := by
      rcases hrx with hrx | ⟨o, p, hrx⟩ <;> simp only [State.takeOpening, hrx]
    refine ⟨saturate s.link.frameErrors 1, saturate_one_toNat _, ?_⟩
    rw [exec_openingFlag_eq hreset hnode, hearly, State.lineError]
    dsimp only
    split <;> rfl
  · intro hclosed p hp
    simp only [List.forall_mem_cons]
    rw [exec_closingFlag_eq hreset hnode, exec_abortSymbol_eq hreset hnode, exec_badSymbol_eq hreset hnode,
      exec_symbolSilenceLimit_eq hreset hnode, State.takeClosing_of_closed hclosed, State.takeAbort_of_closed hclosed,
      State.takeControl_of_closed hclosed hp]
    simp
  · rw [exec_breaks hreset hnode hrx hopening hclosing habort hcls c hc]
    have hreported := s.failFrame_reported f .frame
    have hlink := s.failFrame_link f .frame
    refine ⟨_, rfl, rfl, ?_, ?_, by simp, by simp, by simp, hreported, fun hmsg hshort => ?_, fun r hmsg hengine =>
      State.failFrame_engine hmsg hengine .frame⟩
    · simp only [State.setRx_link, hlink]
      exact saturate_one_toNat _
    · simp only [State.setRx_link, hlink]
      rfl
    · rw [State.failFrame_of_no_message hmsg, State.failFrame_writer (Frame.concerns_of_short hshort),
        State.lineError_writer_of_frame]
      simp only [hlink]
      rfl
  · rw [List.forall_mem_cons, List.forall_mem_singleton, exec_abortSymbol_eq hreset hnode,
      exec_symbolSilenceLimit_eq hreset hnode, State.takeAbort_of_open hrx, State.breakFrame_of_other hcls]
    exact ⟨rfl, rfl⟩
  · rw [exec_badSymbol_eq hreset hnode, State.takeControl_of_bad hopening hclosing habort, State.takeBad_of_open hrx,
      State.breakFrame_of_other hcls]
    split <;> rfl
  · rw [exec_closingFlag_eq hreset hnode, State.takeClosing_of_other hrx hcls]
    rfl

end Sys2Proof.Machine


/-! PROOFS. The closing flag (R48, R49, R50, R55, R60, R81). -/

namespace Sys2Proof.Machine

/-! ### Message errors that count (R10, R82), and the end of a request (R64) -/

/-- A message error on entry `e` counts in its context, and is reported when EV_ERROR is set. -/
theorem State.countError_eq {s : State} {r : Request} {e : EntryIx} (h : r.entry = some e) (detail : ErrorDetail)
    (aux32 : Word) : s.countError r detail aux32 = { s with
      cache := s.cache.change e Descriptor.countError
      writer := if (s.context e).evError then s.writer.take ⟨.messageError, channelByte r.channel, detail.code,
        s.link.cycle, s.link.offset, r.length.setWidth 16, aux32⟩ else s.writer } := by
  have henable : ((s.changeContext e Descriptor.countError).context e).evError = (s.context e).evError := by
    simp only [State.context, State.changeContext, Cache.entry_change, if_true]
    rfl
  simp only [State.countError, State.requestError, h, henable]
  split <;> rfl

theorem State.countError_context {s : State} {r : Request} {e : EntryIx} (h : r.entry = some e) (detail : ErrorDetail)
    (aux32 : Word) :
    (s.countError r detail aux32).context e = (s.context e).setErrCount ((s.context e).errCount + 1) := by
  rw [State.countError_eq h]
  simp only [State.context, Cache.entry_change, if_true]
  rfl

theorem Cache.setInUse_context (c : Cache) (e g : EntryIx) (b : Bool) :
    ((c.setInUse e b).entry g).context = (c.entry g).context ∧ ((c.setInUse e b).entry g).state = (c.entry g).state := by
  rw [Cache.entry_setInUse]
  split
  next h => subst h; exact ⟨rfl, rfl⟩
  next => exact ⟨rfl, rfl⟩

/-- The end of a request changes no context and no entry's state (R64). -/
theorem State.endRequest_context (s : State) (r : Request) (g : EntryIx) :
    (s.endRequest r).context g = s.context g ∧ ((s.endRequest r).cache.entry g).state = (s.cache.entry g).state := by
  rw [State.context, State.endRequest_cache]
  split
  next e _ => exact s.cache.setInUse_context e g false
  next => exact ⟨rfl, rfl⟩

/-! ### A frame that fails at its end -/

theorem headerOf_of_short {bytes : List Byte} (h : bytes.length < 4) : headerOf bytes = none := by
  refine Option.eq_none_iff_forall_ne_some.mpr fun hd hsome => ?_
  obtain ⟨b0, b1, rfl, -⟩ := headerOf_eq_some hsome
  exact absurd h (by simp)

theorem State.takeClosing_of_owned {s : State} {f : Frame} (hrx : s.link.rx = .receiving f)
    (hcls : f.cls = some .addressed ∨ f.cls = some .broadcast) :
    ∃ cls, f.cls = some cls ∧ s.takeClosing = s.closeFrame f cls := by
  rcases hcls with hcls | hcls
  · exact ⟨_, hcls, State.takeClosing_of_own hrx hcls nofun⟩
  · exact ⟨_, hcls, State.takeClosing_of_own hrx hcls nofun⟩

/-- What a frame error leaves, as the statements say it (R50). -/
theorem State.failFrame_as_frame_error (s : State) (f : Frame) :
    let t := s.failFrame f .frame
    t.link = { s.link with rx := .idle, frameErrors := t.link.frameErrors } ∧
      t.link.frameErrors.toNat = min 65535 (s.link.frameErrors.toNat + 1) ∧ t.mem = s.mem ∧ t.status = s.status ∧
      t.retire = s.retire ∧ s.FrameErrorReported f 2 t.link.frameErrors t.writer := by
  have hlink := s.failFrame_link f .frame
  refine ⟨by rw [hlink]; rfl, ?_, by simp, by simp, by simp, s.failFrame_reported f .frame⟩
  rw [hlink]
  exact saturate_one_toNat _

/-- What a CRC error leaves, as the statements say it (R50). -/
theorem State.failFrame_as_crc_error (s : State) (f : Frame) :
    let t := s.failFrame f .crc
    t.link = { s.link with rx := .idle, crcErrors := t.link.crcErrors } ∧
      t.link.crcErrors.toNat = min 65535 (s.link.crcErrors.toNat + 1) ∧ t.mem = s.mem ∧ t.status = s.status ∧
      t.retire = s.retire ∧ s.FrameErrorReported f 1 t.link.crcErrors t.writer := by
  have hlink := s.failFrame_link f .crc
  refine ⟨by rw [hlink]; rfl, ?_, by simp, by simp, by simp, s.failFrame_reported f .crc⟩
  rw [hlink]
  exact saturate_one_toNat _

/-- A closing flag before the fourth header byte, and a data symbol past the expected length, fail the frame (R47, R49). -/
theorem exec_fails_of_length {s : State} {f : Frame} {c : Instr} (hreset : s.resetAsserted = false)
    (hnode : s.cmd.node ≠ .halted) (hrx : s.link.rx = .receiving f)
    (hcls : f.cls = some .addressed ∨ f.cls = some .broadcast)
    (h : (c = .closingFlag ∧ f.header.length < 4) ∨ (∃ h b, c = .dataSymbol b ∧ headerOf f.header = some h ∧
      4 + h.kind.bodyLength h.length + 2 ≤ f.count)) : exec c s = .next (s.failFrame f .frame) := by
  rcases h with ⟨rfl, hshort⟩ | ⟨h, b, rfl, hheader, hlong⟩
  · obtain ⟨cls, -, hclose⟩ := State.takeClosing_of_owned hrx hcls
    rw [exec_closingFlag_eq hreset hnode, hclose, State.closeFrame, headerOf_of_short hshort]
  · have hforeign : f.cls ≠ some .foreign := by rcases hcls with hcls | hcls <;> simp [hcls]
    rw [exec_dataSymbol_eq hreset hnode, State.takeData_of_open hrx, State.takeByte, if_neg hforeign, if_neg (by omega),
      State.takeBodyByte, hheader]
    dsimp only
    rw [if_neg (by omega), if_neg (by omega)]

/-! ### A good close (R48, R49) -/

/-- The message's frame has closed good: the request is told, and a broadcast that awaits its end has it (R48, R81). -/
theorem State.requestCloses_eq {s : State} {r : Request} (hengine : s.engine = some r) :
    s.requestCloses r.msg =
      ({ s.endSegmentFrame r.msg with engine := some { r with closed := true } } : State).settleBroadcast := by
  simp [State.requestCloses, hengine]

/-- A request that is no broadcast in AWAIT_READY goes on with its frame closed. -/
theorem State.settleBroadcast_of_waiting {s : State} {r : Request} (hengine : s.engine = some r)
    (h : r.broadcast = false ∨ r.phase ≠ .awaitReady) : s.settleBroadcast = s := by
  simp only [State.settleBroadcast, hengine]
  rw [if_neg]
  rintro ⟨hbroadcast, -, hphase⟩
  rcases h with h | h
  · rw [hbroadcast] at h
    exact Bool.noConfusion h
  · exact h hphase

/-- A broadcast in AWAIT_READY whose frame has closed ends; a drop that counts is counted first (R81). -/
theorem State.settleBroadcast_of_closed {s : State} {r : Request} (hengine : s.engine = some r)
    (hbroadcast : r.broadcast = true) (hclosed : r.closed = true) (hphase : r.phase = .awaitReady) :
    s.settleBroadcast =
      (if r.verdict = .dropped true then s.countError r .broadcastDropped 0 else s).endRequest r := by
  simp only [State.settleBroadcast, hengine]
  rw [if_pos ⟨hbroadcast, hclosed, hphase⟩]

theorem State.settleBroadcast_of_uncounted {s : State} {r : Request} (hengine : s.engine = some r)
    (hbroadcast : r.broadcast = true) (hclosed : r.closed = true) (hphase : r.phase = .awaitReady)
    (hverdict : r.verdict ≠ .dropped true) : s.settleBroadcast = s.endRequest r := by
  rw [State.settleBroadcast_of_closed hengine hbroadcast hclosed hphase, if_neg hverdict]

theorem State.settleBroadcast_of_counted {s : State} {r : Request} (hengine : s.engine = some r)
    (hbroadcast : r.broadcast = true) (hclosed : r.closed = true) (hphase : r.phase = .awaitReady)
    (hverdict : r.verdict = .dropped true) :
    s.settleBroadcast = (s.countError r .broadcastDropped 0).endRequest r := by
  rw [State.settleBroadcast_of_closed hengine hbroadcast hclosed hphase, if_pos hverdict]

/-- The drop that counts, on the entry the broadcast works on (R81). -/
theorem State.settleBroadcast_reports {s : State} {r : Request} {e : EntryIx} (hengine : s.engine = some r)
    (hbroadcast : r.broadcast = true) (hclosed : r.closed = true) (hphase : r.phase = .awaitReady)
    (hverdict : r.verdict = .dropped true) (hentry : r.entry = some e) :
    s.settleBroadcast.context e = (s.context e).setErrCount ((s.context e).errCount + 1) ∧
      s.settleBroadcast.writer = (if (s.context e).evError then s.writer.take ⟨.messageError, channelByte r.channel, 8,
        s.link.cycle, s.link.offset, r.length.setWidth 16, 0⟩ else s.writer) ∧
      (s.settleBroadcast.cache.entry e).inUse = false := by
  rw [State.settleBroadcast_of_counted hengine hbroadcast hclosed hphase hverdict]
  refine ⟨?_, ?_, ?_⟩
  · rw [(State.endRequest_context ..).1, State.countError_context hentry]
  · rw [(State.endRequest_frame ..).2.2.2.2.2.2.1, State.countError_eq hentry]
    rfl
  · rw [State.endRequest_cache, hentry]
    simp only [Cache.entry_setInUse, if_true]

/-- A closing flag at the expected length with the right CRC closes the frame good (R49). -/
theorem exec_closingFlag_of_good {s : State} {f : Frame} {h : RequestHeader} {cls : FrameClass}
    (hreset : s.resetAsserted = false) (hnode : s.cmd.node ≠ .halted) (hrx : s.link.rx = .receiving f)
    (hcls : f.cls = some cls) (hown : cls ≠ .foreign) (hheader : headerOf f.header = some h)
    (hcount : f.count = 4 + h.kind.bodyLength h.length + 2)
    (hcrc : f.crcBytes = [f.crc.extractLsb' 0 8, f.crc.extractLsb' 8 8]) :
    exec .closingFlag s = .next (s.goodClose f cls h) := by
  rw [exec_closingFlag_eq hreset hnode, State.takeClosing_of_own hrx hcls hown, State.closeFrame, hheader]
  dsimp only
  exact congrArg _ ((if_neg (not_not.mpr hcount)).trans (if_neg (not_not.mpr hcrc)))

section
variable {f : Frame} {h : RequestHeader} (hkind : h.kind = .put ∨ h.kind = .get)
include hkind

/-- The good close of a PUT or GET tells its message's request (R48). -/
theorem State.goodClose_of_message {m : Nat} (hmsg : f.msg = some m) (s : State) (cls : FrameClass) :
    s.goodClose f cls h = (s.afterClose cls .engine h).requestCloses m := by
  rcases hkind with hkind | hkind <;> simp only [State.goodClose, hkind, hmsg]

/-- A PUT or GET that was not handed over is answered BUSY (R55). -/
theorem State.goodClose_of_no_message (hmsg : f.msg = none) (s : State) (cls : FrameClass) :
    s.goodClose f cls h = s.afterClose cls .stoppingBusy h := by
  rcases hkind with hkind | hkind <;> simp only [State.goodClose, hkind, hmsg]

end

/-- The good close of an addressed message's frame, or of a broadcast that still waits for its outcome. -/
theorem State.requestCloses_of_waiting {s : State} {r : Request} (hengine : s.engine = some r)
    (h : r.broadcast = false ∨ r.phase ≠ .awaitReady) :
    let t := s.requestCloses r.msg
    t.engine = some { r with closed := true } ∧ t.link = s.link ∧ t.mem = s.mem ∧ t.cache = s.cache ∧
      t.status = s.status ∧ t.retire = s.retire ∧ t.writer = s.writer := by
  rw [State.requestCloses_eq hengine, State.settleBroadcast_of_waiting (r := { r with closed := true }) rfl h]
  simp

/-- The good close of a broadcast whose outcome is decided (R81). -/
theorem State.requestCloses_of_decided {s : State} {r : Request} (hengine : s.engine = some r)
    (hbroadcast : r.broadcast = true) (hphase : r.phase = .awaitReady) :
    let t := s.requestCloses r.msg
    t.engine = none ∧
      (∀ e, r.verdict = .dropped true → r.entry = some e →
        t.context e = (s.context e).setErrCount ((s.context e).errCount + 1) ∧
        t.writer = if (s.context e).evError then s.writer.take ⟨.messageError, channelByte r.channel, 8, s.link.cycle,
          s.link.offset, r.length.setWidth 16, 0⟩ else s.writer) ∧
      (r.verdict ≠ .dropped true → t.writer = s.writer ∧ ∀ e : EntryIx, t.context e = s.context e) := by
  rw [State.requestCloses_eq hengine]
  refine ⟨?_, fun e hverdict hentry => ?_, fun hverdict => ?_⟩
  · rw [State.settleBroadcast_of_closed (r := { r with closed := true }) rfl hbroadcast rfl hphase, State.endRequest_engine]
  · obtain ⟨hcontext, hwriter, -⟩ := State.settleBroadcast_reports (r := { r with closed := true }) (e := e)
      (s := { s.endSegmentFrame r.msg with engine := some { r with closed := true } }) rfl hbroadcast rfl hphase hverdict
      hentry
    refine ⟨hcontext.trans ?_, hwriter.trans ?_⟩
    · simp only [State.context, State.endSegmentFrame_frame]
    · simp only [State.context, State.endSegmentFrame_frame]
      rfl
  · rw [State.settleBroadcast_of_uncounted (r := { r with closed := true }) rfl hbroadcast rfl hphase hverdict]
    refine ⟨by simp, fun e => ?_⟩
    rw [(State.endRequest_context ..).1]
    simp [State.context]

/-- A good NODE_RESET (R60). -/
theorem State.goodClose_of_nodeReset (s : State) (f : Frame) (cls : FrameClass) {h : RequestHeader}
    (hkind : h.kind = .nodeReset) : s.goodClose f cls h = { s.clearSeqValid with
      link := { s.link with
        cycle := 0, offset := 0
        rx := if cls = .addressed then .replyWait ⟨.nodeReset, h.seq, h.channel⟩ .closed else .idle }
      writer := if s.host.linkResetEnable then
        s.writer.take ⟨.linkReset, 0xFF, if cls = .addressed then 1 else 2, 0, 0, 0, 0⟩ else s.writer } := by
  have hhost : (s.afterClose cls .nodeReset h).host = s.host := by simp
  have hafter : s.afterClose cls .nodeReset h =
      s.setRx (if cls = .addressed then .replyWait ⟨.nodeReset, h.seq, h.channel⟩ .closed else .idle) := by
    unfold State.afterClose
    split <;> rfl
  simp only [State.goodClose, hkind, State.nodeResetCloses, hhost]
  rw [hafter]
  split <;> rfl

/-- Settles O23: a frame that ends wrong is failed; a good close goes to the kind of frame that closes. -/
theorem closingFlagServed : Obligations.ClosingFlagServed := by
  unfold Obligations.ClosingFlagServed
  refine ⟨fun s f hreset hnode hrx hcls c hc => ?_, fun s f h hreset hnode hrx hcls hheader => ⟨fun hcount => ?_,
    fun hcount hcrc => ?_⟩, fun s f h hreset hnode hrx hheader hcount hcrc => ⟨fun r hkind hcls hmsg hengine hnot => ?_,
    fun r hkind hcls hmsg hengine hbroadcast => ?_, fun hkind hmsg => ⟨fun hcls => ?_, fun hcls => ?_⟩,
    fun hkind hcls => ?_⟩⟩
  · obtain ⟨hlink, hcounter, hmem, hstatus, hretire, hreported⟩ := s.failFrame_as_frame_error f
    exact ⟨_, exec_fails_of_length hreset hnode hrx hcls hc, hlink, hcounter, hmem, hstatus, hretire, hreported,
      fun hmsg => State.failFrame_of_no_message hmsg .frame,
      fun r hmsg hengine => State.failFrame_engine hmsg hengine .frame⟩
  · obtain ⟨hlink, hcounter, hmem, hstatus, hretire, hreported⟩ := s.failFrame_as_frame_error f
    obtain ⟨cls, -, hclose⟩ := State.takeClosing_of_owned hrx hcls
    refine ⟨s.failFrame f .frame, ?_, hlink, hcounter, hmem, hstatus, hretire, hreported,
      fun r hmsg hengine => State.failFrame_engine hmsg hengine .frame⟩
    rw [exec_closingFlag_eq hreset hnode, hclose, State.closeFrame, hheader]
    exact congrArg _ (if_pos hcount)
  · obtain ⟨hlink, hcounter, hmem, hstatus, hretire, hreported⟩ := s.failFrame_as_crc_error f
    obtain ⟨cls, -, hclose⟩ := State.takeClosing_of_owned hrx hcls
    refine ⟨s.failFrame f .crc, ?_, hlink, hcounter, hmem, hstatus, hretire, hreported,
      fun r hmsg hengine => State.failFrame_engine hmsg hengine .crc⟩
    rw [exec_closingFlag_eq hreset hnode, hclose, State.closeFrame, hheader]
    exact congrArg _ ((if_neg (not_not.mpr hcount)).trans (if_pos hcrc))
  · refine ⟨_, exec_closingFlag_of_good hreset hnode hrx hcls nofun hheader hcount hcrc, ?_⟩
    rw [State.goodClose_of_message hkind hmsg]
    obtain ⟨hengine', hlink, hmem, hcache, hstatus, hretire, hwriter⟩ :=
      State.requestCloses_of_waiting (s := s.afterClose .addressed .engine h) hengine (.inl hnot)
    exact ⟨hlink, hengine', hmem, hcache, hstatus, hretire, hwriter⟩
  · refine ⟨_, exec_closingFlag_of_good hreset hnode hrx hcls nofun hheader hcount hcrc, ?_⟩
    rw [State.goodClose_of_message (.inl hkind) hmsg]
    refine ⟨(State.requestCloses_frame ..).2.2.2.1, by simp, by simp, by simp, fun hphase => ?_,
      fun hphase => State.requestCloses_of_decided (s := s.afterClose .broadcast .engine h) hengine hbroadcast hphase⟩
    obtain ⟨hengine', -, -, hcache, -, -, hwriter⟩ :=
      State.requestCloses_of_waiting (s := s.afterClose .broadcast .engine h) hengine (.inr hphase)
    exact ⟨hengine', hcache, hwriter⟩
  · rw [exec_closingFlag_of_good hreset hnode hrx hcls nofun hheader hcount hcrc,
      State.goodClose_of_no_message hkind hmsg]
    rfl
  · rw [exec_closingFlag_of_good hreset hnode hrx hcls nofun hheader hcount hcrc,
      State.goodClose_of_no_message hkind hmsg]
    rfl
  · obtain ⟨cls, hcls', hown⟩ : ∃ cls, f.cls = some cls ∧ cls ≠ .foreign := by
      rcases hcls with hcls | hcls
      · exact ⟨_, hcls, nofun⟩
      · exact ⟨_, hcls, nofun⟩
    have hsome : (f.cls = some .addressed) = (cls = .addressed) := by rw [hcls', Option.some.injEq]
    refine ⟨_, exec_closingFlag_of_good hreset hnode hrx hcls' hown hheader hcount hcrc, ?_⟩
    rw [State.goodClose_of_nodeReset s f cls hkind]
    simp only [hsome]
    exact ⟨trivial, rfl, s.record_clearSeqValid⟩

end Sys2Proof.Machine


/-! PROOFS. Whole frames, symbol by symbol (R39 to R49): a run over the symbols of a SYNC (R57), and over a PROBE and its
STATUS reply (R52 to R54, R56, R59). -/

namespace Sys2Proof.Machine

/-! ### Bytes past the header (R48, R49) -/

section
variable (s : State) {f : Frame} {h : RequestHeader} (hforeign : f.cls ≠ some .foreign)
  (hheader : headerOf f.header = some h) (hmin : 4 ≤ f.count) (b : Byte)
include hforeign hheader hmin

/-- A body byte counts and enters the CRC, and goes to the message of the frame, if it carries one. -/
theorem State.takeByte_of_body (hmax : f.count < 4 + h.kind.bodyLength h.length) :
    let taken := s.setRx (.receiving { f with
      count := f.count + 1, crc := crcByte f.crc b
      syncBody := if h.kind = .sync then f.syncBody ++ [b] else f.syncBody })
    (f.msg = none → s.takeByte f b = taken) ∧ ∀ m, f.msg = some m → s.takeByte f b = taken.stageByte m b := by
  have hbody : ¬ f.count < 4 := by omega
  rw [State.takeByte, if_neg hforeign, if_neg hbody, State.takeBodyByte, hheader]
  dsimp only
  rw [if_pos hmax]
  refine ⟨fun hmsg => ?_, fun m hmsg => ?_⟩ <;> simp only [hmsg]

/-- A CRC byte is held. -/
theorem State.takeByte_of_crc (hbody : 4 + h.kind.bodyLength h.length ≤ f.count)
    (hmax : f.count < 4 + h.kind.bodyLength h.length + 2) :
    s.takeByte f b = s.setRx (.receiving { f with count := f.count + 1, crcBytes := f.crcBytes ++ [b] }) := by
  rw [State.takeByte, if_neg hforeign, if_neg (by omega), State.takeBodyByte, hheader]
  dsimp only
  rw [if_neg (by omega), if_pos (by omega)]

end

/-! ### Runs -/

/-- `k` steps of the block from `s`. -/
def runFrom (k : Nat) (s : State) : Host.Outcome State Fault Refusal := Sys2Proof.core.run k s

/-- A run carries out the command at the front of the queue first. -/
theorem core_run_succ {s t : State} {c : Instr} {q : List Instr} (hpending : s.pending = c :: q)
    (hexec : exec c (s.withPending q) = .next t) (k : Nat) :
    runFrom (k + 1) s = runFrom k t := by
  have hstep : Sys2Proof.core.step s = .next t := by
    change step s = .next t
    simp only [step, hpending, hexec]
  simp only [runFrom, Host.Core.run, hstep]
  rfl

/-- `s` with its receiver in `rx` and the commands `q` waiting. -/
def State.awaits (s : State) (rx : Receiver) (q : List Instr) : State := (s.setRx rx).withPending q

section
variable {s : State} (hreset : s.resetAsserted = false) (hnode : s.cmd.node ≠ .halted) (q : List Instr) (k : Nat)
include hreset hnode

/-- An opening flag in IDLE, in a run. -/
theorem run_opening : runFrom (k + 1) (s.awaits .idle (.openingFlag :: q)) =
    runFrom k (s.awaits (.receiving .opened) q) :=
  core_run_succ (s := s.awaits .idle (.openingFlag :: q)) rfl
    (exec_openingFlag_eq (s := s.awaits .idle q) hreset hnode) k

/-- A data symbol in an open frame, in a run. -/
theorem run_dataSymbol (f : Frame) (b : Byte) {t : State} (htake : (s.awaits (.receiving f) q).takeByte f b = t) :
    runFrom (k + 1) (s.awaits (.receiving f) (.dataSymbol b :: q)) = runFrom k t := by
  refine core_run_succ (t := t) (q := q) rfl ?_ k
  refine (exec_dataSymbol_eq (s := s.awaits (.receiving f) q) hreset hnode b).trans (congrArg _ ?_)
  exact (State.takeData_of_open rfl b).trans htake

/-- A byte of the first three of a header, in a run. -/
theorem run_header_byte {f : Frame} (hcls : f.cls ≠ some .foreign) (hcount : f.count < 3) (b : Byte) :
    runFrom (k + 1) (s.awaits (.receiving f) (.dataSymbol b :: q)) =
      runFrom k (s.awaits (.receiving (f.takeHeaderByte s.host.nodeAddress b)) q) :=
  run_dataSymbol hreset hnode q k f b (State.takeByte_of_header _ hcls hcount b)

end

/-- A frame of this node whose header is complete and carries no message. -/
def Frame.headed (header : List Byte) (cls : FrameClass) : Frame := ⟨header, 4, some cls, crcOf header, [], [], none⟩

/-- A good header that names no message leaves its frame open (R46). -/
theorem State.headerComplete_of_other (s : State) {f : Frame} {cls : FrameClass} {h : RequestHeader}
    (hheader : headerOf f.header = some h) (hgood : h.good cls = true) (hkind : h.kind.msgKind = none) :
    s.headerComplete f cls = s.setRx (.receiving f) := by
  simp [State.headerComplete, hheader, hgood, hkind]

/-- The fourth byte of a frame of this node goes to the header check (R46). -/
theorem State.takeByte_of_fourth (s : State) {f : Frame} {cls : FrameClass} (hcls : f.cls = some cls)
    (hown : cls ≠ .foreign) (hcount : f.count = 3) (b : Byte) :
    s.takeByte f b = s.headerComplete (f.takeHeaderByte s.host.nodeAddress b) cls := by
  have hkeep : (f.takeHeaderByte s.host.nodeAddress b).cls = some cls := by
    simp [Frame.takeHeaderByte, hcount, hcls]
  have hfour : (f.takeHeaderByte s.host.nodeAddress b).count = 4 := congrArg (· + 1) hcount
  unfold State.takeByte
  rw [if_neg (by simpa [hcls] using hown), if_pos (by omega)]
  dsimp only
  rw [hkeep]
  cases cls with
  | foreign => exact absurd rfl hown
  | _ => exact if_pos hfour

section
variable {s : State} (hreset : s.resetAsserted = false) (hnode : s.cmd.node ≠ .halted) (q : List Instr) (k : Nat)
include hreset hnode

/-- An opening flag and the four bytes of a good header that names no message, in a run (R45, R46, R47). -/
theorem run_header {b0 b1 b2 b3 : Byte} {cls : FrameClass} {h : RequestHeader}
    (hcls : classOf s.host.nodeAddress b1 = cls) (hown : cls ≠ .foreign) (hheader : headerOf [b0, b1, b2, b3] = some h)
    (hgood : h.good cls = true) (hkind : h.kind.msgKind = none) :
    runFrom (k + 5) (s.awaits .idle (.openingFlag :: .dataSymbol b0 :: .dataSymbol b1 :: .dataSymbol b2 ::
        .dataSymbol b3 :: q)) =
      runFrom k (s.awaits (.receiving (.headed [b0, b1, b2, b3] cls)) q) := by
  subst hcls
  rw [run_opening hreset hnode _ (k + 4),
    run_header_byte hreset hnode _ (k + 3) (by simp [Frame.opened]) (by simp [Frame.opened]),
    run_header_byte hreset hnode _ (k + 2) (by simp [Frame.takeHeaderByte, Frame.opened])
      (by simp [Frame.takeHeaderByte, Frame.opened]),
    run_header_byte hreset hnode _ (k + 1) (by simpa [Frame.takeHeaderByte, Frame.opened] using hown)
      (by simp [Frame.takeHeaderByte, Frame.opened])]
  refine run_dataSymbol hreset hnode q k _ b3 ?_
  rw [State.takeByte_of_fourth (cls := classOf s.host.nodeAddress b1) _ rfl hown rfl]
  exact State.headerComplete_of_other _ hheader hgood hkind

/-- The CRC bytes and the closing flag of a frame whose body is complete, in a run (R48, R49). -/
theorem run_close {f : Frame} {cls : FrameClass} {h : RequestHeader} (hcls : f.cls = some cls) (hown : cls ≠ .foreign)
    (hheader : headerOf f.header = some h) (hcount : f.count = 4 + h.kind.bodyLength h.length) (hempty : f.crcBytes = []) :
    runFrom (k + 3) (s.awaits (.receiving f) (.dataSymbol (f.crc.extractLsb' 0 8) ::
        .dataSymbol (f.crc.extractLsb' 8 8) :: .closingFlag :: q)) =
      let closed : Frame := { f with
        count := f.count + 2, crcBytes := [f.crc.extractLsb' 0 8, f.crc.extractLsb' 8 8] }
      runFrom k ((s.awaits (.receiving closed) q).goodClose closed cls h) := by
  have hforeign : f.cls ≠ some .foreign := by simpa [hcls] using hown
  let held : Frame := { f with count := f.count + 1, crcBytes := f.crcBytes ++ [f.crc.extractLsb' 0 8] }
  rw [run_dataSymbol hreset hnode _ (k + 2) f _
    (State.takeByte_of_crc _ hforeign hheader (by omega) _ (by omega) (by omega))]
  refine (run_dataSymbol hreset hnode _ (k + 1) held _ (State.takeByte_of_crc (f := held) _ hforeign hheader
    (by simp only [held]; omega) _ (by simp only [held]; omega) (by simp only [held]; omega))).trans ?_
  simp only [held]
  rw [hempty]
  refine core_run_succ (q := q) rfl ?_ k
  exact exec_closingFlag_of_good (s := s.awaits (.receiving { f with
    count := f.count + 2, crcBytes := [f.crc.extractLsb' 0 8, f.crc.extractLsb' 8 8] }) q) hreset hnode rfl hcls hown
    hheader (by simp [hcount]) rfl

end

/-! ### SYNC (R57) -/

theorem frameKind_sync (seq : Bool) : frameKind (BitVec.ofBool seq ++ 0x03#7) = some .sync := by cases seq <;> rfl

theorem seq_of_first (seq : Bool) (kind : BitVec 7) : (BitVec.ofBool seq ++ kind).getLsbD 7 = seq := by
  rw [BitVec.getLsbD_append]
  simp

/-- A broadcast SYNC's header is good (Table 3-6). -/
theorem headerOf_sync (seq : Bool) (channel : Byte) :
    headerOf [BitVec.ofBool seq ++ 0x03#7, 63, channel, 2] = some ⟨.sync, seq, channel, 2⟩ ∧
      RequestHeader.good ⟨.sync, seq, channel, 2⟩ .broadcast = true := by
  refine ⟨?_, by simp [RequestHeader.good]⟩
  simp only [headerOf, frameKind_sync, seq_of_first]
  rfl

theorem classOf_broadcast {node : BitVec 6} (h : node ≠ 63) : classOf node 63 = .broadcast := by
  have hne : ¬ (63 : Byte).toNat = node.toNat := fun heq => h (BitVec.eq_of_toNat_eq heq.symm)
  rw [classOf, if_neg hne]
  rfl

/-- The two body bytes of a SYNC, in a run (R48, R57). -/
theorem run_sync_body {s : State} (hreset : s.resetAsserted = false) (hnode : s.cmd.node ≠ .halted) (q : List Instr)
    (k : Nat) (seq : Bool) (channel lo hi : Byte) :
    let header : List Byte := [BitVec.ofBool seq ++ 0x03#7, 63, channel, 2]
    runFrom (k + 2) (s.awaits (.receiving (.headed header .broadcast))
        (.dataSymbol lo :: .dataSymbol hi :: q)) =
      runFrom k (s.awaits
        (.receiving ⟨header, 6, some .broadcast, crcOf (header ++ [lo, hi]), [lo, hi], [], none⟩) q) := by
  intro header
  obtain ⟨hheader, -⟩ := headerOf_sync seq channel
  have htake (t : State) (f : Frame) (b : Byte) (hbytes : f.header = header) (hcls : f.cls = some .broadcast)
      (hmsg : f.msg = none) (hmin : 4 ≤ f.count) (hmax : f.count < 6) : t.takeByte f b = t.setRx (.receiving { f with
        count := f.count + 1, crc := crcByte f.crc b, syncBody := f.syncBody ++ [b] }) :=
    (State.takeByte_of_body (h := ⟨.sync, seq, channel, 2⟩) t (by simp [hcls]) (by rw [hbytes, hheader]) hmin b hmax).1 hmsg
  rw [run_dataSymbol hreset hnode _ (k + 1) _ _
    (htake _ (.headed header .broadcast) _ rfl rfl rfl (Nat.le_refl 4) (Nat.lt_add_of_pos_right Nat.two_pos))]
  exact run_dataSymbol hreset hnode q k _ _ (htake _ ⟨header, 5, some .broadcast, crcOf (header ++ [lo]), [lo], [], none⟩
    _ rfl rfl rfl (Nat.le_succ 4) (Nat.lt_succ_self 5))

/-- Settles O24: the header, the body, the CRC and the closing flag, one after another. -/
theorem syncFrameLoadsCycle : Obligations.SyncFrameLoadsCycle := by
  unfold Obligations.SyncFrameLoadsCycle
  intro s rest seq channel lo hi hreset hnode hidle haddress
  obtain ⟨hheader, hgood⟩ := headerOf_sync seq channel
  have hstart (q : List Instr) : ({ s with pending := q } : State) = s.awaits .idle q := by
    rw [State.awaits, State.setRx_of_eq hidle]
    rfl
  change runFrom 10 { s with pending := _ } = _
  rw [hstart]
  refine (run_header hreset hnode _ 5 (classOf_broadcast haddress) nofun hheader hgood rfl).trans ?_
  refine (run_sync_body hreset hnode _ 3 seq channel lo hi).trans ?_
  refine (run_close (cls := .broadcast) hreset hnode rest 0 rfl nofun hheader rfl rfl).trans ?_
  have hlink : ({ s.link with cycle := hi ++ lo, offset := 0 } : Link) =
      { s.link with rx := .idle, cycle := hi ++ lo, offset := 0 } := by rw [← hidle]
  rw [hlink]
  rfl

end Sys2Proof.Machine


/-! PROOFS. A whole PROBE exchange (R52 to R54, R56, R59), and the timers (R52, R54, R58). -/

namespace Sys2Proof.Machine

/-! ### The timers -/

section
variable {s : State} (hreset : s.resetAsserted = false)
include hreset

theorem exec_earliestStart_eq : exec .earliestStart s = .next s.reachEarliest :=
  congrArg _ (State.live_of_not_reset hreset _)

theorem exec_replyStart_eq : exec .replyStart s = .next s.startReply :=
  congrArg _ (State.live_of_not_reset hreset _)

theorem exec_replyEnd_eq : exec .replyEnd s = .next s.endReply :=
  congrArg _ (State.live_of_not_reset hreset _)

theorem exec_recoveryEnd_eq : exec .recoveryEnd s = .next s.endRecovery :=
  congrArg _ (State.live_of_not_reset hreset _)

theorem exec_cycleOffsetTick_eq : exec .cycleOffsetTick s = .next s.tickOffset :=
  congrArg _ (State.live_of_not_reset hreset _)

end

theorem State.reachEarliest_of_closed {s : State} {o : OwedReply} (h : s.link.rx = .replyWait o .closed) :
    s.reachEarliest = s.setRx (.replyWait o .earliest) := by
  simp only [State.reachEarliest, h]

theorem State.reachEarliest_of_other {s : State} (h : ∀ o, s.link.rx ≠ .replyWait o .closed) : s.reachEarliest = s := by
  unfold State.reachEarliest
  split
  next o hrx => exact absurd hrx (h o)
  next => rfl

theorem State.endRecovery_of_recovery {s : State} (h : s.link.rx = .recovery) : s.endRecovery = s.setRx .idle := by
  simp only [State.endRecovery, h]

theorem State.endRecovery_of_other {s : State} (h : s.link.rx ≠ .recovery) : s.endRecovery = s := by
  unfold State.endRecovery
  split
  next hrx => exact absurd hrx h
  next => rfl

/-- Settles O26. -/
theorem timersPass : Obligations.TimersPass := by
  unfold Obligations.TimersPass
  intro s hreset
  rw [exec_earliestStart_eq hreset, exec_recoveryEnd_eq hreset, exec_cycleOffsetTick_eq hreset]
  refine ⟨fun o hrx => ?_, fun hother => ?_, fun hrx => ?_, fun hother => ?_, fun hnode => ?_, fun hnode => ?_⟩
  · rw [State.reachEarliest_of_closed hrx]
    rfl
  · rw [State.reachEarliest_of_other hother]
  · rw [State.endRecovery_of_recovery hrx]
    rfl
  · rw [State.endRecovery_of_other hother]
  · rw [State.tickOffset, if_pos hnode]
  · exact ⟨saturate s.link.offset 1, saturate_one_toNat _, by rw [State.tickOffset, if_neg hnode]⟩

/-! ### The STATUS reply (R59) -/

/-- The bits of a byte formed of five bits (Table 11-3). -/
theorem five_bits (a b c d e : Bool) :
    let x : Byte := 0#3 ++ BitVec.ofBool a ++ BitVec.ofBool b ++ BitVec.ofBool c ++ BitVec.ofBool d ++ BitVec.ofBool e
    x.getLsbD 0 = e ∧ x.getLsbD 1 = d ∧ x.getLsbD 2 = c ∧ x.getLsbD 3 = b ∧ x.getLsbD 4 = a ∧ x.toNat < 32 := by
  revert a b c d e
  decide

/-- Some channel's record satisfies `p`. -/
theorem State.status_any (s : State) (p : ChannelRecord → Bool) :
    s.status.toList.any p = true ↔ ∃ n : Channel, p (s.record n) = true := by
  rw [State.status_toList]
  simp

/-- Each bit of byte 0 of the STATUS body (R59, Table 11-3). -/
theorem State.statusByte_bits (s : State) :
    s.statusByte.getLsbD 0 = decide (s.cmd.node = .stopping) ∧ s.statusByte.getLsbD 1 = s.host.serviceRequest ∧
      s.statusByte.getLsbD 2 = s.writer.showsFull ∧
      (s.statusByte.getLsbD 3 = true ↔ ∃ n : Channel, (s.record n).hold = .faulted) ∧
      (s.statusByte.getLsbD 4 = true ↔ ∃ n : Channel, (s.record n).hold = .holdWait ∨ (s.record n).hold = .held) ∧
      s.statusByte.toNat < 32 := by
  obtain ⟨hstopping, hservice, hfull, hfaulted, hheld, hsmall⟩ := five_bits
    (s.status.toList.any fun x => decide (x.hold = .holdWait) || decide (x.hold = .held))
    (s.status.toList.any fun x => decide (x.hold = .faulted)) s.writer.showsFull s.host.serviceRequest
    (decide (s.cmd.node = .stopping))
  refine ⟨hstopping, hservice, hfull, ?_, ?_, hsmall⟩
  · rw [State.statusByte, hfaulted, State.status_any]
    simp
  · rw [State.statusByte, hheld, State.status_any]
    simp

theorem lineBytes_map_data (bytes : List Byte) : lineBytes (bytes.map LineSymbol.data) = bytes := by
  induction bytes with
  | nil => rfl
  | cons b bytes ih => exact congrArg (b :: ·) ih

/-! ### A PROBE's frame (R59) -/

theorem frameKind_probe (seq : Bool) : frameKind (BitVec.ofBool seq ++ 0x04#7) = some .probe := by cases seq <;> rfl

/-- An addressed PROBE's header is good (Table 3-6). -/
theorem headerOf_probe (seq : Bool) (node channel : Byte) :
    headerOf [BitVec.ofBool seq ++ 0x04#7, node, channel, 0] = some ⟨.probe, seq, channel, 0⟩ ∧
      RequestHeader.good ⟨.probe, seq, channel, 0⟩ .addressed = true := by
  refine ⟨?_, by simp [RequestHeader.good]⟩
  simp only [headerOf, frameKind_probe, seq_of_first]
  rfl

theorem classOf_addressed (node : BitVec 6) : classOf node (node.setWidth 8) = .addressed := by
  refine if_pos ?_
  rw [BitVec.toNat_setWidth]
  omega

/-! ### The exchange after the frame, in a run -/

/-- The symbols of a reply with the four header bytes and the body `bytes`: flag, bytes, CRC, flag (R41, R42). -/
def replySymbols (bytes : List Byte) : List LineSymbol :=
  .control 0x5A :: bytes.map LineSymbol.data ++ ((crcBytesOf (crcOf bytes)).map LineSymbol.data ++ [.control 0xA5])

/-- A reply without message data ends with its CRC and its closing flag (R53, R54). -/
theorem State.endReply_of_no_data {s : State} {bytes : List Byte} {left sent : Nat}
    (hrx : s.link.rx = .replying ⟨false, left, sent, false⟩)
    (hout : s.link.lineOut = .control 0x5A :: bytes.map LineSymbol.data) :
    s.endReply = { s with link := { s.link with rx := .recovery, lineOut := replySymbols bytes } } := by
  have hcrc : s.link.replyCrc = crcBytesOf (crcOf bytes) := by
    rw [Link.replyCrc, hout, lineBytes, lineBytes_map_data]
  simp only [State.endReply, hrx, State.closeReply, State.sendSymbols, State.setRx, hcrc, hout]
  rfl

theorem run_awaits {s t : State} {rx : Receiver} {c : Instr} {q : List Instr} (k : Nat)
    (h : exec c (s.awaits rx q) = .next t) : runFrom (k + 1) (s.awaits rx (c :: q)) = runFrom k t :=
  core_run_succ (s := s.awaits rx (c :: q)) rfl h k

section
variable {s : State} (hreset : s.resetAsserted = false) (q : List Instr) (k : Nat)
include hreset

/-- From the good close of a PROBE to the end of recovery, in a run: the STATUS reply has gone out (R52 to R54, R59). -/
theorem run_status_reply (seq : Bool) (channel : Byte) :
    runFrom (k + 4) (s.awaits (.replyWait ⟨.status, seq, channel⟩ .closed)
        (.earliestStart :: .replyStart :: .replyEnd :: .recoveryEnd :: q)) =
      runFrom k { s with
        link := { s.link with
          rx := .idle
          lineOut := replySymbols (replyHeader .status seq s.host.nodeAddress channel 2 ++ [s.statusByte, 0]) }
        pending := q } := by
  refine (run_awaits (k + 3) (exec_earliestStart_eq (s := s.awaits (.replyWait ⟨.status, seq, channel⟩ .closed)
    (.replyStart :: .replyEnd :: .recoveryEnd :: q)) hreset)).trans ?_
  rw [State.reachEarliest_of_closed (s := s.awaits (.replyWait ⟨.status, seq, channel⟩ .closed) _) rfl]
  refine (run_awaits (rx := .replyWait ⟨.status, seq, channel⟩ .earliest) (k + 2)
    (exec_replyStart_eq (s := s.awaits (.replyWait ⟨.status, seq, channel⟩ .earliest)
      (.replyEnd :: .recoveryEnd :: q)) hreset)).trans ?_
  refine (core_run_succ (q := .recoveryEnd :: q) rfl (exec_replyEnd_eq (s := (s.awaits (.replyWait ⟨.status, seq, channel⟩
    .earliest) (.recoveryEnd :: q)).transmit ⟨.status, seq, channel⟩ .status 2 [s.statusByte, 0] false 0) hreset)
    (k + 1)).trans ?_
  rw [State.endReply_of_no_data (bytes := replyHeader .status seq s.host.nodeAddress channel 2 ++ [s.statusByte, 0])
    rfl rfl]
  exact core_run_succ (q := q) rfl (exec_recoveryEnd_eq (s := { s with
    link := { s.link with
      rx := .recovery
      lineOut := replySymbols (replyHeader .status seq s.host.nodeAddress channel 2 ++ [s.statusByte, 0]) }
    pending := q }) hreset) k

end

/-- Settles O25: the header, the CRC and the closing flag of the PROBE, and the run of its reply. -/
theorem probeIsAnswered : Obligations.ProbeIsAnswered := by
  unfold Obligations.ProbeIsAnswered
  intro s rest seq channel hreset hnode hidle _
  obtain ⟨hheader, hgood⟩ := headerOf_probe seq (s.host.nodeAddress.setWidth 8) channel
  obtain ⟨hstopping, hservice, hfull, hfaulted, hheld, hsmall⟩ := s.statusByte_bits
  refine ⟨s.statusByte, hstopping, hservice, hfull, hfaulted, hheld, hsmall, ?_⟩
  have hstart (q : List Instr) : ({ s with pending := q } : State) = s.awaits .idle q := by
    rw [State.awaits, State.setRx_of_eq hidle]
    rfl
  change runFrom 12 { s with pending := _ } = _
  rw [hstart]
  refine (run_header hreset hnode _ 7 (classOf_addressed _) nofun hheader hgood rfl).trans ?_
  refine (run_close (cls := .addressed) hreset hnode _ 4 rfl nofun hheader rfl rfl).trans ?_
  refine (run_status_reply hreset rest 0 seq channel).trans ?_
  rw [← hidle]
  rfl

end Sys2Proof.Machine


/-! PROOFS. The register window: the plain writes (R51, R119, R155, R160), the configuration registers read back (R137,
R159), and the writes of the ring and of the enables (R148, R149, R161). -/

namespace Sys2Proof.Machine

/-- A command that RESET alone gates is carried out. -/
theorem exec_of_live {c : Instr} {f : State → State} {s : State} (hreset : s.resetAsserted = false)
    (hexec : exec c s = .next (s.live f)) : exec c s = .next (f s) :=
  hexec.trans (congrArg _ (State.live_of_not_reset hreset f))

/-! ### Plain writes -/

/-- The bits that stay set when those written as one are cleared (R155, R160). -/
theorem getLsbD_and_not_setWidth {k : Nat} (x : BitVec k) (v : Word) {i : Nat} (hi : i < k) :
    (x &&& ~~~(v.setWidth k)).getLsbD i = (x.getLsbD i && !v.getLsbD i) := by
  simp [hi]

/-- The interrupt line: some bit is both pending and enabled (R155). -/
theorem State.interruptLine_iff {s : State} (hreset : s.resetAsserted = false) : s.interruptLine = true ↔
    ∃ i < 4, s.host.intPending.getLsbD i = true ∧ s.host.intMask.getLsbD i = true := by
  have hand (i : Nat) : (s.host.intPending &&& s.host.intMask).getLsbD i = true ↔
      s.host.intPending.getLsbD i = true ∧ s.host.intMask.getLsbD i = true := by simp
  simp only [State.interruptLine, hreset, Bool.not_false, Bool.true_and, decide_eq_true_eq, ← hand]
  constructor
  · intro hne
    by_contra hall
    push Not at hall
    refine hne (BitVec.eq_of_getLsbD_eq fun i hi => ?_)
    rw [Bool.eq_false_iff.mpr (hall i hi)]
    simp
  · rintro ⟨i, -, hi⟩ hzero
    rw [hzero] at hi
    simp at hi

/-- Settles O6: each write is one field of the host interface, or the two counts of the link. -/
theorem plainRegisterWrites : Obligations.PlainRegisterWrites := by
  unfold Obligations.PlainRegisterWrites
  intro s v hreset
  refine ⟨⟨s.writeIntPending v, exec_of_live (f := fun t => t.writeIntPending v) hreset rfl, rfl, fun i hi => getLsbD_and_not_setWidth _ v hi⟩,
    ⟨s.writeIntMask v, exec_of_live (f := fun t => t.writeIntMask v) hreset rfl, rfl, fun i hi => ?_, ?_⟩,
    ⟨s.writeSticky v, exec_of_live (f := fun t => t.writeSticky v) hreset rfl, rfl, fun i hi => getLsbD_and_not_setWidth _ v hi⟩,
    exec_of_live (f := fun t => t.writeLinkErrors v) hreset rfl,
    ⟨s.writeChannelSelect v, exec_of_live (f := fun t => t.writeChannelSelect v) hreset rfl, rfl, rfl,
      State.readRegister_of_not_reset (s := s.writeChannelSelect v) hreset 0x74⟩⟩
  · exact (BitVec.getLsbD_setWidth 4 v i).trans (by simp [hi])
  · refine (State.interruptLine_iff (s := s.writeIntMask v) hreset).trans (exists_congr fun i => and_congr_right fun hi => ?_)
    simp [State.writeIntMask, hi]

/-! ### Configuration registers -/

/-- The register at an offset other than NODE_ADDRESS's does not read the node address. -/
theorem State.windowWord_withNodeAddress (s : State) (a : BitVec 6) {k : Nat} (hk : k ≠ 0x18) :
    ({ s with host := { s.host with nodeAddress := a } } : State).windowWord k = s.windowWord k := by
  unfold State.windowWord
  split
  case h_7 => exact absurd rfl hk
  all_goals rfl

theorem State.windowWord_withTableBase (s : State) (a : Addr) {k : Nat} (hk : k ≠ 0x20) :
    ({ s with host := { s.host with tableBase := a } } : State).windowWord k = s.windowWord k := by
  unfold State.windowWord
  split
  case h_9 => exact absurd rfl hk
  all_goals rfl

/-- `s` with other guard windows. -/
def State.withGuards (s : State) (g : Vector GuardWindow 4) : State := { s with mover := { s.mover with guards := g } }

/-- A register reads of the guard windows what its offset names: a base, a limit or the rights (Table 9-1). -/
theorem State.windowWord_withGuards (s : State) (g : Vector GuardWindow 4) {k : Nat}
    (hbase : ∀ w : Fin 4, k = 0x40 + 8 * w.val → (g[w.val]'w.isLt).base = (s.mover.guards[w.val]'w.isLt).base)
    (hlimit : ∀ w : Fin 4, k = 0x44 + 8 * w.val → (g[w.val]'w.isLt).limit = (s.mover.guards[w.val]'w.isLt).limit)
    (hrights : k = 0x60 → ∀ w : Fin 4, (g[w.val]'w.isLt).rights = (s.mover.guards[w.val]'w.isLt).rights) :
    (s.withGuards g).windowWord k = s.windowWord k := by
  unfold State.windowWord
  split
  case h_16 => exact hbase 0 rfl
  case h_17 => exact hlimit 0 rfl
  case h_18 => exact hbase 1 rfl
  case h_19 => exact hlimit 1 rfl
  case h_20 => exact hbase 2 rfl
  case h_21 => exact hlimit 2 rfl
  case h_22 => exact hbase 3 rfl
  case h_23 => exact hlimit 3 rfl
  case h_24 =>
    have h (w : Fin 4) := hrights rfl w
    exact congrArg₂ (· ++ ·) (congrArg₂ (· ++ ·) (congrArg₂ (· ++ ·) (congrArg (0#16 ++ ·) (h 3)) (h 2)) (h 1)) (h 0)
  all_goals rfl

/-- The word that reads the base, or the limit, of window `w`. -/
theorem State.windowWord_guard (s : State) (w : Fin 4) :
    s.windowWord (0x40 + 8 * w.val) = (s.mover.guards[w.val]'w.isLt).base ∧
      s.windowWord (0x44 + 8 * w.val) = (s.mover.guards[w.val]'w.isLt).limit := by
  fin_cases w
  all_goals exact ⟨rfl, rfl⟩

/-- The rights that GUARD_RIGHTS keeps of a written word, and reads (Table 11-9). -/
theorem rights_withRights (g : GuardWindow) (v : Word) (w : Nat) :
    (g.withRights v w).rights =
      0#1 ++ BitVec.ofBool (getBit v (4 * w + 2)) ++ BitVec.ofBool (getBit v (4 * w + 1)) ++ BitVec.ofBool (getBit v (4 * w)) :=
  rfl

theorem State.windowWord_withRights (s : State) (v : Word) :
    (s.withGuards (s.mover.guards.mapFinIdx fun i g _ => g.withRights v i)).windowWord 0x60 = v &&& 0x7777 := by
  change Mover.rightsWord _ = _
  simp only [Mover.rightsWord, State.withGuards, Vector.getElem_mapFinIdx, rights_withRights, getBit]
  refine BitVec.eq_of_getLsbD_eq fun i hi => ?_
  simp only [BitVec.getLsbD_append, BitVec.getLsbD_and]
  interval_cases i <;> simp

/-- The six bits NODE_ADDRESS keeps (Table 11-9). -/
theorem setWidth_six (v : Word) : (v.setWidth 6).setWidth 32 = v &&& 0x3F := by
  refine BitVec.eq_of_getLsbD_eq fun i hi => ?_
  interval_cases i <;> simp

/-- A configuration register that has been written reads the kept bits, every other offset as before (R159, R137). -/
theorem State.windowWord_setConfig (s : State) (reg : ConfigReg) (v : Word) (k : Nat) :
    (s.setConfig reg v).windowWord k = if k = reg.offset then v &&& reg.kept else s.windowWord k := by
  split
  next hk =>
    subst hk
    cases reg with
    | nodeAddress => exact setWidth_six v
    | tableBase => exact (BitVec.and_allOnes (x := v)).symm
    | guardBase w =>
      exact (State.windowWord_guard _ w).1.trans (by simp [State.setConfig, modifyAt, guardBound, ConfigReg.kept])
    | guardLimit w =>
      exact (State.windowWord_guard _ w).2.trans (by simp [State.setConfig, modifyAt, guardBound, ConfigReg.kept])
    | guardRights => exact s.windowWord_withRights v
  next hk =>
    cases reg with
    | nodeAddress => exact s.windowWord_withNodeAddress _ hk
    | tableBase => exact s.windowWord_withTableBase _ hk
    | guardBase w =>
      have hw (j : Fin 4) (hj : k = 0x40 + 8 * j.val) : j ≠ w := fun h => hk (h ▸ hj)
      refine s.windowWord_withGuards _ (fun j hj => ?_) (fun j _ => ?_) (fun _ j => ?_)
      · rw [modifyAt_get, if_neg (hw j hj)]
      all_goals
        rw [modifyAt_get]
        split
        · subst j; rfl
        · rfl
    | guardLimit w =>
      have hw (j : Fin 4) (hj : k = 0x44 + 8 * j.val) : j ≠ w := fun h => hk (h ▸ hj)
      refine s.windowWord_withGuards _ (fun j _ => ?_) (fun j hj => ?_) (fun _ j => ?_)
      rotate_left
      · rw [modifyAt_get, if_neg (hw j hj)]
      all_goals
        rw [modifyAt_get]
        split
        · subst j; rfl
        · rfl
    | guardRights =>
      exact s.windowWord_withGuards _ (fun j _ => by simp [GuardWindow.withRights])
        (fun j _ => by simp [GuardWindow.withRights]) fun h => absurd h hk

/-- A configuration write in HALTED, and elsewhere (R159). -/
theorem State.configured_of_halted {s : State} (hnode : s.cmd.node = .halted) (f : State → State) :
    s.configured f = f s := if_pos hnode

theorem State.configured_of_not_halted {s : State} (hnode : s.cmd.node ≠ .halted) (f : State → State) :
    s.configured f = { s with host := { s.host with sticky := s.host.sticky ||| 1#2 } } := if_neg hnode

/-- What a configuration register's write leaves (R137, R159). -/
theorem State.setConfig_eq (s : State) (reg : ConfigReg) (v : Word) :
    s.setConfig reg v = { s with
      host := { s.host with nodeAddress := (s.setConfig reg v).host.nodeAddress
                            tableBase := (s.setConfig reg v).host.tableBase }
      mover := { s.mover with guards := (s.setConfig reg v).mover.guards } } := by
  cases reg <;> rfl

/-- Settles O7: the register window after a configuration write, offset by offset. -/
theorem configWriteReadsBack : Obligations.ConfigWriteReadsBack := by
  unfold Obligations.ConfigWriteReadsBack
  intro s reg v hreset
  have hexec : exec (.configWrite reg v) s = .next (s.writeConfig reg v) :=
    exec_of_live (f := fun t => t.writeConfig reg v) hreset rfl
  refine ⟨fun hnode => ⟨s.setConfig reg v, hexec.trans (congrArg _ (State.configured_of_halted hnode _)),
    s.setConfig_eq reg v, fun offset => ?_⟩, fun hnode =>
    hexec.trans (congrArg _ (State.configured_of_not_halted hnode _))⟩
  have hreset' : (s.setConfig reg v).resetAsserted = false := by rw [s.setConfig_eq reg v]; exact hreset
  rw [State.readRegister_of_not_reset hreset', State.readRegister_of_not_reset hreset, s.windowWord_setConfig]

/-! ### The ring and the enables -/

/-- GLOBAL_ENABLES outside HALTED (R159, R161). -/
theorem State.writeGlobalEnables_of_not_halted {s : State} (hnode : s.cmd.node ≠ .halted) (v : Word) :
    s.writeGlobalEnables v = { s with host := { s.host with
      serviceRequest := v.getLsbD 8,
      sticky := if v.getLsbD 0 = s.host.linkErrorEnable ∧ v.getLsbD 1 = s.host.linkResetEnable then s.host.sticky
        else s.host.sticky ||| 1#2 } } := by
  unfold State.writeGlobalEnables
  rw [if_neg hnode]
  by_cases hsame : v.getLsbD 0 = s.host.linkErrorEnable ∧ v.getLsbD 1 = s.host.linkResetEnable
  · rw [if_pos hsame, if_neg (by simpa [getBit] using hsame)]
    rfl
  · rw [if_neg hsame, if_pos (by simpa [getBit, imp_iff_not_or] using hsame)]
    rfl

/-- Settles O8: the write of each register by the node state, and the writer's look after a consumer index. -/
theorem ringAndEnableWrites : Obligations.RingAndEnableWrites := by
  unfold Obligations.RingAndEnableWrites
  intro s v hreset
  have hbase : exec (.eqBaseWrite v) s = .next (s.writeEqBase v) :=
    exec_of_live (f := fun t => t.writeEqBase v) hreset rfl
  have hsize : exec (.eqSizeWrite v) s = .next (s.writeEqSize v) :=
    exec_of_live (f := fun t => t.writeEqSize v) hreset rfl
  have henables : exec (.globalEnablesWrite v) s = .next (s.writeGlobalEnables v) :=
    exec_of_live (f := fun t => t.writeGlobalEnables v) hreset rfl
  have hconsumer : exec (.eqConsumerWrite v) s = .next (s.writeEqConsumer v) :=
    exec_of_live (f := fun t => t.writeEqConsumer v) hreset rfl
  have hlow {n : Nat} (hn : n ≤ 32) : v.extractLsb' 0 n = v.setWidth n := (BitVec.setWidth_eq_extractLsb' hn).symm
  refine ⟨fun hnode => ⟨?_, ?_, ?_⟩, fun hnode => ⟨?_, ?_, ?_⟩, fun hqueue => ?_, ?_⟩
  · exact hbase.trans (congrArg _ (State.configured_of_halted hnode _))
  · rw [hlow (by omega)]
    exact hsize.trans (congrArg _ (State.configured_of_halted hnode _))
  · exact henables.trans (congrArg _ (if_pos hnode))
  · exact hbase.trans (congrArg _ (State.configured_of_not_halted hnode _))
  · exact hsize.trans (congrArg _ (State.configured_of_not_halted hnode _))
  · exact henables.trans (congrArg _ (State.writeGlobalEnables_of_not_halted hnode v))
  · rw [hlow (by omega)]
    exact hconsumer.trans (congrArg _ (State.QuietLaw.writerLook_of_empty hqueue))
  · rw [hlow (by omega)]
    exact hconsumer.trans (exec_of_live (c := .eventEntryWrite) (f := State.writerLook)
      (s := { s with writer := { s.writer with consumer := v.setWidth 12 } }) hreset rfl).symm

end Sys2Proof.Machine


/-! PROOFS. The command unit: its checks (R164, R165), and the ten commands after them (R100 to R103, R110, R116, R117, R154,
R167, R168). -/

namespace Sys2Proof.Machine

/-! ### Taking a command -/

theorem State.takeCommand_of_idle {s : State} (hbusy : s.cmd.busy = false) (code operand : Byte) (body : State → State) :
    s.takeCommand code operand body = body (s.taken code operand) := if_neg (Bool.eq_false_iff.mp hbusy)

@[simp] theorem State.taken_record (s : State) (code operand : Byte) (n : Channel) :
    (s.taken code operand).record n = s.record n := rfl

theorem channelByte_toNat (n : Channel) : (channelByte n).toNat = n.val := by
  rw [channelByte, BitVec.toNat_ofNat]
  omega

theorem channelOf_channelByte (n : Channel) : channelOf (channelByte n) = n := by
  refine Fin.ext ?_
  simp only [channelOf, channelByte_toNat]
  omega

section
variable {s : State} (hreset : s.resetAsserted = false)
include hreset

/-- A busy unit notes a command alone (R164). -/
theorem exec_of_busy {c : Instr} {code operand : Byte} {body : State → State} (hbusy : s.cmd.busy = true)
    (hexec : exec c s = .next (s.live fun t => t.takeCommand code operand body)) :
    exec c s = .next { s with host := { s.host with sticky := s.host.sticky ||| 2#2 } } :=
  (exec_of_live hreset hexec).trans (congrArg _ (State.takeCommand_of_busy hbusy code operand body))

/-- Every code of BAD_COMMAND is refused by a busy unit. -/
theorem exec_badCommand_of_busy {code operand : Byte} (hbusy : s.cmd.busy = true) :
    exec (.badCommand code operand) s = .next { s with host := { s.host with sticky := s.host.sticky ||| 2#2 } } := by
  refine (exec_of_live (f := fun t => t.writeCommand code operand) hreset rfl).trans (congrArg _ ?_)
  unfold State.writeCommand
  split
  all_goals exact State.takeCommand_of_busy hbusy _ operand _

variable (hbusy : s.cmd.busy = false)
include hbusy

theorem exec_of_taken {c : Instr} {code operand : Byte} {body : State → State}
    (hexec : exec c s = .next (s.live fun t => t.takeCommand code operand body)) :
    exec c s = .next (body (s.taken code operand)) :=
  (exec_of_live hreset hexec).trans (congrArg _ (State.takeCommand_of_idle hbusy code operand body))

/-- The operand is checked first (R165). -/
theorem exec_of_bad_channel {c : Instr} {code operand : Byte} {body : Channel → State → State} (hop : 63 < operand.toNat)
    (hexec : exec c s = .next (s.live fun t => t.takeCommand code operand fun u => u.channelCommand operand body)) :
    exec c s = .next (s.endedWith code operand .refusedBadChannel) :=
  (exec_of_taken hreset hbusy hexec).trans (congrArg _ (if_pos hop))

/-- Then the node state is (R165). -/
theorem exec_of_stopping {c : Instr} {code operand : Byte} {body : Channel → State → State} (hop : operand.toNat ≤ 63)
    (hnode : s.cmd.node = .stopping)
    (hexec : exec c s = .next (s.live fun t => t.takeCommand code operand fun u => u.channelCommand operand body)) :
    exec c s = .next (s.endedWith code operand .refusedBadState) :=
  (exec_of_taken hreset hbusy hexec).trans (congrArg _ ((if_neg (Nat.not_lt.mpr hop)).trans (if_pos hnode)))

/-- A channel command that passes its checks is carried out on its channel (R165). -/
theorem exec_of_channel {c : Instr} {code : Byte} (n : Channel) {body : Channel → State → State}
    (hnode : s.cmd.node ≠ .stopping)
    (hexec : exec c s = .next (s.live fun t => t.takeCommand code (channelByte n) fun u =>
      u.channelCommand (channelByte n) body)) :
    exec c s = .next (body n (s.taken code (channelByte n))) := by
  refine (exec_of_taken hreset hbusy hexec).trans (congrArg _ ?_)
  obtain ⟨hop, -⟩ | ⟨-, hstopping, -⟩ | ⟨-, -, h⟩ :=
    (s.taken code (channelByte n)).channelCommand_cases (channelByte n) body
  · rw [channelByte_toNat] at hop
    omega
  · exact absurd hstopping hnode
  · rw [h, channelOf_channelByte]

end

/-- Settles O10: each check in its order. -/
theorem commandChecksRefuse : Obligations.CommandChecksRefuse := by
  unfold Obligations.CommandChecksRefuse
  intro s code operand hreset
  refine ⟨fun hbusy c hc => ?_, fun hbusy => ⟨fun hcode => ?_, fun hop p hp => ?_, fun hnode => ?_, fun hnode => ?_,
    fun hnode hop p hp => ?_⟩⟩
  · simp only [List.mem_cons, List.not_mem_nil, or_false] at hc
    obtain rfl | rfl | rfl | rfl | rfl | rfl | rfl | rfl | rfl | rfl | rfl := hc
    case inr.inr.inr.inr.inr.inr.inr.inr.inr.inr => exact exec_badCommand_of_busy hreset hbusy
    all_goals exact exec_of_busy hreset hbusy rfl
  · refine (exec_of_live (f := fun t => t.writeCommand code operand) hreset rfl).trans (congrArg _ ?_)
    rw [State.writeCommand_of_bad (by simpa [Instr.wellFormed] using hcode), State.takeCommand_of_idle hbusy]
    rfl
  · simp only [List.mem_cons, List.not_mem_nil, or_false] at hp
    obtain rfl | rfl | rfl | rfl | rfl := hp
    all_goals exact exec_of_bad_channel hreset hbusy hop rfl
  · exact (exec_of_taken (body := State.startCommand) hreset hbusy rfl).trans (congrArg _ (if_pos hnode))
  · exact (exec_of_taken (body := State.stopCommand) hreset hbusy rfl).trans (congrArg _ (if_pos hnode))
  · have hflush : (s.taken 8 operand).flushCommand = s.endedWith 8 operand .refusedBadState := by
      rw [State.flushCommand]
      simp only [show (s.taken 8 operand).cmd.node = .stopping from hnode]
      rfl
    have hpurge : (s.taken 9 operand).purgeCommand = s.endedWith 9 operand .refusedBadState := by
      rw [State.purgeCommand]
      simp only [show (s.taken 9 operand).cmd.node = .stopping from hnode]
      rfl
    simp only [List.mem_cons, List.not_mem_nil, or_false] at hp
    obtain rfl | rfl | rfl | rfl | rfl | rfl | rfl | rfl := hp
    case inr.inr.inr.inr.inr.inl => exact (exec_of_taken hreset hbusy rfl).trans (congrArg _ hflush)
    case inr.inr.inr.inr.inr.inr.inl => exact (exec_of_taken hreset hbusy rfl).trans (congrArg _ hpurge)
    case inr.inr.inr.inr.inr.inr.inr => exact (exec_of_taken (body := State.resumeCommand) hreset hbusy rfl).trans (congrArg _ (if_pos hnode))
    all_goals exact exec_of_stopping hreset hbusy hop hnode rfl

/-! ### Requests for fills -/

/-- A fill is asked for a channel whose entries are INVALID or on their way out (R89). -/
theorem Cache.requestFill_of_leaving {c : Cache} {n : Channel} (hpending : c.fillPending n = false)
    (hleaving : ∀ e, (c.entry e).tag = n → (c.entry e).state = .invalid ∨ (c.entry e).state = .evicting) :
    c.requestFill n = { c with fills := c.fills ++ [n] } := by
  unfold Cache.requestFill
  rw [if_neg (Bool.eq_false_iff.mp hpending)]
  cases hfind : c.find n with
  | none => rfl
  | some e =>
    obtain ⟨htag, hvalid⟩ := Cache.find_some hfind
    exact if_pos ((hleaving e htag).resolve_left hvalid)

theorem Cache.requestFill_of_pending {c : Cache} {n : Channel} (hpending : c.fillPending n = true) : c.requestFill n = c :=
  if_pos hpending

/-- A channel with an entry that is not on its way out needs no fill (R88, R89). -/
theorem Cache.requestFill_of_found {c : Cache} {n : Channel} {e : EntryIx} (hfind : c.find n = some e)
    (hstays : (c.entry e).state ≠ .evicting) : c.requestFill n = c := by
  unfold Cache.requestFill
  rw [hfind]
  simp only [hstays, if_false, ite_self]

/-- On an empty cache a list of different channels is asked for in its order. -/
theorem Cache.foldl_requestFill_of_invalid (l : List Channel) (hnodup : l.Nodup) (c : Cache)
    (hinvalid : ∀ e, (c.entry e).state = .invalid) (hapart : ∀ n ∈ l, n ∉ c.fills) :
    l.foldl Cache.requestFill c = { c with fills := c.fills ++ l } := by
  induction l generalizing c with
  | nil => simp
  | cons n l ih =>
    obtain ⟨hn, hl⟩ := List.nodup_cons.1 hnodup
    have hpending : c.fillPending n = false :=
      (Cache.not_fillPending_iff c n).2 ⟨hapart n List.mem_cons_self, fun e h => by simp [hinvalid e] at h⟩
    rw [List.foldl_cons, Cache.requestFill_of_leaving hpending fun e _ => .inl (hinvalid e),
      ih hl { c with fills := c.fills ++ [n] } hinvalid fun m hm => ?_]
    · simp
    · simp only [List.mem_append, List.mem_singleton, not_or]
      exact ⟨hapart m (List.mem_cons_of_mem n hm), fun h => hn (h ▸ hm)⟩

/-- A refill changes the pending fills alone (R100, R101). -/
theorem State.refill_eq (s : State) (n : Channel) :
    s.refill n = { s with cache := { s.cache with fills := (s.refill n).cache.fills } } := by
  unfold State.refill
  split
  · obtain h | h := s.cache.requestFill_eq n <;> rw [h]
  · rfl

theorem State.refill_of_running {s : State} (hnode : s.cmd.node = .running) (n : Channel) :
    (s.refill n).cache = s.cache.requestFill n := by
  rw [State.refill, if_pos hnode]

/-! ### START, STOP and RESUME_EVENTS -/

theorem State.badConfig_iff (s : State) : s.badConfig = true ↔
    s.host.nodeAddress = 63 ∨ s.host.tableBase.toNat % 2048 ≠ 0 ∨ s.writer.eqSize.toNat < 4 ∨
      12 < s.writer.eqSize.toNat ∨ s.writer.eqBase.toNat % (16 * 2 ^ s.writer.eqSize.toNat) ≠ 0 := by
  simp only [State.badConfig, alignedTo, Bool.or_eq_true, decide_eq_true_eq, Bool.not_eq_true', decide_eq_false_iff_not,
    or_assoc, ne_eq]

/-- What START does after its checks, the fills apart (R167, R118, R120). -/
theorem State.startNode_eq (s : State) : s.startNode = { s with
    link := { s.link with cycle := 0, offset := 0, rx := .idle }
    cmd := { s.cmd with node := .running }
    status := s.clearSeqValid.status
    cache := { s.cache with fills := s.startNode.cache.fills } } := by
  obtain ⟨fills, hfills⟩ := Cache.foldl_requestFill s.clearSeqValid.pinnedFree s.clearSeqValid.cache
  unfold State.startNode
  dsimp only
  rw [hfills]
  rfl

/-- The fills START asks for on an empty cache: the pinned FREE channels in ascending order (R101, R167). -/
theorem State.startNode_fills {s : State} (hempty : s.cache.Empty) : s.startNode.cache.fills =
    (List.finRange 64).filter fun n => (s.record n).pinned && decide ((s.record n).hold = .free) := by
  obtain ⟨hinvalid, hfills, -⟩ := hempty
  have hpinned : s.clearSeqValid.pinnedFree =
      (List.finRange 64).filter fun n => (s.record n).pinned && decide ((s.record n).hold = .free) := by
    simp only [State.pinnedFree, channelOrder, State.record_clearSeqValid]
  have hfold := Cache.foldl_requestFill_of_invalid s.clearSeqValid.pinnedFree ((List.nodup_finRange 64).filter _)
    s.clearSeqValid.cache hinvalid fun n _ => by simp [hfills]
  change (s.clearSeqValid.pinnedFree.foldl Cache.requestFill s.clearSeqValid.cache).fills = _
  rw [hfold, hpinned]
  simp [hfills]

/-- Settles O11: START's checks and its effect, STOP's taking, and the writer's return to ACTIVE. -/
theorem startStopAndResume : Obligations.StartStopAndResume := by
  unfold Obligations.StartStopAndResume
  intro s op hreset hbusy
  have hstart : exec (.start op) s = .next (s.taken 1 op).startCommand := exec_of_taken hreset hbusy rfl
  have hresume : exec (.resumeEvents op) s = .next (s.taken 10 op).resumeCommand := exec_of_taken hreset hbusy rfl
  refine ⟨fun hnode => ⟨fun hbad => ?_, fun haddress htable hlow hhigh hring => ?_⟩, fun hnode => ?_, fun hnode =>
    ⟨fun hactive hqueue => ?_, fun hactive => ?_⟩⟩
  · exact hstart.trans (congrArg _ ((if_neg (not_not.mpr hnode)).trans (if_pos ((s.badConfig_iff).2 hbad))))
  · have hgood : ¬ s.badConfig = true := by
      rw [State.badConfig_iff]
      rintro (h | h | h | h | h)
      · exact haddress h
      · exact h htable
      · omega
      · omega
      · exact h hring
    refine ⟨(s.taken 1 op).startNode.endCommand .done,
      hstart.trans (congrArg _ ((if_neg (not_not.mpr hnode)).trans (if_neg hgood))), ?_, fun n => s.record_clearSeqValid n,
      fun hempty => State.startNode_fills (s := s.taken 1 op) hempty⟩
    exact congrArg (fun t => State.endCommand t .done) (s.taken 1 op).startNode_eq
  · exact (exec_of_taken (body := State.stopCommand) hreset hbusy rfl).trans (congrArg _ (if_neg (not_not.mpr hnode)))
  · refine hresume.trans (congrArg _ ((if_neg hnode).trans ((if_neg (Bool.eq_false_iff.mp hactive)).trans ?_)))
    exact congrArg (fun t => State.endCommand t .done) (State.QuietLaw.writerLook_of_empty
      (s := { s.taken 10 op with writer := { s.writer with active := true } }) hqueue)
  · exact hresume.trans (congrArg _ ((if_neg hnode).trans (if_pos hactive)))

/-! ### HOLD, RELEASE and RETURN -/

section
variable {s : State} {n : Channel}

/-- HOLD of a FREE channel in RUNNING (R110). -/
theorem State.holdChannel_of_running (hhold : (s.record n).hold = .free) (hnode : s.cmd.node = .running) :
    s.holdChannel n = s.enterHoldWait n := by
  simp only [State.holdChannel, hhold, hnode, if_true]

/-- HOLD takes a FREE channel at once outside RUNNING, and a FAULTED one always (R110). -/
theorem State.holdChannel_at_once
    (h : (s.record n).hold = .free ∧ s.cmd.node = .halted ∨ (s.record n).hold = .faulted) :
    s.holdChannel n = (s.setRecord n ChannelRecord.becomeHeld).endCommand .done := by
  obtain ⟨hhold, hnode⟩ | hhold := h
  · simp only [State.holdChannel, hhold, hnode, reduceCtorEq, if_false]
  · simp only [State.holdChannel, hhold]

theorem State.holdChannel_of_held (hhold : (s.record n).hold = .held) :
    s.holdChannel n = s.endCommand .refusedAlready := by
  simp only [State.holdChannel, hhold]

/-- A channel the host holds goes back to the part (R116). -/
theorem State.releaseChannel_of_held (hhold : (s.record n).hold = .held ∨ (s.record n).hold = .faulted) :
    s.releaseChannel n = (if (s.record n).pinned then (s.setRecord n ChannelRecord.becomeFree).refill n
      else s.setRecord n ChannelRecord.becomeFree).endCommand .done := by
  obtain hhold | hhold := hhold
  all_goals
    simp only [State.releaseChannel, hhold]
    rfl

theorem State.releaseChannel_of_free (hhold : (s.record n).hold = .free) :
    s.releaseChannel n = s.endCommand .refusedNotHeld := by
  simp only [State.releaseChannel, hhold]

theorem State.returnChannel_of_free (hhold : (s.record n).hold = .free) : s.returnChannel n =
    if (s.record n).returned then s.endCommand .refusedAlready
    else (s.setRecord n fun x => { x with returned := true }).endCommand .done := by
  simp only [State.returnChannel, hhold]

theorem State.returnChannel_of_held (hhold : (s.record n).hold = .held ∨ (s.record n).hold = .faulted) :
    s.returnChannel n = s.endCommand .refusedBadState := by
  obtain hhold | hhold := hhold
  all_goals simp only [State.returnChannel, hhold]

/-- Where no fill is asked for, a refill leaves the pending fills. -/
theorem State.refill_fills_of_not_running (hnode : s.cmd.node ≠ .running) :
    (s.refill n).cache.fills = s.cache.fills := by
  rw [State.QuietLaw.refill_of_halted hnode]

end

/-- Settles O12: by the hold state. -/
theorem holdActsByHoldState : Obligations.HoldActsByHoldState := by
  unfold Obligations.HoldActsByHoldState
  intro s n hreset hbusy hnode
  have hexec : exec (.hold (channelByte n)) s = .next ((s.taken 3 (channelByte n)).holdChannel n) :=
    exec_of_channel hreset hbusy n hnode rfl
  refine ⟨fun hhold hrunning => ?_, fun h => ?_, fun hhold => ?_⟩
  · refine hexec.trans (congrArg _ ((State.holdChannel_of_running (s := s.taken 3 (channelByte n)) hhold hrunning).trans ?_))
    cases hengine : s.engine
    all_goals
      rw [← hrunning, State.enterHoldWait, show (s.taken 3 (channelByte n)).engine = _ from hengine]
      rfl
  · exact hexec.trans (congrArg _ (State.holdChannel_at_once (s := s.taken 3 (channelByte n)) h))
  · exact hexec.trans (congrArg _ (State.holdChannel_of_held (s := s.taken 3 (channelByte n)) hhold))

/-- Settles O13: by the hold state, the pinned flag and the returned flag. -/
theorem releaseAndReturn : Obligations.ReleaseAndReturn := by
  unfold Obligations.ReleaseAndReturn
  intro s n hreset hbusy hnode
  have hrelease : exec (.release (channelByte n)) s = .next ((s.taken 4 (channelByte n)).releaseChannel n) :=
    exec_of_channel hreset hbusy n hnode rfl
  have hreturn : exec (.returnBuffer (channelByte n)) s = .next ((s.taken 5 (channelByte n)).returnChannel n) :=
    exec_of_channel hreset hbusy n hnode rfl
  refine ⟨fun hhold => ?_, fun hhold => ?_, fun hhold hclear => ?_, fun hhold hset => ?_, fun hhold => ?_⟩
  · rw [hrelease, State.releaseChannel_of_held (s := s.taken 4 (channelByte n)) hhold]
    generalize hfreed : (s.taken 4 (channelByte n)).setRecord n ChannelRecord.becomeFree = u
    refine ⟨_, rfl, ?_, ?_, ?_⟩
    · split
      · refine (congrArg (fun t => State.endCommand t .done) (u.refill_eq n)).trans ?_
        subst hfreed
        rfl
      · subst hfreed
        rfl
    · rintro (hpinned | hhalted)
      · rw [if_neg (by simp [hpinned]), ← hfreed]
        rfl
      · split
        · refine (State.refill_fills_of_not_running (s := u) ?_).trans (hfreed ▸ rfl)
          rw [← hfreed]
          exact fun h => by simp [State.taken, hhalted] at h
        · rw [← hfreed]
          rfl
    · intro hpinned hrunning habsent hpending
      rw [if_pos (by simpa using hpinned)]
      have hcache : u.cache = s.cache := hfreed ▸ rfl
      change (u.refill n).cache.fills = _
      rw [State.refill_of_running (hfreed ▸ hrunning), hcache,
        Cache.requestFill_of_leaving hpending fun e he => .inl (habsent e he)]
  · exact hrelease.trans (congrArg _ (State.releaseChannel_of_free (s := s.taken 4 (channelByte n)) hhold))
  · exact hreturn.trans (congrArg _ ((State.returnChannel_of_free (s := s.taken 5 (channelByte n)) hhold).trans
      (if_neg (by simp [hclear]))))
  · exact hreturn.trans (congrArg _ ((State.returnChannel_of_free (s := s.taken 5 (channelByte n)) hhold).trans
      (if_pos (by simpa using hset))))
  · exact hreturn.trans (congrArg _ (State.returnChannel_of_held (s := s.taken 5 (channelByte n)) hhold))

/-! ### PIN and UNPIN -/

/-- A channel that was not pinned, once pinned, is one more (R99). -/
theorem State.pinnedCount_pin {s t : State} {n : Channel} (hn : (s.record n).pinned = false)
    (hpin : ∀ m, (t.record m).pinned = if m = n then true else (s.record m).pinned) :
    t.pinnedCount = s.pinnedCount + 1 := by
  refine Nat.le_antisymm (State.pinnedCount_pin_le n fun m hm h => ?_) ?_
  · rwa [hpin, if_neg hm] at h
  · have hnodup : (n :: (List.finRange 64).filter fun m => (s.record m).pinned).Nodup :=
      List.nodup_cons.2 ⟨fun h => by simp [hn] at h, (List.nodup_finRange 64).filter _⟩
    have hsub : (n :: (List.finRange 64).filter fun m => (s.record m).pinned) ⊆
        (List.finRange 64).filter fun m => (t.record m).pinned := by
      intro m hm
      refine List.mem_filter.2 ⟨List.mem_finRange m, ?_⟩
      rw [hpin]
      obtain rfl | hm := List.mem_cons.1 hm
      · exact if_pos rfl
      · split
        · rfl
        · exact (List.mem_filter.1 hm).2
    rw [State.pinnedCount_eq, State.pinnedCount_eq]
    exact (List.subperm_of_subset hnodup hsub).length_le

section
variable {s : State} {n : Channel} (hhold : (s.record n).hold ≠ .faulted) (hpinned : (s.record n).pinned = false)
include hhold hpinned

/-- PIN past its first two checks (R100). -/
theorem State.pinChannel_of_unpinned : s.pinChannel n =
    if 8 ≤ s.pinnedCount then s.endCommand .refusedPinLimit
    else (if (s.record n).hold = .free then (s.setRecord n fun x => { x with pinned := true }).refill n
      else s.setRecord n fun x => { x with pinned := true }).endCommand .done :=
  (if_neg hhold).trans (if_neg (Bool.eq_false_iff.mp hpinned))

end

/-- Settles O14: the checks in order, and the fill PIN asks for. -/
theorem pinAndUnpin : Obligations.PinAndUnpin := by
  unfold Obligations.PinAndUnpin
  intro s n hreset hbusy hnode
  have hpin : exec (.pin (channelByte n)) s = .next ((s.taken 6 (channelByte n)).pinChannel n) :=
    exec_of_channel hreset hbusy n hnode rfl
  have hunpin : exec (.unpin (channelByte n)) s = .next ((s.taken 7 (channelByte n)).unpinChannel n) :=
    exec_of_channel hreset hbusy n hnode rfl
  refine ⟨fun hhold => ?_, fun hhold hpinned => ?_, fun hhold hpinned hfull => ?_, fun hhold hpinned hroom => ?_,
    fun hpinned => ?_, fun hpinned => ?_⟩
  · exact hpin.trans (congrArg _ (if_pos hhold))
  · exact hpin.trans (congrArg _ ((if_neg hhold).trans (if_pos hpinned)))
  · exact hpin.trans (congrArg _ ((State.pinChannel_of_unpinned (s := s.taken 6 (channelByte n)) hhold hpinned).trans
      (if_pos hfull)))
  · rw [hpin, State.pinChannel_of_unpinned (s := s.taken 6 (channelByte n)) hhold hpinned,
      if_neg (show ¬ 8 ≤ (s.taken 6 (channelByte n)).pinnedCount from Nat.not_le.mpr hroom)]
    generalize hset : ((s.taken 6 (channelByte n)).setRecord n fun x => { x with pinned := true }) = u
    have hcache : u.cache = s.cache := hset ▸ rfl
    have hrecord (m : Channel) : u.record m = if m = n then { s.record n with pinned := true } else s.record m := by
      rw [← hset, State.record_setRecord]
      rfl
    refine ⟨_, rfl, ?_, State.pinnedCount_pin hpinned fun m => ?_, fun hnone => ?_, fun hrunning hfree hpending hleaving => ?_⟩
    · split
      · refine (congrArg (fun t => State.endCommand t .done) (u.refill_eq n)).trans ?_
        subst hset
        rfl
      · subst hset
        rfl
    · have hstatus : (if (s.record n).hold = .free then u.refill n else u).record m = u.record m := by
        split
        · rw [u.refill_eq n]
          rfl
        · rfl
      refine (congrArg ChannelRecord.pinned (hstatus.trans (hrecord m))).trans ?_
      split <;> rfl
    · change (if (s.record n).hold = .free then u.refill n else u).cache.fills = _
      split
      next hfree =>
        by_cases hrunning : u.cmd.node = .running
        · rw [State.refill_of_running hrunning, hcache]
          obtain hhalted | hheld | hpending | ⟨e, hfind, hstays⟩ := hnone
          · rw [← hset] at hrunning
            exact absurd (hrunning.symm.trans hhalted) (by decide)
          · exact absurd (hheld.symm.trans hfree) (by decide)
          · rw [Cache.requestFill_of_pending hpending]
          · rw [Cache.requestFill_of_found hfind hstays]
        · rw [State.refill_fills_of_not_running hrunning, hcache]
      next => rw [hcache]
    · change (if (s.record n).hold = .free then u.refill n else u).cache.fills = _
      rw [if_pos hfree, State.refill_of_running (hset ▸ hrunning), hcache, Cache.requestFill_of_leaving hpending hleaving]
  · exact hunpin.trans (congrArg _ (if_neg (Bool.eq_false_iff.mp hpinned)))
  · exact hunpin.trans (congrArg _ (if_pos hpinned))

/-! ### FLUSH and PURGE -/

/-- The members of a set: the entries that satisfy the condition, each with its tag (R102, R103). -/
theorem State.mem_members {s : State} {p : Entry → Bool} {e : EntryIx} {n : Channel} :
    (e, n) ∈ s.members p ↔ (s.cache.entry e).tag = n ∧ p (s.cache.entry e) = true := by
  simp [State.members, mem_entryOrder, and_comm]

/-- A set's members stand in ascending entry order (R102, R103). -/
theorem State.members_sorted (s : State) (p : Entry → Bool) : ((s.members p).map Prod.fst).Pairwise (· < ·) := by
  have horder : entryOrder.Pairwise (· < ·) := by decide
  have hmap : (s.members p).map Prod.fst = entryOrder.filter fun e => p (s.cache.entry e) := by
    simp [State.members, Function.comp_def]
  rw [hmap]
  exact horder.filter _

theorem Entry.flushMember_iff (x : Entry) : x.flushMember = true ↔
    x.state = .dirty ∨ x.state = .writing ∨ x.state = .writingDirty ∨ x.state = .evicting := by
  unfold Entry.flushMember
  cases x.state <;> simp

/-- Settles O15: the sets are those of the model, and a command without members ends. -/
theorem flushAndPurgeTakeSets : Obligations.FlushAndPurgeTakeSets := by
  unfold Obligations.FlushAndPurgeTakeSets
  intro s op hreset hbusy
  have hflush : exec (.flush op) s = .next (s.taken 8 op).flushCommand := exec_of_taken hreset hbusy rfl
  have hpurge : exec (.purge op) s = .next (s.taken 9 op).purgeCommand := exec_of_taken hreset hbusy rfl
  refine ⟨fun hnode => ⟨?_, ?_⟩, fun hnode => ⟨s.members Entry.flushMember, s.purgeSet, fun e n => ?_, fun e n => ?_,
    s.members_sorted _, s.members_sorted _, ?_, ?_⟩⟩
  · rw [hflush, State.flushCommand]
    simp only [show (s.taken 8 op).cmd.node = .halted from hnode]
    rfl
  · rw [hpurge, State.purgeCommand]
    simp only [show (s.taken 9 op).cmd.node = .halted from hnode]
    rfl
  · rw [State.mem_members, Entry.flushMember_iff]
  · rw [State.purgeSet, State.mem_members]
    refine and_congr_right fun htag => ?_
    simp [htag]
  · rw [hflush, State.flushCommand]
    simp only [show (s.taken 8 op).cmd.node = .running from hnode]
    refine congrArg _ (if_congr Iff.rfl rfl ?_)
    rw [← hnode]
    rfl
  · rw [hpurge, State.purgeCommand]
    simp only [show (s.taken 9 op).cmd.node = .running from hnode]
    refine congrArg _ (if_congr Iff.rfl rfl ?_)
    rw [← hnode]
    rfl

end Sys2Proof.Machine


/-! PROOFS. Admission on a descriptor: the guard test, the ranges of a message, and the steps of Table 4-4 in order (R21, R33,
R67, R77 to R79, R137, R138). -/

namespace Sys2Proof.Machine

/-! ### The guard test and the ranges -/

/-- What one window grants (R137, R138). -/
theorem GuardWindow.covers_iff (g : GuardWindow) (start len : Nat) (right : Right) : g.covers start len right = true ↔
    g.enable = true ∧ (right = .store → g.store = true) ∧ (right = .fetch → g.fetch = true) ∧ g.base.toNat ≤ start ∧
      start + len ≤ g.limit.toNat := by
  cases right <;> simp [GuardWindow.covers, and_assoc]

theorem guardPass_iff_window (guards : Vector GuardWindow 4) (start len : Nat) (right : Right) :
    guardPass guards start len right = true ↔ ∃ w : Fin 4, guards[w].enable = true ∧
      (right = .store → guards[w].store = true) ∧ (right = .fetch → guards[w].fetch = true) ∧
      guards[w].base.toNat ≤ start ∧ start + len ≤ guards[w].limit.toNat := by
  simp only [guardPass_iff, GuardWindow.covers_iff, Vector.mem_toList_iff, Vector.mem_iff_getElem]
  constructor
  · rintro ⟨g, ⟨i, hi, rfl⟩, hg⟩
    exact ⟨⟨i, hi⟩, hg⟩
  · rintro ⟨w, hw⟩
    exact ⟨_, ⟨w.val, w.isLt, rfl⟩, hw⟩

/-- The start of a duplicate GET's data range (R78). -/
theorem Descriptor.duplicateStart_eq (d : Descriptor) : d.duplicateStart =
    8 + (if d.mode = .alternate then (if d.active then d.addrB else d.addrA) else d.prev).toNat := by
  unfold Descriptor.duplicateStart Descriptor.activeBuffer
  cases d.mode <;> simp [Nat.add_comm]

/-- Outside a new ALTERNATE GET one data range and one record range are tested (Table 2-3). -/
theorem Descriptor.guardsPass_iff {d : Descriptor} {kind : MsgKind} (h : ¬ (d.mode = .alternate ∧ kind = .get)) (len : Nat)
    (guards : Vector GuardWindow 4) : d.guardsPass kind len guards = true ↔
      guardPass guards (d.dataStart len) len (if kind = .put then .store else .fetch) = true ∧
        guardPass guards d.recordStart 8 .store = true := by
  rw [Descriptor.guardsPass, if_neg h, Bool.and_eq_true]
  cases kind <;> rfl

/-- A new ALTERNATE GET tests both buffers (Table 2-3). -/
theorem Descriptor.guardsPass_iff_of_alternate_get {d : Descriptor} (h : d.mode = .alternate) (len : Nat)
    (guards : Vector GuardWindow 4) : d.guardsPass .get len guards = true ↔
      (guardPass guards (d.addrA.toNat + 8) len .fetch = true ∧ guardPass guards d.addrA.toNat 8 .store = true) ∧
        guardPass guards (d.addrB.toNat + 8) len .fetch = true ∧ guardPass guards d.addrB.toNat 8 .store = true := by
  rw [Descriptor.guardsPass, if_pos ⟨h, rfl⟩]
  simp only [Bool.and_eq_true, and_assoc]

theorem Descriptor.dataStart_of_ring {d : Descriptor} (h : d.mode = .ring) (len : Nat) :
    d.dataStart len = (d.dataAddr len).toNat := by
  rw [Descriptor.dataAddr_eq, Descriptor.dataStart, h]

/-! ### The steps of admission -/

section
variable {d : Descriptor} {broadcast seq seqValid : Bool} {kind : MsgKind} {len : Byte} {guards : Vector GuardWindow 4}

/-- The sift of a broadcast (R79). -/
theorem Descriptor.decideRequest_of_ignored (hbroadcast : broadcast = true)
    (h : d.mode = .off ∨ d.dir = .get ∨ d.bcast = false) :
    d.decideRequest broadcast kind seq len seqValid guards = .ignore := by
  refine if_pos ?_
  obtain h | h | h := h
  all_goals simp [hbroadcast, h]

/-- A channel that is OFF refuses (step 3). -/
theorem Descriptor.decideRequest_of_off (hbroadcast : broadcast = false) (hmode : d.mode = .off) :
    d.decideRequest broadcast kind seq len seqValid guards = .refuse .noChannel :=
  (if_neg (by simp [hbroadcast])).trans (if_pos hmode)

/-- Then a request of the other direction is refused (step 4). -/
theorem Descriptor.decideRequest_of_direction (hbroadcast : broadcast = false) (hmode : d.mode ≠ .off) (hdir : d.dir ≠ kind) :
    d.decideRequest broadcast kind seq len seqValid guards = .refuse .direction :=
  (if_neg (by simp [hbroadcast])).trans ((if_neg hmode).trans (if_pos hdir.symm))

variable (hsift : broadcast = false ∨ d.bcast = true) (hmode : d.mode ≠ .off) (hdir : d.dir = kind)
  (hput : broadcast = true → kind = .put)
include hsift hmode hdir hput

/-- Past the sift and the first two steps, the length is next (step 5). -/
theorem Descriptor.decideRequest_of_sifted : d.decideRequest broadcast kind seq len seqValid guards =
    if len = 0 ∨ d.maxLen.toNat < len.toNat then .refuse .length
    else if !broadcast && d.isDuplicate kind seq len seqValid then
      if kind = .get ∧ guardPass guards d.duplicateStart d.prevLen.toNat .fetch = false then .refuse .guard
      else .duplicate
    else if d.mode = .counted ∧ d.quota = 0 then .refuse .exhausted
    else if d.guardsPass kind len.toNat guards then .accept
    else .refuse .guard := by
  have hpasses : ¬ (broadcast && (decide (d.mode = .off) || decide (d.dir = .get) || !d.bcast)) = true := by
    obtain hbroadcast | hbcast := hsift
    · simp [hbroadcast]
    · cases hb : broadcast with
      | false => simp
      | true => simp [hmode, hbcast, hdir, hput hb]
  exact (if_neg hpasses).trans ((if_neg hmode).trans (if_neg (not_not.mpr hdir.symm)))

variable (hzero : len ≠ 0) (hmax : len.toNat ≤ d.maxLen.toNat)
include hzero hmax

/-- A duplicate (step 6, R77, R78). -/
theorem Descriptor.decideRequest_of_duplicate (hbroadcast : broadcast = false) (hvalid : seqValid = true)
    (hseq : seq = d.lastSeq) (hlen : kind = .get → len = d.prevLen) :
    d.decideRequest broadcast kind seq len seqValid guards =
      if kind = .get ∧ guardPass guards d.duplicateStart d.prevLen.toNat .fetch = false then .refuse .guard
      else .duplicate := by
  rw [Descriptor.decideRequest_of_sifted hsift hmode hdir hput, if_neg (not_or.mpr ⟨hzero, Nat.not_lt.mpr hmax⟩)]
  refine if_pos ?_
  cases kind with
  | put => simp [hbroadcast, hvalid, hseq, Descriptor.isDuplicate]
  | get => simp [hbroadcast, hvalid, hseq, hlen rfl, Descriptor.isDuplicate]

/-- A new message: the quota, then the guard test (steps 7 and 8). -/
theorem Descriptor.decideRequest_of_new
    (hnew : broadcast = true ∨ seqValid = false ∨ seq ≠ d.lastSeq ∨ (kind = .get ∧ len ≠ d.prevLen)) :
    d.decideRequest broadcast kind seq len seqValid guards =
      if d.mode = .counted ∧ d.quota = 0 then .refuse .exhausted
      else if d.guardsPass kind len.toNat guards then .accept else .refuse .guard := by
  rw [Descriptor.decideRequest_of_sifted hsift hmode hdir hput, if_neg (not_or.mpr ⟨hzero, Nat.not_lt.mpr hmax⟩)]
  refine if_neg ?_
  obtain h | h | h | ⟨hget, hlen⟩ := hnew
  · simp [h]
  · simp [h, Descriptor.isDuplicate]
  · simp [h, Descriptor.isDuplicate]
  · simp [hget, hlen, Descriptor.isDuplicate]

end

/-- Settles O21: the guard test, the ranges, and each step of admission. -/
theorem admissionOrder : Obligations.AdmissionOrder := by
  unfold Obligations.AdmissionOrder
  refine ⟨guardPass_iff_window, fun d len => ⟨fun h => ?_, fun h => ?_, fun h => ?_⟩,
    fun d kind len guards => ⟨fun h hkind => ?_, fun h hkind => ?_, fun h => ?_, fun h => ?_⟩,
    fun d broadcast seq seqValid kind len guards => ⟨Descriptor.decideRequest_of_ignored, Descriptor.decideRequest_of_off,
      Descriptor.decideRequest_of_direction, fun hsift hmode hdir hput => ⟨fun hlength => ?_, fun hzero hmax =>
        ⟨fun hb hvalid hseq hlen => ?_, fun hnew => ⟨fun hcounted hquota => ?_, fun hquota => ?_⟩⟩⟩⟩⟩
  · simp only [Descriptor.dataAddr_eq, Descriptor.recordAddr_eq, Descriptor.duplicateData_eq, h]
    exact ⟨trivial, trivial, trivial⟩
  · simp only [Descriptor.dataAddr_eq, Descriptor.recordAddr_eq, Descriptor.duplicateData_eq, h]
    exact ⟨rfl, rfl, rfl⟩
  · simp only [Descriptor.dataAddr_eq, Descriptor.recordAddr_eq, h]
    exact ⟨trivial, rfl⟩
  · subst hkind
    exact Descriptor.guardsPass_iff_of_alternate_get h len guards
  · subst hkind
    rw [Descriptor.guardsPass_iff (by simp), Descriptor.dataStart, Descriptor.recordStart, h]
    exact Iff.rfl
  · rw [Descriptor.guardsPass_iff (by simp [h]), Descriptor.dataStart, Descriptor.recordStart, h]
  · rw [Descriptor.guardsPass_iff (by simp [h]), Descriptor.dataStart_of_ring h, Descriptor.recordStart, h]
  · exact (Descriptor.decideRequest_of_sifted hsift hmode hdir hput).trans (if_pos hlength)
  · rw [← Descriptor.duplicateStart_eq]
    exact Descriptor.decideRequest_of_duplicate hsift hmode hdir hput hzero hmax hb hvalid hseq hlen
  · exact (Descriptor.decideRequest_of_new hsift hmode hdir hput hzero hmax hnew).trans (if_pos ⟨hcounted, hquota⟩)
  · refine (Descriptor.decideRequest_of_new hsift hmode hdir hput hzero hmax hnew).trans (if_neg ?_)
    exact fun ⟨hcounted, hempty⟩ => hquota.elim (· hcounted) (· hempty)

end Sys2Proof.Machine


/-! PROOFS. A message's data given up (R64, R129): what the data mover holds and presents after it; and the body bytes of a
PUT (R72, R128, R132). -/

namespace Sys2Proof.Machine

/-! ### A segment discarded (R129) -/

/-- The segments after that of `msg` has been discarded: what a granted burst carries stays, and what is done with goes. -/
def State.segmentsWithout (s : State) (msg : Nat) : List Segment :=
  (s.mover.modify msg fun x => x.discard (s.port.carried msg)).segments.filter fun x =>
    x.stays (s.port.carried x.msg).isSome

/-- The store client's request for `msg` withdrawn (R129). -/
def Port.withdrawStore (p : Port) (msg : Nat) : Port := { p with store := if p.store = some msg then none else p.store }

/-- The discarding of a segment, as one change of the data mover and one of the store client (R129, R130). -/
theorem State.discardSegment_eq (s : State) (msg : Nat) : s.discardSegment msg = { s with
    mover := { s.mover with segments := s.segmentsWithout msg }
    port := { s.port.withdrawStore msg with
      store := (s.port.withdrawStore msg).storeLook (s.segmentsWithout msg) } } := by
  rw [State.discardSegment, State.presentStore_eq]
  rfl

/-- A second look at the same segments presents nothing more (R130). -/
theorem Port.storeLook_storeLook (p : Port) (segments : List Segment) :
    ({ p with store := p.storeLook segments } : Port).storeLook segments = p.storeLook segments := by
  by_cases hfree : p.store = none ∧ p.inFlight.map (fun b => b.kind.client) ≠ some .store
  · cases hlook : p.storeLook segments with
    | some m => exact if_neg (by simp)
    | none =>
      rw [← hlook]
      have hstore : p.store = p.storeLook segments := hfree.1.trans hlook.symm
      rw [← hstore]
      exact hlook.trans hfree.1.symm
  · have hlook : p.storeLook segments = p.store := if_neg hfree
    rw [hlook]
    exact hlook

/-- A message none of whose segments is STORING is not presented, unless it was (R130). -/
theorem Port.storeLook_ne {p : Port} {msg : Nat} {segments : List Segment} (hport : p.store ≠ some msg)
    (hsegments : ∀ x ∈ segments, x.msg = msg → x.state ≠ .storing) : p.storeLook segments ≠ some msg := by
  unfold Port.storeLook
  split
  · split
    next x hfind =>
      split
      · intro hmsg
        have hstoring := List.find?_some hfind
        simp only [decide_eq_true_eq] at hstoring
        exact hsegments x (List.mem_of_find?_eq_some hfind) (Option.some.inj hmsg) hstoring.1
      · exact nofun
    next => exact nofun
  · exact hport

/-- Every segment of `msg` that stays is DISCARDING. -/
theorem State.segmentsWithout_discarding {s : State} {msg : Nat} {x : Segment} (hx : x ∈ s.segmentsWithout msg)
    (hmsg : x.msg = msg) : x.state = .discarding := by
  obtain ⟨y, -, rfl⟩ := List.mem_map.1 (List.mem_filter.1 hx).1
  split
  · rfl
  next hy => exact absurd (by rwa [if_neg hy] at hmsg) hy

/-- A segment discarded a second time holds no less: it is not changed. -/
theorem Segment.discard_discard (x : Segment) (carried : Option Nat) :
    (x.discard carried).discard carried = x.discard carried := by
  simp [Segment.discard]

/-- A segment given up has no request at the port (R129). -/
theorem State.discardSegment_store_ne (s : State) (msg : Nat) : (s.discardSegment msg).port.store ≠ some msg := by
  rw [State.discardSegment_eq]
  refine Port.storeLook_ne (fun h => ?_) fun x hx hmsg => ?_
  · rw [Port.withdrawStore] at h
    split at h
    · exact nomatch h
    next hother => exact hother h
  · rw [State.segmentsWithout_discarding hx hmsg]
    exact nofun

/-- The request in progress does not matter to the data mover. -/
theorem State.discardSegment_withEngine (s : State) (engine : Option Request) (msg : Nat) :
    ({ s with engine := engine } : State).discardSegment msg = { s.discardSegment msg with engine := engine } := by
  rw [State.discardSegment_eq, State.discardSegment_eq]
  rfl

/-- A segment is discarded once (R129). -/
theorem State.discardSegment_discardSegment (s : State) (msg : Nat) :
    (s.discardSegment msg).discardSegment msg = s.discardSegment msg := by
  have hsegments : (s.discardSegment msg).segmentsWithout msg = s.segmentsWithout msg := by
    have hmap : (s.segmentsWithout msg).map (fun x => if x.msg = msg then x.discard (s.port.carried msg) else x) =
        s.segmentsWithout msg := by
      refine (List.map_congr_left fun x hx => ?_).trans (List.map_id _)
      obtain ⟨y, -, rfl⟩ := List.mem_map.1 (List.mem_filter.1 hx).1
      split
      next hmsg =>
        split
        next => exact Segment.discard_discard y _
        next hy => exact absurd hmsg hy
      next => rfl
    have hstays : (s.segmentsWithout msg).filter (fun x => x.stays (s.port.carried x.msg).isSome) = s.segmentsWithout msg :=
      List.filter_eq_self.2 fun x hx => (List.mem_filter.1 hx).2
    rw [State.discardSegment_eq]
    exact (congrArg (List.filter _) hmap).trans hstays
  have hport : (s.discardSegment msg).port.withdrawStore msg = (s.discardSegment msg).port := by
    rw [Port.withdrawStore, if_neg (s.discardSegment_store_ne msg)]
  rw [State.discardSegment_eq (s.discardSegment msg), hsegments, hport, State.discardSegment_eq s]
  simp only [Port.storeLook_storeLook]

/-- The segment of a frame that is still open is found, discarded (R129). -/
theorem State.discardSegment_segment {s : State} {msg : Nat} {x : Segment} (h : s.mover.segment msg = some x)
    (hopen : x.frameEnded = false) :
    (s.discardSegment msg).mover.segment msg = some (x.discard (s.port.carried msg)) := by
  have hmodify := (s.mover.segment_modify msg msg (f := fun x => x.discard (s.port.carried msg)) fun _ => rfl).trans
    (if_pos rfl)
  rw [h, Option.map_some] at hmodify
  unfold State.discardSegment
  rw [State.presentStore_eq]
  refine State.sweepSegments_segment hmodify ?_
  simp [Segment.stays, Segment.discard, hopen]

/-- A request that is not a broadcast whose frame has closed gives up its data, and waits (Table 4-2, R129). -/
theorem State.conclude_of_open {s : State} {r : Request} (v : Verdict) (h : r.broadcast = false ∨ r.closed = false) :
    s.conclude r v = ({ s with engine := some { r with verdict := v, phase := .awaitReady } } : State).abandonData r := by
  have hengine : (({ s with engine := some { r with verdict := v, phase := .awaitReady } } : State).abandonData r).engine =
      some { r with verdict := v, phase := .awaitReady } := State.abandonData_engine _ r
  rw [State.conclude, State.settleBroadcast, hengine]
  refine if_neg ?_
  rintro ⟨hbroadcast, hclosed, -⟩
  simp_all

theorem State.abandonData_of_put {s : State} {r : Request} (h : r.kind = .put) :
    s.abandonData r = s.discardSegment r.msg := by
  rw [State.abandonData, h]

theorem State.abandonData_of_get {s : State} {r : Request} (h : r.kind = .get) :
    s.abandonData r = s.abandonFetch r.msg := by
  rw [State.abandonData, h]

/-! ### Body bytes (R72, R128, R132) -/

section
variable {s : State} {msg : Nat} {x : Segment} (hsegment : s.mover.segment msg = some x) (b : Byte)
include hsegment

/-- A byte for a DISCARDING segment is dropped (R128). -/
theorem State.stageByte_of_discarding (hstate : x.state = .discarding) :
    s.stageByte msg b = { s with mover := s.mover.modify msg fun x => { x with due := x.due - 1 } } := by
  have hfate : s.mover.byteFate msg = .ignored := by simp [Mover.byteFate, hsegment, hstate]
  rw [State.stageByte, hfate]

variable (hstate : x.state ≠ .discarding)
include hstate

/-- A byte joins its segment while the buffer has room, and the store client looks (R128, R130). -/
theorem State.stageByte_of_room (hroom : s.mover.occupancy < 256) : s.stageByte msg b =
    ({ s with mover := s.mover.modify msg fun x => { x with held := x.held ++ [b], due := x.due - 1 } } : State).presentStore := by
  have hfate : s.mover.byteFate msg = .staged := by
    simp [Mover.byteFate, hsegment, hstate, Config.receiveCapacity, hroom]
  rw [State.stageByte, hfate]

/-- An overflow discards the segment and marks the request, an accepted one turning to BUSY or a drop (R72, R132). -/
theorem State.stageByte_of_overflow (hfull : 256 ≤ s.mover.occupancy) {r : Request} (hengine : s.engine = some r)
    (hmsg : r.msg = msg) (hkind : r.kind = .put) (hclosed : r.closed = false) : s.stageByte msg b =
    { ({ s with mover := s.mover.modify msg fun x => { x with due := x.due - 1 } } : State).discardSegment msg with
      engine := some (if r.verdict = .acceptNew then
          { r with overflow := true, phase := .awaitReady
                   verdict := if r.broadcast then .dropped true else .busyOverflow }
        else { r with overflow := true }) } := by
  have hfate : s.mover.byteFate msg = .overflow := by
    simp [Mover.byteFate, hsegment, hstate, Config.receiveCapacity, Nat.not_lt.mpr hfull]
  subst hmsg
  generalize hu : ({ s with mover := s.mover.modify r.msg fun x => { x with due := x.due - 1 } } : State) = u
  have hdiscarded : (u.discardSegment r.msg).engine = some r := by simp [← hu, hengine]
  rw [State.stageByte, hfate]
  simp only [hu, hdiscarded, if_true]
  by_cases haccept : r.verdict = .acceptNew
  · rw [if_pos haccept, if_pos haccept, State.conclude_of_open (r := { r with overflow := true }) _ (.inr hclosed),
      State.abandonData_of_put (by exact hkind)]
    rw [State.discardSegment_withEngine, State.discardSegment_discardSegment]
  · rw [if_neg haccept, if_neg haccept]

end

/-- Dropping a byte leaves what the segments hold (R128). -/
theorem Mover.occupancy_modify_due (m : Mover) (msg : Nat) :
    (m.modify msg fun x => { x with due := x.due - 1 }).occupancy = m.occupancy := by
  unfold Mover.occupancy Mover.modify
  rw [List.map_map]
  congr 1
  refine List.map_congr_left fun x _ => ?_
  simp only [Function.comp_apply]
  split <;> rfl

/-- Settles O22: the receiver's own count, and what becomes of the byte in each state of its segment. -/
theorem bodyByteStagedOrOverflows : Obligations.BodyByteStagedOrOverflows := by
  unfold Obligations.BodyByteStagedOrOverflows
  refine ⟨fun s f h b hreset hnode hrx hcls hheader hmin hmax => ?_,
    fun s f b0 b1 b2 b3 b r x hreset hnode hrx hcls hheader hput hmin hmax hmsg hengine hkind hclosed hsegment hstate
      hopen => ?_⟩
  · have hforeign : f.cls ≠ some .foreign := by rintro h; simp [h] at hcls
    obtain ⟨hnone, hsome⟩ := s.takeByte_of_body hforeign hheader hmin b hmax
    have hexec := exec_dataSymbol_eq hreset hnode b
    rw [State.takeData_of_open hrx] at hexec
    refine ⟨fun hm => hexec.trans (congrArg _ (hnone hm)), fun m x hm hsegment hdiscarding => ?_⟩
    rw [hsome m hm, State.stageByte_of_discarding (by exact hsegment) b hdiscarding] at hexec
    refine ⟨_, hexec, rfl, ?_, s.mover.occupancy_modify_due m, fun k hk => ?_⟩
    · exact (s.mover.segment_modify m m (f := fun x => { x with due := x.due - 1 }) fun _ => rfl).trans
        ((if_pos rfl).trans (by rw [hsegment]; rfl))
    · exact (s.mover.segment_modify m k (f := fun x => { x with due := x.due - 1 }) fun _ => rfl).trans (if_neg hk)
  · have hforeign : f.cls ≠ some .foreign := by rintro h; simp [h] at hcls
    have hhead : headerOf f.header = some ⟨.put, b0.getLsbD 7, b2, b3⟩ := by
      rw [hheader, headerOf, frameKind_of_put hput]
      rfl
    obtain ⟨-, hsome⟩ := s.takeByte_of_body hforeign hhead hmin b hmax
    have hexec := exec_dataSymbol_eq hreset hnode b
    rw [State.takeData_of_open hrx, hsome _ hmsg] at hexec
    by_cases hroom : s.mover.occupancy < 256
    · rw [State.stageByte_of_room (by exact hsegment) b hstate (by exact hroom), State.presentStore_eq] at hexec
      refine ⟨_, { x with held := x.held ++ [b], due := x.due - 1 }, hexec, rfl, ?_, rfl, rfl, rfl, rfl, rfl,
        fun _ => ⟨rfl, rfl, rfl⟩, fun h => by omega⟩
      exact (s.mover.segment_modify r.msg r.msg (f := fun x => { x with held := x.held ++ [b], due := x.due - 1 })
        fun _ => rfl).trans ((if_pos rfl).trans (by rw [hsegment]; rfl))
    · rw [State.stageByte_of_overflow (by exact hsegment) b hstate (by exact Nat.not_lt.mp hroom) (by exact hengine) rfl hkind
        hclosed] at hexec
      generalize hw : s.setRx _ = w at hexec
      generalize hu : ({ w with mover := w.mover.modify r.msg fun x => { x with due := x.due - 1 } } : State) = u at hexec
      have hfound : u.mover.segment r.msg = some { x with due := x.due - 1 } := by
        rw [← hu, ← hw]
        exact (s.mover.segment_modify r.msg r.msg (f := fun x => { x with due := x.due - 1 }) fun _ => rfl).trans
          ((if_pos rfl).trans (by rw [hsegment]; rfl))
      have hcarried : u.port = s.port := by rw [← hu, ← hw]; rfl
      have hframe := u.discardSegment_eq r.msg
      refine ⟨_, _, hexec, ?_, State.discardSegment_segment hfound hopen, ?_, ?_, ?_, ?_, ?_, fun h => by omega, fun _ =>
        ⟨?_, u.discardSegment_store_ne r.msg, ?_, _, rfl, ?_, fun haccept => ?_, fun haccept => if_neg haccept⟩⟩
      case refine_7 => rw [hcarried]; rfl
      case refine_8 => rw [hframe, hcarried]; rfl
      case refine_9 => split <;> rfl
      case refine_10 => rw [if_pos haccept]; exact ⟨rfl, rfl⟩
      all_goals
        rw [hframe, ← hu, ← hw]
        rfl

end Sys2Proof.Machine


/-! PROOFS. A PUT or GET header handed to the exchange engine (R46, R48, R63): the hold-state check (R65, R79, R109), the
lookup (R88), and the decision of a request that hits (R66 to R68, R77, R78). -/

namespace Sys2Proof.Machine

/-! ### The request a header forms (R63) -/

/-- The request record of a PUT or GET header. -/
def Request.fresh (kind : MsgKind) (broadcast : Bool) (n : Channel) (seq : Bool) (length : Byte) (msg : Nat) : Request :=
  ⟨kind, broadcast, n, seq, length, .lookup, .undecided, none, none, false, false, .none, false, false, false, msg⟩

/-- The state in which the engine, IDLE before, has formed the request `r` from the header of the frame `g` (R63, R128). -/
def State.received (s : State) (g : Frame) (r : Request) : State :=
  { s with
    link := { s.link with rx := .receiving g }
    engine := some r
    nextMsg := s.nextMsg + 1
    mover := match r.kind with
      | .put => s.mover.openSegment s.nextMsg r.length
      | .get => s.mover }

/-- The frame kind of a message kind (Table 3-2). -/
def MsgKind.frameKind : MsgKind → FrameKind
  | .put => .put
  | .get => .get

theorem MsgKind.msgKind_frameKind (kind : MsgKind) : kind.frameKind.msgKind = some kind := by
  cases kind <;> rfl

/-- The frame `f` after its fourth byte, handed over as message `msg` (R46, R48). -/
def Frame.handedOver (f : Frame) (nodeAddress : BitVec 6) (len : Byte) (msg : Nat) : Frame :=
  { f.takeHeaderByte nodeAddress len with msg := some msg }

/-- The fourth byte of a good PUT or GET header while RUNNING reaches the engine, whatever it does (R46, R48). -/
theorem exec_dataSymbol_of_header {s : State} {f : Frame} {b0 b1 b2 : Byte} {kind : MsgKind}
    (hfourth : s.AtFourthByte f b0 b1 b2) (hrunning : s.cmd.node = .running) (hchannel : b2.toNat ≤ 63)
    (hkind : kind = .put ∧ b0 &&& 0x7F = 1 ∨ kind = .get ∧ b0 &&& 0x7F = 2 ∧ f.cls = some .addressed) (len : Byte) :
    exec (.dataSymbol len) s =
      .next ((s.setRx (.receiving (f.handedOver s.host.nodeAddress len s.nextMsg))).takeHeader kind
        (decide (f.cls = some .broadcast)) ⟨kind.frameKind, b0.getLsbD 7, b2, len⟩) := by
  obtain ⟨hreset, hnode, hrx, hcount, hheader, hcls⟩ := hfourth
  obtain ⟨cls, hown, hfcls⟩ : ∃ cls : FrameClass, cls ≠ .foreign ∧ f.cls = some cls := by
    obtain hcls | hcls := hcls
    · exact ⟨_, FrameClass.noConfusion, hcls⟩
    · exact ⟨_, FrameClass.noConfusion, hcls⟩
  have hbroadcast : decide (cls = .broadcast) = decide (f.cls = some .broadcast) := by simp [hfcls]
  obtain ⟨hframe, hgood⟩ : frameKind b0 = some kind.frameKind ∧
      RequestHeader.good ⟨kind.frameKind, b0.getLsbD 7, b2, len⟩ cls = true := by
    obtain ⟨rfl, hput⟩ | ⟨rfl, hget, haddressed⟩ := hkind
    · exact ⟨frameKind_of_put hput, by simp [RequestHeader.good, MsgKind.frameKind, hchannel]⟩
    · cases haddressed.symm.trans hfcls
      exact ⟨frameKind_of_get hget, by simp [RequestHeader.good, MsgKind.frameKind, hchannel]⟩
  have hsome : headerOf (f.takeHeaderByte s.host.nodeAddress len).header =
      some ⟨kind.frameKind, b0.getLsbD 7, b2, len⟩ := by
    simp only [Frame.takeHeaderByte, hheader, List.cons_append, List.nil_append, headerOf, hframe]
    rfl
  rw [exec_dataSymbol_eq hreset hnode, State.takeData_of_open hrx, State.takeByte_of_fourth s hfcls hown hcount]
  simp only [State.headerComplete, hsome, hgood, kind.msgKind_frameKind, hrunning, Bool.true_eq_false, if_false, if_true,
    hbroadcast, Frame.handedOver]

theorem State.overtake_of_idle {s : State} (hengine : s.engine = none) : s.overtake = s := by
  rw [State.overtake, hengine]

/-- A header that reaches an IDLE engine goes to the hold-state check (R63, R65). -/
theorem exec_dataSymbol_of_headerReaches {s : State} {f : Frame} {b0 b1 b2 : Byte} {kind : MsgKind} {n : Channel}
    (h : s.HeaderReaches f b0 b1 b2 kind) (hchannel : n.val = b2.toNat) (len : Byte) :
    ∃ g : Frame, g.msg = some s.nextMsg ∧ exec (.dataSymbol len) s =
      .next ((s.received g (.fresh kind (decide (f.cls = some .broadcast)) n (b0.getLsbD 7) len s.nextMsg)).holdCheck
        (.fresh kind (decide (f.cls = some .broadcast)) n (b0.getLsbD 7) len s.nextMsg)) := by
  obtain ⟨hfourth, hrunning, hengine, hbound, hkind⟩ := h
  have hn : channelOf b2 = n := by
    refine Fin.ext ?_
    simp only [channelOf]
    omega
  have hrequest : Request.ofHeader kind (decide (f.cls = some .broadcast)) ⟨kind.frameKind, b0.getLsbD 7, b2, len⟩ s.nextMsg =
      .fresh kind (decide (f.cls = some .broadcast)) n (b0.getLsbD 7) len s.nextMsg := by
    rw [Request.ofHeader, hn]
    rfl
  refine ⟨f.handedOver s.host.nodeAddress len s.nextMsg, rfl,
    (exec_dataSymbol_of_header hfourth hrunning hbound hkind len).trans (congrArg _ ?_)⟩
  unfold State.takeHeader
  rw [State.overtake_of_idle (s := s.setRx (.receiving (f.handedOver s.host.nodeAddress len s.nextMsg))) hengine,
    ← hrequest]
  simp only [State.setRx_nextMsg]
  cases kind <;> rfl

/-! ### The hold-state check (R65, R79, R109) -/

section
variable {s : State} {r : Request}

theorem State.holdCheck_of_free (hhold : (s.record r.channel).hold = .free) : s.holdCheck r = s.lookup r := by
  rw [State.holdCheck, hhold]

/-- A channel that is not FREE decides its request. -/
theorem State.holdCheck_of_not_free (hhold : (s.record r.channel).hold ≠ .free) (hby : r.byHold = false) :
    s.holdCheck r = s.conclude { r with byHold := decide ((s.record r.channel).hold = .holdWait) }
      (if r.broadcast then .dropped false
        else if (s.record r.channel).hold = .faulted then .refuseFault .none else .busyHold) := by
  rw [State.holdCheck]
  cases h : (s.record r.channel).hold with
  | free => exact absurd h hhold
  | faulted =>
    obtain ⟨⟩ := r
    cases hby
    rfl
  | holdWait => rfl
  | held => rfl

end

/-- A request that gives up its data leaves the cache, the channels and the events (R64, R129). -/
theorem State.conclude_of_open_frame {s : State} {r : Request} (v : Verdict) (h : r.broadcast = false ∨ r.closed = false) :
    (s.conclude r v).engine = some { r with verdict := v, phase := .awaitReady } ∧ (s.conclude r v).cache = s.cache ∧
      (s.conclude r v).writer = s.writer := by
  rw [State.conclude_of_open v h]
  simp

/-! ### A lookup that misses (R88, R89) -/

theorem State.lookup_of_miss {s : State} {r : Request}
    (hmiss : ∀ e, s.cache.find r.channel = some e → (s.cache.entry e).state.answers = false) :
    s.lookup r = { s with cache := s.cache.requestFill r.channel } := by
  rw [State.lookup]
  cases hfind : s.cache.find r.channel with
  | none => rfl
  | some e => simp only [hmiss e hfind, Bool.false_eq_true, if_false]

/-- A channel whose entry is being cast out asks for a fill, unless one is pending (R89). -/
theorem Cache.requestFill_of_evicting {c : Cache} {n : Channel} {e : EntryIx} (hpending : c.fillPending n = false)
    (hfind : c.find n = some e) (hevicting : (c.entry e).state = .evicting) :
    c.requestFill n = { c with fills := c.fills ++ [n] } := by
  rw [Cache.requestFill, if_neg (Bool.eq_false_iff.mp hpending), hfind]
  exact if_pos hevicting

/-- Settles O19: the hold state decides, or the lookup misses and waits. -/
theorem headerReadsHoldState : Obligations.HeaderReadsHoldState := by
  unfold Obligations.HeaderReadsHoldState
  intro s f b0 b1 b2 len kind n hreaches hchannel
  obtain ⟨g, hmsg, hexec⟩ := exec_dataSymbol_of_headerReaches hreaches hchannel len
  generalize hr : Request.fresh kind (decide (f.cls = some .broadcast)) n (b0.getLsbD 7) len s.nextMsg = r at hexec
  have hrecord : (s.received g r).record r.channel = s.record n := by subst hr; rfl
  by_cases hfree : (s.record n).hold = .free
  · have hfind : (s.received g r).cache.find r.channel = s.cache.find n := by subst hr; rfl
    refine ⟨_, r, g, hexec, ?_, hmsg, ?_, ?_, ?_, ?_, ?_, ?_, ?_, ?_, ?_, ?_, ?_, ?_, ?_, fun h => absurd hfree h,
      fun _ hmiss => ?_⟩
    case refine_15 =>
      rw [State.holdCheck_of_free (by rwa [hrecord]), State.lookup_of_miss fun e he => ?_]
      · have hchannel : r.channel = n := by subst hr; rfl
        rw [hchannel]
        refine ⟨rfl, ?_, ?_, ?_, ?_, rfl, rfl, rfl, fun hnone => ?_, fun hpending hasked => ?_, ?_⟩
        case refine_5 =>
          obtain hpending | ⟨e, he, hfilling⟩ := hnone
          · exact Cache.requestFill_of_pending hpending
          · exact Cache.requestFill_of_found he fun h => nomatch hfilling.symm.trans h
        case refine_6 =>
          obtain habsent | ⟨e, he, hevicting⟩ := hasked
          · exact Cache.requestFill_of_leaving hpending fun e he => .inl (habsent e he)
          · exact Cache.requestFill_of_evicting hpending he hevicting
        all_goals subst hr
        case refine_7 => cases kind <;> simp [State.received, Request.fresh, Mover.openSegment]
        all_goals rfl
      · rw [hfind] at he
        change (s.cache.entry e).state.answers = false
        obtain habsent | ⟨e', he', hstate⟩ | ⟨e', he', hstate⟩ := hmiss
        · exact nomatch (Cache.find_none.2 habsent).symm.trans he
        all_goals
          cases he'.symm.trans he
          rw [hstate]
          rfl
    all_goals subst hr
    all_goals simp [State.received, Request.fresh]
  · rw [State.holdCheck_of_not_free (by rwa [hrecord]) (by subst hr; rfl), hrecord] at hexec
    obtain ⟨hengine, hcache, hwriter⟩ := State.conclude_of_open_frame (s := s.received g r)
      (r := { r with byHold := decide ((s.record n).hold = .holdWait) })
      (if r.broadcast then .dropped false else if (s.record n).hold = .faulted then .refuseFault .none else .busyHold)
      (.inr (by subst hr; rfl))
    refine ⟨_, _, g, hexec, ?_, hmsg, ?_, ?_, ?_, ?_, ?_, ?_, ?_, ?_, ?_, ?_, ?_, ?_, ?_, fun _ =>
      ⟨hengine, rfl, ?_, ?_, hcache, ?_, hwriter, rfl⟩, fun h => absurd h hfree⟩
    all_goals subst hr
    all_goals simp [State.received, Request.fresh]

end Sys2Proof.Machine


/-! PROOFS. A PUT or GET header that hits: the touch, the mark, and what each decision leaves (R31, R66 to R68, R77, R78, R87,
R128 to R130, R134). -/

namespace Sys2Proof.Machine

/-- The entry `e` has been touched and marked for a request (R66, R87). -/
def State.hit (s : State) (e : EntryIx) : State := { s with cache := (s.cache.touch e).setInUse e true }

theorem State.hit_entry (s : State) (e : EntryIx) :
    (s.hit e).cache.entry e = { s.cache.entry e with age := 0, inUse := true } := by
  simp [State.hit, Cache.entry_setInUse, Cache.entry_touch]

theorem State.hit_context (s : State) (e : EntryIx) : (s.hit e).context e = s.context e :=
  (congrArg Entry.context (s.hit_entry e)).trans rfl

/-- A lookup that is answered (R66, R88). -/
theorem State.lookup_of_hit {s : State} {r : Request} {e : EntryIx} (hfind : s.cache.find r.channel = some e)
    (hanswers : (s.cache.entry e).state.answers = true) :
    s.lookup r = ({ s with cache := s.cache.touch e } : State).admitRequest r e := by
  rw [State.lookup, hfind]
  exact if_pos hanswers

section
variable {s : State} {r : Request} {e : EntryIx}

/-- What each decision of steps 3 to 9 does (R66, R67). -/
theorem State.admitRequest_of_hit {decision : Decision}
    (hdecision : (s.context e).decideRequest r.broadcast r.kind r.seq r.length (s.record r.channel).seqValid s.mover.guards =
      decision) :
    (decision = .ignore → ({ s with cache := s.cache.touch e } : State).admitRequest r e =
      (s.hit e).conclude { r with entry := some e } .ignored) ∧
    (∀ reason, decision = .refuse reason → ({ s with cache := s.cache.touch e } : State).admitRequest r e =
      (s.hit e).conclude { r with entry := some e } (if r.broadcast then .dropped true else .refuse reason)) ∧
    (decision = .duplicate → ({ s with cache := s.cache.touch e } : State).admitRequest r e =
      (s.hit e).acceptDuplicate { r with entry := some e } e) ∧
    (decision = .accept → ({ s with cache := s.cache.touch e } : State).admitRequest r e =
      (s.hit e).acceptNew { r with entry := some e } e) := by
  have hcontext : ({ s with cache := s.cache.touch e } : State).context e = s.context e := by
    simp [State.context, Cache.entry_touch]
  have hsame : ({ s with cache := s.cache.touch e } : State).record r.channel = s.record r.channel := rfl
  unfold State.admitRequest
  simp only [hcontext, hsame, hdecision]
  refine ⟨?_, ?_, ?_, ?_⟩
  · rintro rfl; rfl
  · rintro reason rfl; rfl
  · rintro rfl; rfl
  · rintro rfl; rfl

end

/-! ### The data of the message (R128 to R130, R134) -/

/-- The segment that was just opened, discarded (R128, R129). -/
theorem State.discardSegment_opened {s : State} {m : Mover} {msg : Nat} {len : Byte} (hmover : s.mover = m.openSegment msg len) :
    Segment.mk msg .discarding 0 [] len.toNat false false ∈ (s.discardSegment msg).mover.segments ∧
      (s.port.store ≠ some msg → (s.discardSegment msg).port =
        { s.port with store := s.port.storeLook (s.discardSegment msg).mover.segments }) := by
  rw [State.discardSegment_eq]
  refine ⟨List.mem_filter.2 ⟨List.mem_map.2 ⟨⟨msg, .waiting, 0, [], len.toNat, false, false⟩, ?_, ?_⟩, ?_⟩, fun hstore => ?_⟩
  · rw [hmover, Mover.openSegment]
    simp
  · simp [Segment.discard]
  · simp [Segment.stays]
  · rw [Port.withdrawStore, if_neg hstore]

/-- The segment that was just opened, STORING from `a` (R68, R128). -/
theorem Mover.modify_opened (m : Mover) (msg : Nat) (len : Byte) (a : Addr) :
    let m1 := (m.openSegment msg len).modify msg fun x => { x with state := .storing, next := a }
    Segment.mk msg .storing a [] len.toNat false false ∈ m1.segments ∧
      ∀ x ∈ m1.segments, x.msg = msg → x.state = .storing ∧ x.next = a := by
  refine ⟨List.mem_map.2 ⟨⟨msg, .waiting, 0, [], len.toNat, false, false⟩, ?_, if_pos rfl⟩, fun x hx hmsg => ?_⟩
  · simp [Mover.openSegment]
  · obtain ⟨y, -, rfl⟩ := List.mem_map.1 hx
    by_cases hy : y.msg = msg
    · rw [if_pos hy]
      exact ⟨rfl, rfl⟩
    · exact absurd (by rwa [if_neg hy] at hmsg) hy

/-- The buffer set to serve a message, and what the fetch client then presents (R134). -/
theorem State.startFetch_eq (s : State) (msg : Nat) (a : Addr) (len : Nat) : s.startFetch msg a len = { s with
    mover := { s.mover with staging := some ⟨msg, a, len, []⟩ }
    port := { s.port with fetch := s.port.fetchLook (some ⟨msg, a, len, []⟩) } } := by
  rw [State.startFetch, State.presentFetch_eq]

/-! ### The swap of a new ALTERNATE GET (R31) -/

section
variable {s : State} {r : Request} {e : EntryIx}

theorem State.swapForGet_of_not (h : ¬ ((s.context e).mode = .alternate ∧ (s.record r.channel).returned = true)) :
    s.swapForGet r e = s := if_neg h

/-- ACTIVE flips and the returned flag clears, with a milestone when it is enabled (R31). -/
theorem State.swapForGet_of_returned (h : (s.context e).mode = .alternate ∧ (s.record r.channel).returned = true) :
    s.swapForGet r e = { s with
      cache := s.cache.change e fun d => d.setActive (!d.active)
      status := modifyAt s.status r.channel fun x => { x with returned := false }
      writer := if (s.context e).evMilestone then s.writer.take ⟨.milestone, channelByte r.channel, 2, s.link.cycle,
        s.link.offset, if (s.context e).active then 0 else 1, 0⟩ else s.writer } := by
  rw [State.swapForGet, if_pos h]
  have haux : (BitVec.ofBool (!(s.context e).active)).setWidth 16 = if (s.context e).active then 0#16 else 1#16 := by
    cases (s.context e).active <;> rfl
  rw [haux]
  split <;> rfl

/-- Bits of W6 other than ACTIVE stay (Table 11-4). -/
theorem Descriptor.setActive_w6 (d : Descriptor) (b : Bool) {i : Nat} (hi : i ≠ 1) :
    (d.setActive b).w6.getLsbD i = d.w6.getLsbD i := by
  by_cases hlt : i < 32
  · exact getBit_putBit_ne d.w6 hlt hi b
  · rw [BitVec.getLsbD_of_ge _ _ (by omega), BitVec.getLsbD_of_ge _ _ (by omega)]

end

section
variable {s : State} {r : Request} {e : EntryIx}

/-- A PUT admitted before any overflow (R68). -/
theorem State.acceptNew_of_put (hkind : r.kind = .put) (hoverflow : r.overflow = false) : s.acceptNew r e =
    ({ s with
      engine := some { r with phase := .admitted, verdict := .acceptNew,
                              ranges := some ((s.context e).newRanges r.length.toNat) }
      mover := s.mover.modify r.msg fun x =>
        { x with state := .storing, next := (s.context e).dataAddr r.length.toNat } } : State).presentStore := by
  rw [State.acceptNew, hkind]
  exact if_neg (Bool.eq_false_iff.mp hoverflow)

/-- A GET admitted after its swap (R31, R68). -/
theorem State.acceptNew_of_get (hkind : r.kind = .get) {u : State} (hswap : s.swapForGet r e = u) : s.acceptNew r e =
    ({ u with engine := some { r with phase := .admitted, verdict := .acceptNew,
                                      ranges := some ((u.context e).newRanges r.length.toNat) } } : State).startFetch
      r.msg ((u.context e).dataAddr r.length.toNat) r.length.toNat := by
  subst hswap
  rw [State.acceptNew, hkind]
  rfl

theorem State.acceptDuplicate_of_put (hkind : r.kind = .put) : s.acceptDuplicate r e =
    ({ s with engine := some { r with phase := .admitted, verdict := .acceptDuplicate } } : State).discardSegment r.msg := by
  rw [State.acceptDuplicate, hkind]

theorem State.acceptDuplicate_of_get (hkind : r.kind = .get) : s.acceptDuplicate r e =
    ({ s with engine := some { r with phase := .admitted, verdict := .acceptDuplicate } } : State).startFetch r.msg
      (s.context e).duplicateData (s.context e).prevLen.toNat := by
  rw [State.acceptDuplicate, hkind]

end

/-- Entry `e` of `t` is the one that the request in `s` found, touched and marked, and no record and no event has changed
(R66, R87). -/
def State.Marked (s t : State) (e : EntryIx) : Prop :=
  t.cache.entry e = { s.cache.entry e with age := 0, inUse := true } ∧ t.status = s.status ∧ t.writer = s.writer

theorem State.Marked.fields {s t : State} {e : EntryIx} (h : s.Marked t e) : (t.cache.entry e).age = 0 ∧
    (t.cache.entry e).inUse = true ∧ t.context e = s.context e ∧ (t.cache.entry e).state = (s.cache.entry e).state ∧
      t.status = s.status ∧ t.writer = s.writer := by
  obtain ⟨hentry, hstatus, hwriter⟩ := h
  rw [State.context, hentry]
  exact ⟨rfl, rfl, rfl, rfl, hstatus, hwriter⟩

/-- A request that gives up its data has marked its entry alone. -/
theorem State.Marked.of_conclude {s : State} {e : EntryIx} {r : Request} (v : Verdict) (h : r.closed = false) :
    s.Marked ((s.hit e).conclude r v) e := by
  obtain ⟨-, hcache, hwriter⟩ := State.conclude_of_open_frame (s := s.hit e) v (.inr h)
  refine ⟨?_, by simp [State.hit], hwriter⟩
  rw [hcache, State.hit_entry]

/-- A duplicate has marked its entry alone (R77, R78). -/
theorem State.Marked.of_duplicate {s : State} {e : EntryIx} {r : Request} : s.Marked ((s.hit e).acceptDuplicate r e) e := by
  obtain ⟨-, -, -, -, hcache, hstatus, -, hwriter, -⟩ := (s.hit e).acceptDuplicate_frame r e
  exact ⟨by rw [hcache, State.hit_entry], hstatus, hwriter⟩

/-- A request that gives up the data of the segment its header opened (R128, R129). -/
theorem State.conclude_opened {s : State} {r : Request} {m : Mover} {len : Byte} (v : Verdict)
    (hkind : r.kind = .put) (hclosed : r.closed = false) (hmover : s.mover = m.openSegment r.msg len) :
    Segment.mk r.msg .discarding 0 [] len.toNat false false ∈ (s.conclude r v).mover.segments ∧
      (s.port.store ≠ some r.msg → (s.conclude r v).port =
        { s.port with store := s.port.storeLook (s.conclude r v).mover.segments }) := by
  rw [State.conclude_of_open v (.inr hclosed), State.abandonData_of_put (by exact hkind)]
  exact State.discardSegment_opened (s := { s with engine := some { r with verdict := v, phase := .awaitReady } }) hmover

/-- Settles O20: by the decision that the context makes. -/
theorem headerHitDecides : Obligations.HeaderHitDecides := by
  unfold Obligations.HeaderHitDecides
  intro s f b0 b1 b2 len kind n e hreaches hchannel hfree hfind hanswers stores fetches discards
  obtain ⟨g, hmsg, hexec⟩ := exec_dataSymbol_of_headerReaches hreaches hchannel len
  generalize hbroadcast : decide (f.cls = some .broadcast) = broadcast at hexec ⊢
  generalize hr : Request.fresh kind broadcast n (b0.getLsbD 7) len s.nextMsg = r at hexec
  have hclosed : r.closed = false := by subst hr; rfl
  have hchannel : r.channel = n := by subst hr; rfl
  have hkind : r.kind = kind := by subst hr; rfl
  have hmessage : r.msg = s.nextMsg := by subst hr; rfl
  have hlength : r.length = len := by subst hr; rfl
  have hcast : r.broadcast = broadcast := by subst hr; rfl
  have hopened : kind = .put → (s.received g r).mover = s.mover.openSegment r.msg len := by
    subst hr
    rintro rfl
    rfl
  have hguards : (s.received g r).mover.guards = s.mover.guards := by
    subst hr
    cases kind <;> rfl
  have hdecide : ((s.received g r).context e).decideRequest r.broadcast r.kind r.seq r.length
      ((s.received g r).record r.channel).seqValid (s.received g r).mover.guards =
      (s.context e).decideRequest r.broadcast kind (b0.getLsbD 7) len (s.record n).seqValid s.mover.guards := by
    rw [hguards]
    subst hr
    rfl
  obtain ⟨hignore, hrefuse, hduplicate, haccept⟩ := State.admitRequest_of_hit hdecide
  rw [State.holdCheck_of_free (by rw [hchannel]; exact hfree),
    State.lookup_of_hit (s := s.received g r) (by rw [hchannel]; exact hfind) hanswers]
    at hexec
  cases hdecision : (s.context e).decideRequest r.broadcast kind (b0.getLsbD 7) len (s.record n).seqValid s.mover.guards with
  | ignore =>
    rw [hignore hdecision] at hexec
    obtain ⟨hage, hinuse, hcontext, hstate, hstatus, hwriter⟩ :=
      (State.Marked.of_conclude (s := s.received g r) (e := e) (r := { r with entry := some e }) .ignored hclosed).fields
    obtain ⟨hengine, -⟩ := State.conclude_of_open_frame (s := (s.received g r).hit e) (r := { r with entry := some e })
      .ignored (.inr hclosed)
    refine ⟨_, _, hexec, hengine, rfl, hchannel, hlength, hkind, hcast, hage, hinuse, by simp [State.hit, State.received],
      by simp [State.hit, State.received], ⟨fun _ => ⟨hcontext, hstate, hstatus, hwriter⟩, ?_⟩, ?_⟩
    · rw [hdecision]
      exact fun h => nomatch h.1
    · rw [hdecision]
      refine ⟨rfl, rfl, fun hput => ?_⟩
      rw [← hmessage]
      exact State.conclude_opened (s := (s.received g r).hit e) (r := { r with entry := some e }) .ignored (hkind.trans hput)
        hclosed (hopened hput)
  | refuse reason =>
    rw [hrefuse reason hdecision] at hexec
    generalize hverdict : (if r.broadcast then Verdict.dropped true else .refuse reason) = verdict at hexec
    obtain ⟨hage, hinuse, hcontext, hstate, hstatus, hwriter⟩ :=
      (State.Marked.of_conclude (s := s.received g r) (e := e) (r := { r with entry := some e }) verdict hclosed).fields
    obtain ⟨hengine, -⟩ := State.conclude_of_open_frame (s := (s.received g r).hit e) (r := { r with entry := some e })
      verdict (.inr hclosed)
    refine ⟨_, _, hexec, hengine, rfl, hchannel, hlength, hkind, hcast, hage, hinuse, by simp [State.hit, State.received],
      by simp [State.hit, State.received], ⟨fun _ => ⟨hcontext, hstate, hstatus, hwriter⟩, ?_⟩, ?_⟩
    · rw [hdecision]
      exact fun h => nomatch h.1
    · rw [hdecision]
      refine ⟨rfl, hverdict.symm, fun hput => ?_⟩
      rw [← hmessage]
      exact State.conclude_opened (s := (s.received g r).hit e) (r := { r with entry := some e }) verdict (hkind.trans hput)
        hclosed (hopened hput)
  | duplicate =>
    rw [hduplicate hdecision] at hexec
    obtain ⟨hage, hinuse, hcontext, hstate, hstatus, hwriter⟩ :=
      (State.Marked.of_duplicate (s := s.received g r) (e := e) (r := { r with entry := some e })).fields
    have hengine : (((s.received g r).hit e).acceptDuplicate { r with entry := some e } e).engine =
        some { r with entry := some e, phase := .admitted, verdict := .acceptDuplicate } := by
      cases hk : r.kind with
      | put =>
        rw [State.acceptDuplicate_of_put rfl]
        simp
      | get =>
        rw [State.acceptDuplicate_of_get rfl]
        simp
    refine ⟨_, _, hexec, hengine, rfl, hchannel, hlength, hkind, hcast, hage, hinuse, by simp [State.hit, State.received],
      by simp [State.hit, State.received], ⟨fun _ => ⟨hcontext, hstate, hstatus, hwriter⟩, ?_⟩, ?_⟩
    · rw [hdecision]
      exact fun h => nomatch h.1
    · rw [hdecision]
      refine ⟨rfl, rfl, fun hput => ?_, fun hget => ?_⟩
      · rw [← hmessage, State.acceptDuplicate_of_put (by exact hkind.trans hput)]
        exact State.discardSegment_opened (s := { (s.received g r).hit e with
          engine := some { r with entry := some e, phase := .admitted, verdict := .acceptDuplicate } }) (hopened hput)
      · rw [State.acceptDuplicate_of_get (by exact hkind.trans hget), State.startFetch_eq, State.hit_context, ← hmessage]
        exact ⟨rfl, rfl⟩
  | accept =>
    rw [haccept hdecision] at hexec
    cases hput : kind with
    | put =>
      rw [State.acceptNew_of_put (by exact hkind.trans hput) (by subst hr; rfl), State.presentStore_eq] at hexec
      have hmarked : (s.received g r).Marked ((s.received g r).hit e) e := ⟨State.hit_entry _ e, rfl, rfl⟩
      obtain ⟨hage, hinuse, hcontext, hstate, hstatus, hwriter⟩ := hmarked.fields
      have hcontext' : ((s.received g r).hit e).context e = s.context e := State.hit_context _ e
      refine ⟨_, _, hexec, rfl, rfl, hchannel, hlength, hkind.trans hput, hcast, hage, hinuse, rfl, rfl,
        ⟨fun _ => ⟨hcontext, hstate, hstatus, hwriter⟩, fun h => nomatch h.2.1⟩, ?_⟩
      rw [← hput, hdecision]
      refine ⟨rfl, rfl, hlength ▸ rfl, fun _ => ⟨rfl, hcontext, ?_⟩, fun h => nomatch hput.symm.trans h⟩
      have hmover : ((s.received g r).hit e).mover.modify r.msg (fun x =>
            { x with state := .storing, next := (((s.received g r).hit e).context e).dataAddr r.length.toNat }) =
          (s.mover.openSegment r.msg len).modify r.msg fun x =>
            { x with state := .storing, next := (s.context e).dataAddr len.toNat } := by
        rw [hcontext', hlength, show ((s.received g r).hit e).mover = _ from hopened hput]
      rw [← hmessage]
      dsimp only
      rw [hmover]
      exact s.mover.modify_opened r.msg len ((s.context e).dataAddr len.toNat)
    | get =>
      generalize hswap : ((s.received g r).hit e).swapForGet { r with entry := some e } e = u at *
      rw [State.acceptNew_of_get (by exact hkind.trans hput) hswap, State.startFetch_eq] at hexec
      have hcontext : ((s.received g r).hit e).context e = s.context e := State.hit_context _ e
      have hrecord : ((s.received g r).hit e).record r.channel = s.record n := by rw [hchannel]; rfl
      obtain ⟨-, -, -, -, -, -, hport, hretire, hmem, -⟩ := ((s.received g r).hit e).swapForGet_frame { r with entry := some e } e
      rw [hswap] at hport hretire hmem
      have hfetch : (u.context e).newRanges r.length.toNat = (u.context e).newRanges len.toNat ∧
          (u.context e).dataAddr r.length.toNat = (u.context e).dataAddr len.toNat := by rw [hlength]; exact ⟨rfl, rfl⟩
      have hfetches : { u.port with fetch := u.port.fetchLook (some ⟨r.msg, (u.context e).dataAddr r.length.toNat,
          r.length.toNat, []⟩) } = { s.port with fetch := s.port.fetchLook (some ⟨r.msg, (u.context e).dataAddr r.length.toNat,
          r.length.toNat, []⟩) } := by
        rw [hport]
        rfl
      by_cases hswaps : (s.context e).mode = .alternate ∧ (s.record n).returned = true
      · rw [State.swapForGet_of_returned (by rw [hcontext]; exact ⟨hswaps.1, hrecord ▸ hswaps.2⟩)] at hswap
        have hentry : u.cache.entry e = { s.cache.entry e with
            age := 0, inUse := true, state := (s.cache.entry e).state.changed
            context := (s.context e).setActive (!(s.context e).active) } := by
          rw [← hswap]
          exact (Cache.entry_change _ e e _).trans ((if_pos rfl).trans (by rw [State.hit_entry]; rfl))
        have hactive : u.context e = (s.context e).setActive (!(s.context e).active) := congrArg Entry.context hentry
        have hstate : (u.cache.entry e).state = (s.cache.entry e).state.changed := congrArg Entry.state hentry
        refine ⟨_, _, hexec, rfl, rfl, hchannel, hlength, hkind.trans hput, hcast, congrArg Entry.age hentry,
          congrArg Entry.inUse hentry, hmem, hretire,
          ⟨fun hnot => absurd ⟨hput ▸ hdecision, rfl, hswaps⟩ hnot, fun _ => ⟨?_, ?_, fun i hi => ?_, fun h => ?_, fun h => ?_,
            fun m => ?_, ?_⟩⟩, ?_⟩
        · exact (congrArg Descriptor.active hactive).trans ((s.context e).setActive_fields _).1
        · change u.context e = { s.context e with w6 := (u.context e).w6 }
          rw [hactive]
          rfl
        · exact (congrArg (fun d : Descriptor => d.w6.getLsbD i) hactive).trans ((s.context e).setActive_w6 _ hi)
        · refine hstate.trans ?_
          obtain h | h := h <;> rw [h] <;> rfl
        · refine hstate.trans ?_
          obtain h | h := h <;> rw [h] <;> rfl
        · rw [← hswap, ← hchannel]
          refine (modifyAt_get s.status r.channel m _).trans ?_
          split
          next hm => rw [hm]; rfl
          next => rfl
        · change u.writer = _
          rw [← hswap, hcontext, ← hchannel]
          rfl
        · rw [← hput, hdecision]
          refine ⟨rfl, rfl, congrArg some hfetch.1, fun h => (nomatch hput.symm.trans h), fun _ => ⟨hfetches, ?_⟩⟩
          rw [hlength, hmessage]
          rfl
      · rw [State.swapForGet_of_not (by rw [hcontext]; exact fun h => hswaps ⟨h.1, hrecord ▸ h.2⟩)] at hswap
        have hmarked : (s.received g r).Marked u e := by
          rw [← hswap]
          exact ⟨State.hit_entry _ e, rfl, rfl⟩
        obtain ⟨hage, hinuse, hcontext, hstate, hstatus, hwriter⟩ := hmarked.fields
        refine ⟨_, _, hexec, rfl, rfl, hchannel, hlength, hkind.trans hput, hcast, hage, hinuse, hmem, hretire,
          ⟨fun _ => ⟨hcontext, hstate, hstatus, hwriter⟩, fun h => absurd h.2.2 hswaps⟩, ?_⟩
        rw [← hput, hdecision]
        refine ⟨rfl, rfl, congrArg some hfetch.1, fun h => (nomatch hput.symm.trans h), fun _ => ⟨hfetches, ?_⟩⟩
        rw [hlength, hmessage]
        rfl

end Sys2Proof.Machine


/-! PROOFS. Replies that carry no data: readiness (R69), the commit of a PUT (R71), what a refusal counts and reports (R82), and
the expiry (R70). -/

namespace Sys2Proof.Machine

/-! ### Readiness (Table 4-5) -/

theorem State.readyConditions_iff (s : State) (r : Request) : s.readyConditions r = true ↔
    (∃ reason, r.verdict = .refuse reason) ∨ (∃ mark, r.verdict = .refuseFault mark) ∨ r.verdict = .busyHold ∨
      r.verdict = .busyOverflow ∨
      (r.verdict = .acceptNew ∧ r.kind = .put ∧ s.retire.queue.length < 4 ∧ r.overflow = false ∧ r.fault = .none) ∨
      (r.verdict = .acceptNew ∧ r.kind = .get ∧ s.retire.queue.length < 4 ∧ r.fault = .none ∧
        min r.length.toNat 32 ≤ s.mover.stagedFor r.msg) ∨
      (r.verdict = .acceptDuplicate ∧ r.kind = .put) ∨
      (r.verdict = .acceptDuplicate ∧ r.kind = .get ∧ r.fault = .none ∧
        min r.length.toNat 32 ≤ s.mover.stagedFor r.msg) := by
  have hroom : s.retire.hasRoom = decide (s.retire.queue.length < 4) := rfl
  have hthreshold : r.threshold = min r.length.toNat 32 := rfl
  unfold State.readyConditions
  cases hverdict : r.verdict with
  | acceptNew => cases hkind : r.kind <;> simp [hroom, hthreshold, and_assoc]
  | acceptDuplicate => cases hkind : r.kind <;> simp [hthreshold]
  | _ => simp

/-- Settles O27: the conditions of each outcome. -/
theorem readinessDeclared : Obligations.ReadinessDeclared := by
  unfold Obligations.ReadinessDeclared
  intro s r hreset hengine enough room holds
  have hexec : exec .replyReady s = .next s.declareReady := exec_of_live hreset rfl
  have hcondition : r.broadcast = false ∧ r.closed = true ∧ r.phase ≠ .replying ∧ s.readyConditions r = true ↔
      r.broadcast = false ∧ r.closed = true ∧ r.phase ≠ .replying ∧ holds := by
    rw [s.readyConditions_iff]
  rw [State.declareReady, hengine] at hexec
  exact ⟨fun h => hexec.trans (congrArg _ (if_pos (hcondition.2 h))),
    fun h => hexec.trans (congrArg _ (if_neg fun h' => h (hcondition.1 h')))⟩

/-! ### The completion entry of a commit (R71, R73, R141, R142) -/

theorem Policy.writes_iff (p : Policy) (events : List Event) :
    p.writes events = true ↔ p = .through ∨ (p = .throughOnEvent ∧ events ≠ []) := by
  cases p <;> simp [Policy.writes, List.isEmpty_eq_false_iff]

theorem Mover.storesPending_iff (m : Mover) (msg : Nat) :
    m.storesPending msg = true ↔ ∃ x ∈ m.segments, x.msg = msg ∧ x.state = .storing := by
  simp [Mover.storesPending]

/-- The completion entry that a commit forms is the one the statements describe. -/
theorem State.entersCompletion (s : State) (r : Request) (rg : Ranges) (d : Descriptor) (a : Advance) :
    s.EntersCompletion (commitEntry s.link r rg d a (decide (r.kind = .put) && s.mover.storesPending r.msg)) r rg d a := by
  have hpending : (decide (r.kind = .put) && s.mover.storesPending r.msg) = true ↔
      r.kind = .put ∧ ∃ x ∈ s.mover.segments, x.msg = r.msg ∧ x.state = .storing := by
    rw [Bool.and_eq_true, decide_eq_true_eq, Mover.storesPending_iff]
  unfold State.EntersCompletion commitEntry
  by_cases hfault : r.fault = .storeFault
  · cases d.evError
    all_goals
      simp only [hfault, decide_true, Bool.and_true, Bool.and_false, Bool.false_eq_true, if_false, if_true, and_true,
        and_false, List.append_nil]
      exact ⟨trivial, trivial, trivial, trivial, trivial, trivial, trivial, hpending, rfl, d.policy.writes_iff _, rfl⟩
  · simp only [hfault, decide_false, Bool.false_and, Bool.false_eq_true, if_false, false_and, List.append_nil]
    exact ⟨trivial, trivial, trivial, trivial, trivial, trivial, trivial, hpending, rfl, d.policy.writes_iff _, rfl⟩

/-! ### The start of a reply -/

theorem Cache.modify_modify (c : Cache) (e : EntryIx) (f g : Entry → Entry) :
    (c.modify e f).modify e g = c.modify e fun x => g (f x) := by
  unfold Cache.modify modifyAt
  simp

/-- A commit, as one change of the entry, the record and the completion queue (R20, R71, R141). -/
theorem State.commit_of_entry (s : State) {r : Request} {e : EntryIx} {rg : Ranges}
    (place : Completion → List Completion → List Completion) (hentry : r.entry = some e) (hranges : r.ranges = some rg)
    {a : Advance} (ha : (s.context e).commit r.kind r.seq r.length rg (s.record r.channel).returned = a) :
    s.commit r place = { s with
      engine := none
      cache := s.cache.modify e fun x => { x with context := a.context, state := x.state.changed, inUse := false }
      status := modifyAt s.status r.channel fun x => { x with returned := a.returned, seqValid := true }
      retire := { s.retire with queue := place (commitEntry s.link r rg (s.context e) a
        (decide (r.kind = .put) && s.mover.storesPending r.msg)) s.retire.queue } } := by
  rw [State.commit_eq s r place hentry hranges]
  simp only [ha, State.leaveRequest, hentry, Cache.setInUse]
  have hmodify := s.cache.modify_modify e (fun x => { x with context := a.context, state := x.state.changed })
    fun x => { x with inUse := false }
  exact congrArg (fun c : Cache => ({ s with
      engine := none
      cache := c
      status := modifyAt s.status r.channel fun x => { x with returned := a.returned, seqValid := true }
      retire := { s.retire with queue := place (commitEntry s.link r rg (s.context e) a
        (decide (r.kind = .put) && s.mover.storesPending r.msg)) s.retire.queue } } : State)) hmodify

section
variable {s : State} {o : OwedReply} {r : Request} (h : s.ReplyMayStart o r)
include h

/-- The reply of a ready request starts (R52). -/
theorem exec_replyStart_of_ready : exec .replyStart s = .next (s.startEngineReply o r) := by
  obtain ⟨hreset, hrx, hsource, hengine, hready, hphase⟩ := h
  refine (exec_replyStart_eq hreset).trans (congrArg _ ?_)
  simp only [State.startReply, hrx, hsource, hengine]
  exact if_pos ⟨hready, hphase⟩

/-- A reply without data: the header on the line, then what the engine does (R52, R53). -/
theorem exec_replyStart_of_no_data (hdata : r.sendsData = false) : exec .replyStart s =
    .next (({ s with link := { s.link with
      rx := .replying ⟨false, 0, 0, false⟩
      lineOut := replyHead r.verdict.replyCode.code o.seq s.host.nodeAddress o.channel 0 } } : State).replyStarts r) := by
  rw [exec_replyStart_of_ready h, State.startEngineReply, hdata]
  exact congrArg _ rfl

end

section
variable (s : State) {r : Request}

theorem State.replyStarts_of_put (hverdict : r.verdict = .acceptNew) (hkind : r.kind = .put) :
    s.replyStarts r = s.commit r enterAtTail := by
  simp only [State.replyStarts, hverdict, hkind]

theorem State.replyStarts_of_get (hverdict : r.verdict = .acceptNew) (hkind : r.kind = .get) :
    s.replyStarts r = { s with
      engine := some { r with phase := .replying }
      retire := { s.retire with queue := s.retire.queue ++ [reservation r] } } := by
  simp only [State.replyStarts, hverdict, hkind]

theorem State.replyStarts_of_duplicate_put (hverdict : r.verdict = .acceptDuplicate) (hkind : r.kind = .put) :
    s.replyStarts r = (s.countDuplicate r).endRequest r := by
  simp only [State.replyStarts, hverdict, hkind]

theorem State.replyStarts_of_duplicate_get (hverdict : r.verdict = .acceptDuplicate) (hkind : r.kind = .get) :
    s.replyStarts r = { s with engine := some { r with phase := .replying } } := by
  simp only [State.replyStarts, hverdict, hkind]

end

/-- Settles O28: the reply starts with the commit. -/
theorem putCommits : Obligations.PutCommits := by
  unfold Obligations.PutCommits
  intro s o r e rg hstart hverdict hkind hentry hranges d a
  have hdata : r.sendsData = false := by simp [Request.sendsData, hkind]
  refine ⟨_, commitEntry s.link r rg d a (decide (r.kind = .put) && s.mover.storesPending r.msg),
    exec_replyStart_of_no_data hstart hdata, ?_, s.entersCompletion r rg d a⟩
  rw [State.replyStarts_of_put _ hverdict hkind, State.commit_of_entry _ enterAtTail hentry hranges (a := a) (by rw [hkind]; rfl),
    hverdict]
  rfl

/-! ### What a refusal counts and reports (R82, Table 4-6) -/

/-- What the engine counts and reports as the reply of a request that accepts nothing starts. -/
def State.reported (s : State) (r : Request) : State :=
  match r.verdict with
  | .busyOverflow => s.countError r .stagingOverflow 0
  | .refuse .guard => s.countError r .guard 0
  | .refuse reason => s.refusal r reason
  | .refuseFault .storeFault => s.requestError r .storeFault r.recordAddr
  | .refuseFault .fetchFault => s.requestError r .fetchFault 0
  | _ => s

/-- A request that accepts nothing reports, and ends (R64, R82). -/
theorem State.replyStarts_of_refusal {s : State} {r : Request} (hnew : r.verdict ≠ .acceptNew)
    (hduplicate : r.verdict ≠ .acceptDuplicate) : s.replyStarts r = (s.reported r).endRequest r := by
  unfold State.replyStarts State.reported
  cases hverdict : r.verdict with
  | acceptNew => exact absurd hverdict hnew
  | acceptDuplicate => exact absurd hverdict hduplicate
  | refuse reason => cases reason <;> rfl
  | refuseFault mark => cases mark <;> rfl
  | _ => rfl

/-- A request with an entry: the event of its refusal, when it is enabled (R82). -/
theorem State.refusal_eq {s : State} {r : Request} {e : EntryIx} {reason : RefuseReason} {detail : Byte}
    (hentry : r.entry = some e) (hdetail : reason.refusalDetail = some detail) : s.refusal r reason = { s with
      writer := if (s.context e).evRefusal then s.writer.take ⟨.refusal, channelByte r.channel, detail, s.link.cycle,
        s.link.offset, r.length.setWidth 16, 0⟩ else s.writer } := by
  simp only [State.refusal, hentry, hdetail]
  split <;> rfl

theorem State.requestError_eq {s : State} {r : Request} {e : EntryIx} (hentry : r.entry = some e) (detail : ErrorDetail)
    (aux32 : Word) : s.requestError r detail aux32 = { s with
      writer := if (s.context e).evError then s.writer.take ⟨.messageError, channelByte r.channel, detail.code, s.link.cycle,
        s.link.offset, r.length.setWidth 16, aux32⟩ else s.writer } := by
  simp only [State.requestError, hentry]
  split <;> rfl

/-- A report leaves everything but the cache and the events. -/
theorem State.reported_frame (s : State) (r : Request) : (s.reported r).status = s.status ∧
    (s.reported r).retire = s.retire ∧ (s.reported r).mem = s.mem ∧ (s.reported r).link = s.link := by
  unfold State.reported
  split <;> simp

/-- A request without an entry reports nothing (R65, R66, R83). -/
theorem State.reported_of_no_entry (s : State) {r : Request} (hentry : r.entry = none) : s.reported r = s := by
  unfold State.reported
  split <;> simp [State.countError, State.refusal, State.requestError, hentry]

/-- A report changes no entry but that of its request. -/
theorem State.reported_entry (s : State) {r : Request} {e g : EntryIx} (hentry : r.entry = some e) (hg : g ≠ e) :
    (s.reported r).cache.entry g = s.cache.entry g := by
  unfold State.reported
  split
  case h_1 | h_2 => rw [State.countError_eq hentry]; simp [Cache.entry_change, hg]
  all_goals simp

/-- Settles O29: each outcome's code, count and event. -/
theorem refusalsCountAndReport : Obligations.RefusalsCountAndReport := by
  unfold Obligations.RefusalsCountAndReport
  constructor
  · intro s o r hstart p hp hverdict
    have hrefuses : p.1 ≠ .acceptNew ∧ p.1 ≠ .acceptDuplicate ∧ p.1.replyCode.code = p.2 := by
      simp only [List.mem_cons, List.not_mem_nil, or_false] at hp
      obtain rfl | rfl | rfl | rfl | rfl | rfl | rfl | rfl | rfl | rfl := hp
      all_goals exact ⟨nofun, nofun, rfl⟩
    obtain ⟨hnew, hduplicate, hcode⟩ := hrefuses
    rw [← hverdict] at hnew hduplicate hcode
    have hexec := exec_replyStart_of_no_data hstart (by simp [Request.sendsData, hnew, hduplicate])
    rw [State.replyStarts_of_refusal hnew hduplicate, hcode] at hexec
    generalize hu : ({ s with link := _ } : State) = u at hexec
    obtain ⟨hstatus, hretire, hmem, hlink⟩ := u.reported_frame r
    obtain ⟨-, -, -, hlink', hstatus', hretire', -, hmem', -⟩ := (u.reported r).endRequest_frame r
    refine ⟨_, hexec, State.endRequest_engine _ r, ?_, ?_, ?_, ?_, fun hentry => ?_⟩
    · rw [hstatus', hstatus, ← hu]
    · rw [hretire', hretire, ← hu]
    · rw [hmem', hmem, ← hu]
    · rw [hlink', hlink, ← hu]
    · rw [u.reported_of_no_entry hentry, State.endRequest_cache, hentry, (u.endRequest_frame r).2.2.2.2.2.2.1, ← hu]
      exact ⟨rfl, rfl⟩
  · intro s o r e hstart hentry report d
    generalize hu : ({ s with link := { s.link with
      rx := .replying ⟨false, 0, 0, false⟩
      lineOut := replyHead r.verdict.replyCode.code o.seq s.host.nodeAddress o.channel 0 } } : State) = u
    have hrefused (hnew : r.verdict ≠ .acceptNew) (hduplicate : r.verdict ≠ .acceptDuplicate) :
        s.startEngineReply o r = (u.reported r).endRequest r := by
      have hexec := exec_replyStart_of_no_data hstart (by simp [Request.sendsData, hnew, hduplicate])
      rw [exec_replyStart_of_ready hstart, State.replyStarts_of_refusal hnew hduplicate, hu] at hexec
      exact Host.Outcome.next.inj hexec
    have hcount {v : State} {verdict : Verdict} (hverdict : r.verdict = verdict) (hreported : u.reported r = v)
        (hnew : verdict ≠ .acceptNew) (hduplicate : verdict ≠ .acceptDuplicate) :
        (s.startEngineReply o r).context e = v.context e ∧ (s.startEngineReply o r).writer = v.writer := by
      rw [hrefused (hverdict ▸ hnew) (hverdict ▸ hduplicate), hreported]
      exact ⟨(State.endRequest_context v r e).1, (v.endRequest_frame r).2.2.2.2.2.2.1⟩
    refine ⟨_, exec_replyStart_of_ready hstart, fun hverdict => ?_, fun hverdict => ?_, fun hverdict => ?_,
      fun p hp hverdict => ?_, fun hverdict => ?_, fun hverdict => ?_, fun hverdict => ?_, fun hverdict hkind => ?_⟩
    · have hrefuses : r.verdict ≠ .acceptNew ∧ r.verdict ≠ .acceptDuplicate := by
        obtain h | h | ⟨reason, h⟩ | ⟨mark, h⟩ := hverdict <;> rw [h] <;> exact ⟨nofun, nofun⟩
      rw [hrefused hrefuses.1 hrefuses.2, State.endRequest_cache, hentry]
      refine ⟨State.endRequest_engine _ r, ?_, fun g hg => ?_⟩
      · simp [Cache.entry_setInUse]
      · simp only [Cache.entry_setInUse, hg, if_false]
        rw [u.reported_entry hentry hg, ← hu]
    · obtain ⟨hcontext, hwriter⟩ := hcount (v := u.countError r .stagingOverflow 0) hverdict
        (by simp only [State.reported, hverdict]) nofun nofun
      rw [hcontext, hwriter, State.countError_context hentry, State.countError_eq hentry, ← hu]
      exact ⟨rfl, rfl⟩
    · obtain ⟨hcontext, hwriter⟩ := hcount (v := u.countError r .guard 0) hverdict
        (by simp only [State.reported, hverdict]) nofun nofun
      rw [hcontext, hwriter, State.countError_context hentry, State.countError_eq hentry, ← hu]
      exact ⟨rfl, rfl⟩
    · have hreason : u.reported r = u.refusal r p.1 ∧ p.1.refusalDetail = some p.2 := by
        unfold State.reported
        rw [hverdict]
        simp only [List.mem_cons, List.not_mem_nil, or_false] at hp
        obtain rfl | rfl | rfl | rfl := hp <;> exact ⟨rfl, rfl⟩
      obtain ⟨hcontext, hwriter⟩ := hcount hverdict hreason.1 nofun nofun
      rw [hcontext, hwriter, State.refusal_eq hentry hreason.2, ← hu]
      exact ⟨rfl, rfl⟩
    · obtain ⟨hcontext, hwriter⟩ := hcount (v := u.requestError r .storeFault r.recordAddr) hverdict
        (by simp only [State.reported, hverdict]) nofun nofun
      rw [hcontext, hwriter, State.requestError_eq hentry, ← hu]
      exact ⟨rfl, rfl⟩
    · obtain ⟨hcontext, hwriter⟩ := hcount (v := u.requestError r .fetchFault 0) hverdict
        (by simp only [State.reported, hverdict]) nofun nofun
      rw [hcontext, hwriter, State.requestError_eq hentry, ← hu]
      exact ⟨rfl, rfl⟩
    · have hsilent : u.reported r = u := by
        unfold State.reported
        obtain h | h := hverdict <;> rw [h]
      obtain ⟨hcontext, hwriter⟩ := hcount rfl hsilent (by obtain h | h := hverdict <;> rw [h] <;> exact nofun)
        (by obtain h | h := hverdict <;> rw [h] <;> exact nofun)
      rw [hcontext, hwriter, ← hu]
      exact ⟨rfl, rfl⟩
    · have hdata : r.sendsData = false := by simp [Request.sendsData, hkind]
      have hstarts : s.startEngineReply o r = (u.changeContext e Descriptor.countDuplicate).endRequest r := by
        have hexec := exec_replyStart_of_no_data hstart hdata
        rw [exec_replyStart_of_ready hstart, hu, State.replyStarts_of_duplicate_put _ hverdict hkind, State.countDuplicate,
          hentry] at hexec
        exact Host.Outcome.next.inj hexec
      obtain ⟨-, -, -, hlink, hstatus, hretire, hwriter, -⟩ :=
        (u.changeContext e Descriptor.countDuplicate).endRequest_frame r
      rw [hstarts, (State.endRequest_context _ r e).1, hwriter, State.endRequest_engine, hretire, hstatus, hlink]
      rw [hverdict] at hu
      refine ⟨?_, ?_, rfl, ?_, ?_, ?_⟩
      · rw [State.context, State.changeContext_cache, Cache.entry_change, if_pos rfl, ← hu]
        rfl
      all_goals
        rw [← hu]
        rfl

/-! ### The expiry (R70) -/

/-- Settles O32: a request that is not ready ends, and BUSY goes on the line. -/
theorem expiryAnswersBusy : Obligations.ExpiryAnswersBusy := by
  unfold Obligations.ExpiryAnswersBusy
  intro s o r hreset hrx hsource hengine
  have hexec : exec .commitExpiry s = .next s.expire := exec_of_live hreset rfl
  have hexpire : s.expire = if r.ready then s else (s.endRequest r).transmit o .busy 0 [] false 0 := by
    simp only [State.expire, hrx, hsource, hengine, if_true]
  rw [hexpire] at hexec
  refine ⟨fun hready => hexec.trans (congrArg _ (if_pos hready)), fun hready =>
    ⟨_, hexec.trans (congrArg _ (if_neg (Bool.eq_false_iff.mp hready))), State.endRequest_engine s r, ?_, ?_, ?_, ?_, ?_,
      fun e => s.endRequest_context r e⟩⟩
  · rw [State.transmit_link, (s.endRequest_frame r).2.2.2.1, (s.endRequest_frame r).2.1]
    rfl
  all_goals simp

end Sys2Proof.Machine


/-! PROOFS. The reply of a GET (R74 to R78, R83, R134, R135), the end of a reply (R54), and the commit and the drop of a
broadcast (R80, R81). -/

namespace Sys2Proof.Machine

/-! ### What an abort leaves (R76, R83) -/

/-- The fetch of a message given up: the buffer serves it no more (R136). -/
theorem State.abandonFetch_staging {s : State} {msg : Nat} {t : Staging}
    (h : (s.abandonFetch msg).mover.staging = some t) : t.msg ≠ msg := by
  obtain ⟨hsame, hother⟩ | ⟨-, -, -, hnone⟩ := s.abandonFetch_cases msg
  · rw [hsame] at h
    exact hother t h
  · rw [hnone] at h
    exact nomatch h

theorem State.endRequest_staging {s : State} {r : Request} (hkind : r.kind = .get) {t : Staging}
    (h : (s.endRequest r).mover.staging = some t) : t.msg ≠ r.msg := by
  rw [State.endRequest, State.abandonData_of_get hkind] at h
  exact State.abandonFetch_staging h

/-- The abort symbol on the line (R53). -/
theorem State.sendAbort_eq (s : State) (tx : Transmission) : s.sendAbort tx = { s with link := { s.link with
    rx := .replying { tx with aborted := true }, lineOut := s.link.lineOut ++ [.control 0x00] } } := rfl

/-- A GET that ends with the abort symbol: the reservation goes, the error counts and is reported (R76). -/
theorem State.abortGet_reports {s : State} {r : Request} {e : EntryIx} (hentry : r.entry = some e) (detail : ErrorDetail)
    (sent : Nat) :
    (s.abortGet r detail sent).engine = none ∧ (s.abortGet r detail sent).link = s.link ∧
      (s.abortGet r detail sent).context e = (s.context e).setErrCount ((s.context e).errCount + 1) ∧
      (s.abortGet r detail sent).status = s.status ∧ (s.abortGet r detail sent).mem = s.mem ∧
      (s.abortGet r detail sent).retire =
        { s.retire with queue := s.retire.queue.filter fun x => x.filled || decide (x.msg ≠ r.msg) } ∧
      (s.abortGet r detail sent).writer = if (s.context e).evError then s.writer.take ⟨.messageError, channelByte r.channel,
        detail.code, s.link.cycle, s.link.offset, r.length.setWidth 16, BitVec.ofNat 32 sent⟩ else s.writer := by
  generalize hu : s.releaseReservation r = u
  generalize hv : u.countError r detail (BitVec.ofNat 32 sent) = v
  have hw : s.abortGet r detail sent = v.endRequest r := by rw [State.abortGet, hu, hv]
  obtain ⟨-, -, -, hlink, hstatus, hretire, hwriter, hmem, -⟩ := v.endRequest_frame r
  rw [hw, (State.endRequest_context v r e).1, hlink, hstatus, hretire, hwriter, hmem, ← hv, State.countError_context hentry,
    State.countError_eq hentry, ← hu]
  exact ⟨State.endRequest_engine _ r, rfl, rfl, rfl, rfl, rfl, rfl⟩

/-- A GET whose context is lost: the reservation goes, and nothing is counted (R83). -/
theorem State.abandonLost_silent (s : State) (r : Request) :
    (s.abandonLost r).engine = none ∧ (s.abandonLost r).link = s.link ∧ (s.abandonLost r).status = s.status ∧
      (s.abandonLost r).mem = s.mem ∧ (s.abandonLost r).writer = s.writer ∧
      (s.abandonLost r).retire =
        { s.retire with queue := s.retire.queue.filter fun x => x.filled || decide (x.msg ≠ r.msg) } ∧
      ∀ e : EntryIx, (s.abandonLost r).context e = s.context e ∧
        ((s.abandonLost r).cache.entry e).state = (s.cache.entry e).state := by
  obtain ⟨-, -, -, hlink, hstatus, hretire, hwriter, hmem, -⟩ := (s.releaseReservation r).endRequest_frame r
  rw [State.abandonLost, hlink, hstatus, hretire, hwriter, hmem]
  exact ⟨State.endRequest_engine _ r, rfl, rfl, rfl, rfl, rfl, fun e => State.endRequest_context _ r e⟩

/-! ### The reply of a GET (R53, R74, R135) -/

/-- A GET's ACCEPT: the header with the length on the line, then what the engine does (R53, R74, R78). -/
theorem exec_replyStart_of_data {s : State} {o : OwedReply} {r : Request} (h : s.ReplyMayStart o r)
    (hdata : r.sendsData = true) : exec .replyStart s =
    .next (({ s with link := { s.link with
      rx := .replying ⟨true, r.length.toNat, 0, false⟩
      lineOut := replyHead 0x01 o.seq s.host.nodeAddress o.channel r.length } } : State).replyStarts r) := by
  rw [exec_replyStart_of_ready h, State.startEngineReply, hdata]
  exact congrArg _ rfl

section
variable {s : State} (hreset : s.resetAsserted = false)
include hreset

theorem exec_transmitByteDue_eq : exec .transmitByteDue s = .next s.transmitDue :=
  congrArg _ (State.live_of_not_reset hreset _)

/-- A data byte falls due (R53). -/
theorem exec_transmitByteDue_of_due {r : Request} {left sent : Nat} (hrx : s.link.rx = .replying ⟨true, left + 1, sent, false⟩)
    (hengine : s.engine = some r) :
    exec .transmitByteDue s = .next (s.byteDue ⟨true, left + 1, sent, false⟩ r) := by
  rw [exec_transmitByteDue_eq hreset, State.transmitDue, hrx, hengine]
  exact congrArg _ (if_pos ⟨rfl, rfl, Nat.succ_ne_zero left⟩)

end

section
variable {s : State} {r : Request} (tx : Transmission)

theorem State.byteDue_of_lost (hlost : r.lost = true) : s.byteDue tx r = (s.abandonLost r).sendAbort tx := if_pos hlost

variable (hlost : r.lost = false)
include hlost

theorem State.byteDue_of_fault (hfault : r.fault = .fetchFault) :
    s.byteDue tx r = (s.abortGet r .fetchFault tx.sent).sendAbort tx :=
  (if_neg (Bool.eq_false_iff.mp hlost)).trans (if_pos hfault)

variable (hfault : r.fault ≠ .fetchFault)
include hfault

/-- A staged byte goes out (R135). -/
theorem State.byteDue_of_staged {t : Staging} {b : Byte} {rest : List Byte} (hstaging : s.mover.staging = some t)
    (hmsg : t.msg = r.msg) (hheld : t.held = b :: rest) : s.byteDue tx r = s.sendByte tx t b rest := by
  refine (if_neg (Bool.eq_false_iff.mp hlost)).trans ((if_neg hfault).trans ?_)
  simp only [hstaging, hheld, hmsg, if_true]

/-- With none staged the reply is aborted (R76). -/
theorem State.byteDue_of_none_staged
    (hnone : s.mover.staging = none ∨ ∃ t, s.mover.staging = some t ∧ t.held = []) :
    s.byteDue tx r = (s.abortGet r .underrun tx.sent).sendAbort tx := by
  refine (if_neg (Bool.eq_false_iff.mp hlost)).trans ((if_neg hfault).trans ?_)
  obtain hnone | ⟨t, hstaging, hheld⟩ := hnone
  · simp only [hnone]
  · simp only [hstaging, hheld]

end

/-- Settles O30: the start of a GET's ACCEPT, a byte that goes out, and the aborts. -/
theorem getReplySendsBytes : Obligations.GetReplySendsBytes := by
  unfold Obligations.GetReplySendsBytes
  refine ⟨fun s o r hstart hverdict hkind => ?_, fun s o r hstart hverdict hkind => ?_,
    fun s r left sent hreset hrx hengine hlost hfault => ⟨fun t b rest hstaging hmsg hheld => ?_,
      fun e hentry hkind hnone => ?_⟩,
    fun s r left sent hreset hrx hengine hkind => ?_, fun s hreset hnone => ?_⟩
  · have hexec := exec_replyStart_of_data hstart (by simp [Request.sendsData, hverdict, hkind])
    rw [State.replyStarts_of_get _ hverdict hkind] at hexec
    exact ⟨_, reservation r, hexec, rfl, rfl, rfl, rfl⟩
  · have hexec := exec_replyStart_of_data hstart (by simp [Request.sendsData, hverdict, hkind])
    rw [State.replyStarts_of_duplicate_get _ hverdict hkind] at hexec
    exact hexec
  · have hexec := exec_transmitByteDue_of_due hreset hrx hengine
    rw [State.byteDue_of_staged _ hlost hfault hstaging hmsg hheld, State.sendByte, State.presentFetch_eq] at hexec
    exact ⟨_, hexec, rfl⟩
  · have hexec := exec_transmitByteDue_of_due hreset hrx hengine
    rw [State.byteDue_of_none_staged _ hlost hfault hnone, State.sendAbort_eq] at hexec
    obtain ⟨hidle, hlink, hcontext, hstatus, hmem, hretire, hwriter⟩ :=
      State.abortGet_reports (s := s) hentry .underrun sent
    exact ⟨_, hexec, hidle, by rw [hlink], hcontext, hstatus, hmem, hretire, hwriter⟩
  · intro aborted
    have hexec := exec_transmitByteDue_of_due hreset hrx hengine
    refine ⟨fun e hlost hfault hentry => ?_, fun hlost => ?_⟩
    · rw [State.byteDue_of_fault _ hlost hfault, State.sendAbort_eq] at hexec
      obtain ⟨hidle, hlink, hcontext, hstatus, hmem, hretire, hwriter⟩ :=
        State.abortGet_reports (s := s) hentry .fetchFault sent
      exact ⟨_, hexec, ⟨hidle, by rw [hlink], hstatus, hmem, fun t => State.endRequest_staging hkind, hretire⟩, hcontext,
        hwriter⟩
    · rw [State.byteDue_of_lost _ hlost, State.sendAbort_eq] at hexec
      obtain ⟨hidle, hlink, hstatus, hmem, hwriter, hretire, hentries⟩ := s.abandonLost_silent r
      exact ⟨_, hexec, ⟨hidle, by rw [hlink], hstatus, hmem, fun t => State.endRequest_staging hkind, hretire⟩, hwriter,
        hentries⟩
  · refine (exec_transmitByteDue_eq hreset).trans (congrArg _ ?_)
    unfold State.transmitDue
    split
    next tx hrx =>
      refine if_neg ?_
      rintro ⟨hdata, haborted, hleft⟩
      obtain h | h | h := hnone tx hrx
      · exact nomatch hdata.symm.trans h
      · exact nomatch haborted.symm.trans h
      · exact hleft h
    next => rfl

/-! ### The end of a reply (R54) -/

/-- The CRC and the closing flag on the line (R41, R42). -/
theorem State.closeReply_eq (s : State) : s.closeReply = { s with link := { s.link with
    rx := .recovery
    lineOut := s.link.lineOut ++ (crcBytesOf (crcOf (lineBytes s.link.lineOut))).map LineSymbol.data ++
      [.control 0xA5] } } := by
  rw [List.append_assoc]
  rfl

/-- The closing flag of a GET's ACCEPT completes a new message in its reserved entry (R75). -/
theorem State.completeGet_of_new (s : State) {r : Request} (hverdict : r.verdict = .acceptNew) :
    s.completeGet r = (s.commit r fillReservation).abandonFetch r.msg := by
  simp only [State.completeGet, hverdict]

/-- Any other GET answered ACCEPT counts a duplicate (R78). -/
theorem State.completeGet_of_duplicate (s : State) {r : Request} (hverdict : r.verdict ≠ .acceptNew) :
    s.completeGet r = ((s.countDuplicate r).leaveRequest r).abandonFetch r.msg := by
  unfold State.completeGet
  cases h : r.verdict with
  | acceptNew => exact absurd h hverdict
  | _ => rfl

theorem State.completeGet_engine (s : State) (r : Request) : (s.completeGet r).engine = none := by
  by_cases hverdict : r.verdict = .acceptNew
  · rw [State.completeGet_of_new s hverdict]
    simp
  · rw [State.completeGet_of_duplicate s hverdict]
    simp

section
variable {s : State} {sent : Nat} {r : Request} (hrx : s.link.rx = .replying ⟨true, 0, sent, false⟩) (hengine : s.engine = some r)
include hrx hengine

/-- A GET's reply whose bytes have all gone out, by whether its context is lost (R75, R83). -/
theorem State.endReply_of_sent : s.endReply = if r.lost then s.abortClose r else s.closeReply.completeGet r := by
  simp only [State.endReply, hrx, hengine, Bool.false_eq_true, Bool.true_eq_false, if_false, ne_eq, not_true_eq_false]

end

/-- A completion fills the reservation of its message (R141). -/
theorem fillReservation_of_msg {c : Completion} {msg : Nat} (h : c.msg = msg) (q : List Completion) :
    fillReservation c q = q.map fun x => if x.msg = msg ∧ x.filled = false then c else x := by
  rw [fillReservation, h]

/-- Settles O31: each end of a reply, and the completion of a GET. -/
theorem replyEndsAndGetCompletes : Obligations.ReplyEndsAndGetCompletes := by
  unfold Obligations.ReplyEndsAndGetCompletes
  refine ⟨fun s hreset => ⟨fun hnone => ?_, fun tx hrx => ⟨fun haborted => ?_, fun haborted hdata => ?_,
      fun haborted hdata hleft => ?_⟩⟩,
    fun s r sent hreset hrx hengine hlost => ?_, fun s r sent e hreset hrx hengine hlost hkind hentry => ?_⟩
  · refine (exec_replyEnd_eq hreset).trans (congrArg _ ?_)
    unfold State.endReply
    split
    next tx hrx => exact absurd hrx (hnone tx)
    next => rfl
  · refine (exec_replyEnd_eq hreset).trans (congrArg _ ?_)
    rw [State.endReply, hrx]
    exact if_pos haborted
  · refine (exec_replyEnd_eq hreset).trans (congrArg _ ?_)
    rw [← State.closeReply_eq, State.endReply, hrx]
    exact (if_neg (Bool.eq_false_iff.mp haborted)).trans (if_pos hdata)
  · refine (exec_replyEnd_eq hreset).trans (congrArg _ ?_)
    rw [State.endReply, hrx]
    exact (if_neg (Bool.eq_false_iff.mp haborted)).trans ((if_neg (by simp [hdata])).trans (if_pos hleft))
  · have hexec := exec_replyEnd_eq hreset
    rw [State.endReply_of_sent hrx hengine, if_pos hlost] at hexec
    generalize hu : ({ s.sendSymbols ((s.link.replyCrc.take (Config.crcBytesOut s.free).val).map LineSymbol.data ++
      [.control 0x00]) with free := s.free + 1 } : State) = u
    have habort : s.abortClose r = (u.abandonLost r).setRx .recovery := by
      rw [← hu]
      rfl
    obtain ⟨hidle, hlink, hstatus, hmem, hwriter, hretire, hentries⟩ := u.abandonLost_silent r
    rw [habort] at hexec
    refine ⟨_, (Config.crcBytesOut s.free).val, hexec, Nat.lt_succ_iff.mp (Config.crcBytesOut s.free).isLt, hidle,
      hmem.trans (hu ▸ rfl), hwriter.trans (hu ▸ rfl), hstatus.trans (hu ▸ rfl), ?_, hretire.trans (hu ▸ rfl), ?_⟩
    · rw [State.setRx_link, hlink, ← hu, List.append_assoc]
      rfl
    · rw [← hu] at hentries ⊢
      exact hentries
  · have hexec := exec_replyEnd_eq hreset
    rw [State.endReply_of_sent hrx hengine, if_neg (Bool.eq_false_iff.mp hlost)] at hexec
    obtain ⟨-, -, -, hlink, hwriter, hmem, -⟩ := s.closeReply.completeGet_frame r
    have hclose := s.closeReply_eq
    refine ⟨_, hexec, State.completeGet_engine _ r, hmem.trans (hclose ▸ rfl), hwriter.trans (hclose ▸ rfl),
      hlink.trans (hclose ▸ rfl), fun rg hverdict hranges => ?_, fun hverdict => ?_⟩
    · intro a
      have hcommit := State.commit_of_entry s.closeReply fillReservation hentry hranges (a := a) (by rw [hkind, hclose]; rfl)
      obtain ⟨-, -, -, -, -, hcache, hstatus, hretire, -⟩ := (s.closeReply.commit r fillReservation).abandonFetch_frame r.msg
      have hfilled := s.entersCompletion r rg (s.context e) a
      rw [State.completeGet_of_new _ hverdict]
      refine ⟨?_, fun n => ?_, _, hfilled, ?_, ?_, ?_⟩
      · rw [State.context, hcache, hcommit]
        simp only [Cache.entry_modify, if_true]
      · rw [State.record_congr hstatus, hcommit, hclose]
        refine (modifyAt_get s.status r.channel n _).trans ?_
        split
        next hn => rw [hn]; rfl
        next => rfl
      · obtain ⟨-, -, -, -, -, -, -, hstores, -⟩ := hfilled
        exact Bool.eq_false_iff.mpr fun h => nomatch hkind.symm.trans (hstores.mp h).1
      · rw [hretire, hcommit, hclose]
      · obtain ⟨hmsg, -⟩ := hfilled
        rw [hretire, hcommit, hclose]
        exact fillReservation_of_msg hmsg _
    · rw [State.completeGet_of_duplicate _ (by rw [hverdict]; exact nofun), State.countDuplicate, hentry]
      obtain ⟨-, -, -, -, -, hcache, hstatus, hretire, -⟩ :=
        ((s.closeReply.changeContext e Descriptor.countDuplicate).leaveRequest r).abandonFetch_frame r.msg
      rw [State.context, hcache, hstatus, hretire, State.leaveRequest_cache, hentry, hclose]
      refine ⟨?_, rfl, rfl⟩
      rw [(Cache.setInUse_context ..).1]
      simp only [State.changeContext_cache, Cache.entry_change, if_true]
      rfl

end Sys2Proof.Machine


/-! PROOFS. The commit of a broadcast, and its drop at the next header (R80, R81). -/

namespace Sys2Proof.Machine

/-! ### A request dropped at the next header (R80, R81; log 18) -/

theorem State.overtake_of_request {s : State} {r : Request} (hengine : s.engine = some r) : s.overtake =
    (if r.broadcast = true ∧ r.verdict = .acceptNew then s.countError r .broadcastDropped 0 else s).endRequest r := by
  simp only [State.overtake, hengine]

theorem State.overtake_engine (s : State) : s.overtake.engine = none := by
  cases hengine : s.engine with
  | none => rw [State.overtake_of_idle hengine, hengine]
  | some r => rw [State.overtake_of_request hengine, State.endRequest_engine]

/-- The end of a PUT's request (R64, R129). -/
theorem State.endRequest_of_put (s : State) {r : Request} (hkind : r.kind = .put) : s.endRequest r = { s with
    engine := none
    cache := match r.entry with
      | some e => s.cache.setInUse e false
      | none => s.cache
    mover := { s.mover with segments := s.segmentsWithout r.msg }
    port := { s.port.withdrawStore r.msg with
      store := (s.port.withdrawStore r.msg).storeLook (s.segmentsWithout r.msg) } } := by
  rw [State.endRequest, State.abandonData_of_put hkind, State.discardSegment_eq]
  rfl

/-- What the drop of a PUT does is the same whatever the receiver holds. -/
theorem State.setRx_overtake {s : State} {r : Request} (hengine : s.engine = some r) (hkind : r.kind = .put)
    (rx : Receiver) : (s.setRx rx).overtake = s.overtake.setRx rx := by
  have hcount : (s.setRx rx).countError r .broadcastDropped 0 = (s.countError r .broadcastDropped 0).setRx rx := by
    cases hentry : r.entry with
    | none => simp only [State.countError, hentry]
    | some e =>
      rw [State.countError_eq hentry, State.countError_eq hentry]
      rfl
  rw [State.overtake_of_request hengine, State.overtake_of_request (s := s.setRx rx) hengine]
  split
  · rw [hcount, State.endRequest_of_put _ hkind, State.endRequest_of_put _ hkind]
    rfl
  · rw [State.endRequest_of_put _ hkind, State.endRequest_of_put _ hkind]
    rfl

/-- A header is taken as by the IDLE engine that the drop leaves. -/
theorem State.takeHeader_overtake (s : State) (kind : MsgKind) (broadcast : Bool) (h : RequestHeader) :
    s.overtake.takeHeader kind broadcast h = s.takeHeader kind broadcast h := by
  unfold State.takeHeader
  rw [State.overtake_of_idle s.overtake_engine]

/-- Segments of other messages stay as the end of a request gives up its own. -/
theorem State.mem_segmentsWithout {s : State} {msg : Nat} {x : Segment} (hx : x ∈ s.mover.segments) (hmsg : x.msg ≠ msg)
    (hstays : x.stays (s.port.carried x.msg).isSome = true) : x ∈ s.segmentsWithout msg :=
  List.mem_filter.mpr ⟨List.mem_map.mpr ⟨x, hx, if_neg hmsg⟩, hstays⟩

/-- Settles O33: a ready broadcast commits, and one in progress at the next header is dropped. -/
theorem broadcastCommits : Obligations.BroadcastCommits := by
  unfold Obligations.BroadcastCommits
  refine ⟨fun s f b0 b1 b2 len r hfourth hrunning hbound hkind hengine hbroadcast hput => ?_,
    fun s r e rg hreset hengine hbroadcast hput hverdict hentry hranges => ?_⟩
  · obtain ⟨hresetA, hhost, hcmd, hlink, hstatus, hretire, hmem, hnext, -⟩ := s.overtake_frame
    have hfourthU : s.overtake.AtFourthByte f b0 b1 b2 := by
      rw [State.AtFourthByte, hresetA, hcmd, hlink]
      exact hfourth
    obtain ⟨kind, hmessage⟩ : ∃ kind : MsgKind, kind = .put ∧ b0 &&& 0x7F = 1 ∨
        kind = .get ∧ b0 &&& 0x7F = 2 ∧ f.cls = some .addressed := by
      obtain h | h := hkind
      · exact ⟨.put, .inl ⟨rfl, h⟩⟩
      · exact ⟨.get, .inr ⟨rfl, h⟩⟩
    refine ⟨s.overtake, ?_, s.overtake_engine, hlink, hcmd, hhost, hstatus, hretire, hmem, hnext,
      fun x hx hmsg hstays => ?_, fun e hverdict hentry => ?_, fun hphase hverdict hentry => ?_⟩
    · rw [exec_dataSymbol_of_header hfourth hrunning hbound hmessage len,
        exec_dataSymbol_of_header hfourthU (by rw [hcmd]; exact hrunning) hbound hmessage len, hhost, hnext,
        ← State.setRx_overtake hengine hput, State.takeHeader_overtake]
    · rw [State.overtake_of_request hengine, State.endRequest_of_put _ hput]
      have hsame : (if r.broadcast = true ∧ r.verdict = .acceptNew then s.countError r .broadcastDropped 0
          else s).segmentsWithout r.msg = s.segmentsWithout r.msg := by
        split
        · cases hentry : r.entry with
          | none => simp only [State.countError, hentry]
          | some e => rw [State.countError_eq hentry]; rfl
        · rfl
      simp only [hsame]
      exact State.mem_segmentsWithout hx hmsg hstays
    · rw [State.overtake_of_request hengine, if_pos ⟨hbroadcast, hverdict⟩, State.endRequest_of_put _ hput,
        State.countError_eq hentry, hentry]
      exact ⟨s.cache.modify_modify e (fun x => { x with
        context := x.context.setErrCount (x.context.errCount + 1), state := x.state.changed }) _, rfl⟩
    · rw [State.overtake_of_request hengine, if_neg (not_and_of_not_right _ (by rw [hverdict]; exact nofun)),
        State.endRequest_of_put _ hput, hentry]
      exact ⟨rfl, rfl⟩
  · have hexec : exec .broadcastCommit s = .next s.commitBroadcast := exec_of_live hreset rfl
    have hcondition : r.broadcast = true ∧ r.closed = true ∧ r.verdict = .acceptNew ∧ s.readyConditions r = true ↔
        r.closed = true ∧ s.retire.queue.length < 4 ∧ r.overflow = false ∧ r.fault = .none := by
      simp [s.readyConditions_iff, hbroadcast, hverdict, hput]
    rw [State.commitBroadcast, hengine] at hexec
    refine ⟨fun hready => ?_, fun hwaits => hexec.trans (congrArg _ (if_neg (mt hcondition.mp hwaits)))⟩
    have henters := s.entersCompletion r rg (s.context e)
      ((s.context e).commit .put r.seq r.length rg (s.record r.channel).returned)
    refine ⟨_, _, hexec.trans (congrArg _ (if_pos (hcondition.mpr hready))), ?_, henters, ?_⟩
    · exact State.commit_of_entry s enterAtTail hentry hranges (by rw [hput])
    · obtain ⟨-, -, -, -, -, -, -, -, hfields, -⟩ := henters
      rw [hfields]
      exact hbroadcast

end Sys2Proof.Machine


/-! PROOFS. The grant of the master port (R125, Table 7-2). -/

namespace Sys2Proof.Machine

/-! ### The words of a store burst (R122, R130) -/

theorem length_storeWords (bs : List Byte) : (storeWords bs).length = (bs.length + 3) / 4 := by
  induction bs using storeWords.induct with
  | case5 a b c d rest ih =>
    simp only [storeWords, List.length_cons, ih]
    omega
  | _ => simp [storeWords]

/-- The word `x` holds the bytes `bs` at their places from byte 0, each enabled, and enables no other byte. -/
def WriteWord.Holds (x : WriteWord) (bs : List Byte) : Prop :=
  ∀ i < 4, (i < bs.length → some (x.value.extractLsb' (8 * i) 8) = bs[i]? ∧ x.enables.getLsbD i = true) ∧
    (bs.length ≤ i → x.enables.getLsbD i = false)

/-- Byte `j` of the words of a store burst. -/
theorem storeWords_holds (bs : List Byte) : ∀ (n : Nat) (x : WriteWord), (storeWords bs)[n]? = some x →
    x.Holds (bs.drop (4 * n)) := by
  have hsingle {bs : List Byte} {x : WriteWord} (h : x.Holds bs) (n : Nat) (y : WriteWord) (hy : [x][n]? = some y) :
      y.Holds (bs.drop (4 * n)) := by
    cases n with
    | zero => exact Option.some.inj hy ▸ h
    | succ n => exact nomatch hy
  induction bs using storeWords.induct with
  | case1 => exact fun n x h => nomatch h
  | case2 a =>
    obtain ⟨h0, -⟩ := extractLsb_wordOfBytes a 0#8 0#8 0#8
    refine hsingle fun i hi => ?_
    obtain rfl | rfl | rfl | rfl : i = 0 ∨ i = 1 ∨ i = 2 ∨ i = 3 := by omega
    all_goals simp [h0]
  | case3 a b =>
    obtain ⟨h0, h1, -⟩ := extractLsb_wordOfBytes a b 0#8 0#8
    refine hsingle fun i hi => ?_
    obtain rfl | rfl | rfl | rfl : i = 0 ∨ i = 1 ∨ i = 2 ∨ i = 3 := by omega
    all_goals simp [h0, h1]
  | case4 a b c =>
    obtain ⟨h0, h1, h2, -⟩ := extractLsb_wordOfBytes a b c 0#8
    refine hsingle fun i hi => ?_
    obtain rfl | rfl | rfl | rfl : i = 0 ∨ i = 1 ∨ i = 2 ∨ i = 3 := by omega
    all_goals simp [h0, h1, h2]
  | case5 a b c d rest ih =>
    obtain ⟨h0, h1, h2, h3⟩ := extractLsb_wordOfBytes a b c d
    intro n x hx
    cases n with
    | zero =>
      cases hx
      intro i hi
      obtain rfl | rfl | rfl | rfl : i = 0 ∨ i = 1 ∨ i = 2 ∨ i = 3 := by omega
      all_goals simp [h0, h1, h2, h3]
    | succ n => exact ih n x hx

/-- The bytes of a segment's burst lie in its words, each enabled at its place and no other (R130). -/
theorem Segment.burst_byte (x : Segment) {j : Nat} {w : WriteWord} (hw : x.burst.data[j / 4]? = some w) :
    (j < x.burstBytes → some (w.value.extractLsb' (8 * (j % 4)) 8) = x.held[j]? ∧ w.enables.getLsbD (j % 4) = true) ∧
      (x.burstBytes ≤ j → w.enables.getLsbD (j % 4) = false) := by
  obtain ⟨hheld, -⟩ := x.burstBytes_le
  obtain ⟨hin, hout⟩ := storeWords_holds _ _ w hw (j % 4) (Nat.mod_lt j (by decide))
  have hj : 4 * (j / 4) + j % 4 = j := Nat.div_add_mod j 4
  rw [List.length_drop, List.length_take, Nat.min_eq_left hheld] at hin hout
  rw [List.getElem?_drop, hj] at hin
  refine ⟨fun h => ?_, fun h => hout (by omega)⟩
  obtain ⟨hvalue, henabled⟩ := hin (by omega)
  rw [List.getElem?_take_of_lt h] at hvalue
  exact ⟨hvalue, henabled⟩

theorem Segment.burst_words (x : Segment) : x.burst.words = (x.burstBytes + 3) / 4 := by
  obtain ⟨hheld, -⟩ := x.burstBytes_le
  rw [Segment.burst, length_storeWords, List.length_take, Nat.min_eq_left hheld]

/-- The burst of a segment that holds a word or its last byte is not empty and stays in its block (R122, R130). -/
theorem Segment.burst_block {x : Segment} (hready : 4 ≤ x.held.length ∨ x.due = 0) (hheld : x.held ≠ [])
    (haligned : x.next.toNat % 4 = 0) :
    1 ≤ (x.burstBytes + 3) / 4 ∧ (x.burstBytes + 3) / 4 ≤ 8 ∧
      x.next.toNat / 32 = (x.next.toNat + 4 * ((x.burstBytes + 3) / 4) - 1) / 32 := by
  have hlen : 0 < x.held.length := List.length_pos_iff.mpr hheld
  have hroom : blockRoom x.next = 32 - x.next.toNat % 32 := rfl
  unfold Segment.burstBytes
  rw [hroom]
  split <;> omega

/-- Settles O36: the order of the clients, and the words of a store. -/
theorem grantByPriority : Obligations.GrantByPriority := by
  unfold Obligations.GrantByPriority
  intro s hreset
  have hexec : exec .burstGrant s = .next s.grant := exec_of_live hreset rfl
  refine ⟨fun b hflight => ?_, fun hidle => ⟨fun b hfetch => ?_, fun b hfetch hcache => ?_,
    fun m x hfetch hcache hstore hsegment => ?_, fun b hfetch hcache hstore hretire => ?_,
    fun b hfetch hcache hstore hretire hwriter => ?_, fun hfetch hcache hstore hretire hwriter => ?_⟩⟩
  · rw [hexec, State.grant, hflight]
  · simp only [hexec, State.grant, hidle, hfetch]
  · simp only [hexec, State.grant, hidle, hfetch, hcache]
  · obtain ⟨-, rfl⟩ := Mover.segment_some hsegment
    have hwords := x.burst_words
    refine ⟨x.burst, ?_, rfl, rfl, ⟨rfl, ?_, fun j w hw => x.burst_byte hw⟩, fun hready hheld haligned => ?_⟩
    · simp only [hexec, State.grant, hidle, hfetch, hcache, hstore, State.storeBurst, hsegment, Option.map_some]
    · exact hwords
    · rw [hwords]
      exact x.burst_block hready hheld haligned
  · simp only [hexec, State.grant, hidle, hfetch, hcache, hstore, hretire]
  · simp only [hexec, State.grant, hidle, hfetch, hcache, hstore, hretire, hwriter]
  · simp only [hexec, State.grant, hidle, hfetch, hcache, hstore, hretire, hwriter]

end Sys2Proof.Machine


/-! PROOFS. What the exchange engine and the data mover leave of the cache and of the master port as a burst of the cache
ends (R64, R83, R92), and the cache's turn (R96). -/

namespace Sys2Proof.Machine

/-! ### Steps of the exchange engine and the data mover -/

/-- From `s` to `t` the exchange engine and the data mover alone have acted: the burst in flight, the requests of the other
clients, the pending fills and due bursts, and the tag, age, snapshot and next fill of each entry are as before. -/
structure State.OnlyServes (s t : State) : Prop where
  inFlight : t.port.inFlight = s.port.inFlight
  cachePort : t.port.cache = s.port.cache
  retirePort : t.port.retire = s.port.retire
  writerPort : t.port.writer = s.port.writer
  fills : t.cache.fills = s.cache.fills
  due : t.cache.due = s.cache.due
  tag : ∀ g, (t.cache.entry g).tag = (s.cache.entry g).tag
  age : ∀ g, (t.cache.entry g).age = (s.cache.entry g).age
  snapshot : ∀ g, (t.cache.entry g).snapshot = (s.cache.entry g).snapshot
  next : ∀ g, (t.cache.entry g).next = (s.cache.entry g).next

namespace State.OnlyServes

theorem refl (s : State) : s.OnlyServes s :=
  ⟨rfl, rfl, rfl, rfl, rfl, rfl, fun _ => rfl, fun _ => rfl, fun _ => rfl, fun _ => rfl⟩

theorem trans {s t u : State} (h : s.OnlyServes t) (h' : t.OnlyServes u) : s.OnlyServes u where
  inFlight := h'.inFlight.trans h.inFlight
  cachePort := h'.cachePort.trans h.cachePort
  retirePort := h'.retirePort.trans h.retirePort
  writerPort := h'.writerPort.trans h.writerPort
  fills := h'.fills.trans h.fills
  due := h'.due.trans h.due
  tag g := (h'.tag g).trans (h.tag g)
  age g := (h'.age g).trans (h.age g)
  snapshot g := (h'.snapshot g).trans (h.snapshot g)
  next g := (h'.next g).trans (h.next g)

/-- A step that leaves the cache and all but the data mover's requests. -/
theorem of_port {s t : State} (hcache : t.cache = s.cache)
    (hport : t.port = { s.port with fetch := t.port.fetch, store := t.port.store }) : s.OnlyServes t where
  inFlight := by rw [hport]
  cachePort := by rw [hport]
  retirePort := by rw [hport]
  writerPort := by rw [hport]
  fills := by rw [hcache]
  due := by rw [hcache]
  tag g := by rw [hcache]
  age g := by rw [hcache]
  snapshot g := by rw [hcache]
  next g := by rw [hcache]

/-- A change of an entry's context, state or mark. -/
theorem of_modify {s t : State} {e : EntryIx} {f : Entry → Entry} (hcache : t.cache = s.cache.modify e f)
    (hport : t.port = s.port) (hf : ∀ x : Entry, (f x).tag = x.tag ∧ (f x).age = x.age ∧ (f x).snapshot = x.snapshot ∧
      (f x).next = x.next) : s.OnlyServes t := by
  have hentry (g : EntryIx) : (t.cache.entry g).tag = (s.cache.entry g).tag ∧
      (t.cache.entry g).age = (s.cache.entry g).age ∧ (t.cache.entry g).snapshot = (s.cache.entry g).snapshot ∧
      (t.cache.entry g).next = (s.cache.entry g).next := by
    rw [hcache, Cache.entry_modify]
    split
    next h => exact h ▸ hf _
    next => exact ⟨rfl, rfl, rfl, rfl⟩
  exact ⟨by rw [hport], by rw [hport], by rw [hport], by rw [hport], by rw [hcache, Cache.modify_fills],
    by rw [hcache, Cache.modify_due], fun g => (hentry g).1, fun g => (hentry g).2.1, fun g => (hentry g).2.2.1,
    fun g => (hentry g).2.2.2⟩

end State.OnlyServes

open State.OnlyServes

theorem State.abandonData_onlyServes (s : State) (r : Request) : s.OnlyServes (s.abandonData r) := by
  unfold State.abandonData
  split
  · rw [State.discardSegment_eq]
    exact of_port rfl rfl
  · obtain ⟨h, -⟩ | ⟨t, -, -, h⟩ := s.abandonFetch_cases r.msg
    · rw [h]
      exact refl s
    · rw [h]
      exact of_port rfl rfl

theorem State.countError_onlyServes (s : State) (r : Request) (detail : ErrorDetail) (aux32 : Word) :
    s.OnlyServes (s.countError r detail aux32) := by
  cases hentry : r.entry with
  | none =>
    simp only [State.countError, hentry]
    exact refl s
  | some e =>
    rw [State.countError_eq hentry]
    exact of_modify rfl rfl fun _ => ⟨rfl, rfl, rfl, rfl⟩

theorem State.endRequest_onlyServes (s : State) (r : Request) : s.OnlyServes (s.endRequest r) := by
  refine (s.abandonData_onlyServes r).trans ?_
  unfold State.endRequest State.leaveRequest
  split
  · exact of_modify rfl rfl fun _ => ⟨rfl, rfl, rfl, rfl⟩
  · exact of_port rfl rfl

theorem State.settleBroadcast_onlyServes (s : State) : s.OnlyServes s.settleBroadcast := by
  obtain h | ⟨r, -, -, -, -, h⟩ := s.settleBroadcast_cases
  · rw [h]
    exact refl s
  · rw [h]
    refine .trans ?_ (State.endRequest_onlyServes _ r)
    split
    · exact s.countError_onlyServes r _ _
    · exact refl s

theorem State.conclude_onlyServes (s : State) (r : Request) (v : Verdict) : s.OnlyServes (s.conclude r v) := by
  refine .trans (t := { s with engine := some { r with verdict := v, phase := .awaitReady } }) (of_port rfl rfl) ?_
  exact (State.abandonData_onlyServes _ r).trans (State.settleBroadcast_onlyServes _)

theorem State.contextLost_onlyServes (s : State) (e : EntryIx) : s.OnlyServes (s.contextLost e) := by
  obtain h | ⟨r, -, -, ⟨-, h⟩ | ⟨-, h⟩⟩ := s.contextLost_cases e
  · rw [h]
    exact refl s
  · rw [h]
    exact of_port rfl rfl
  · rw [h]
    exact s.conclude_onlyServes _ _

theorem State.lookupFaults_onlyServes (s : State) (n : Channel) : s.OnlyServes (s.lookupFaults n) := by
  obtain h | ⟨r, -, -, -, h⟩ := s.lookupFaults_cases n
  · rw [h]
    exact refl s
  · rw [h]
    exact s.conclude_onlyServes r _

/-! ### Admission -/

theorem State.swapForGet_onlyServes (s : State) (r : Request) (e : EntryIx) : s.OnlyServes (s.swapForGet r e) := by
  by_cases h : (s.context e).mode = .alternate ∧ (s.record r.channel).returned = true
  · rw [State.swapForGet_of_returned h]
    exact of_modify rfl rfl fun _ => ⟨rfl, rfl, rfl, rfl⟩
  · rw [State.swapForGet_of_not h]
    exact refl s

theorem State.startFetch_onlyServes (s : State) (msg : Nat) (a : Addr) (len : Nat) :
    s.OnlyServes (s.startFetch msg a len) := by
  rw [State.startFetch_eq]
  exact of_port rfl rfl

theorem State.presentStore_onlyServes (s : State) : s.OnlyServes s.presentStore := by
  rw [State.presentStore_eq]
  exact of_port rfl rfl

theorem State.acceptNew_onlyServes (s : State) (r : Request) (e : EntryIx) : s.OnlyServes (s.acceptNew r e) := by
  unfold State.acceptNew
  split
  · refine (s.swapForGet_onlyServes r e).trans (.trans ?_ (State.startFetch_onlyServes _ _ _ _))
    exact of_port rfl rfl
  · split
    · exact s.conclude_onlyServes r _
    · refine .trans ?_ (State.presentStore_onlyServes _)
      exact of_port rfl rfl

theorem State.acceptDuplicate_onlyServes (s : State) (r : Request) (e : EntryIx) :
    s.OnlyServes (s.acceptDuplicate r e) := by
  unfold State.acceptDuplicate
  dsimp only
  split
  · rw [State.discardSegment_eq]
    exact of_port rfl rfl
  · refine .trans ?_ (State.startFetch_onlyServes _ _ _ _)
    exact of_port rfl rfl

theorem State.admitRequest_onlyServes (s : State) (r : Request) (e : EntryIx) : s.OnlyServes (s.admitRequest r e) := by
  have hmark : s.OnlyServes { s with cache := s.cache.setInUse e true } :=
    of_modify rfl rfl fun _ => ⟨rfl, rfl, rfl, rfl⟩
  unfold State.admitRequest
  dsimp only
  split
  · exact hmark.trans (State.conclude_onlyServes _ _ _)
  · exact hmark.trans (State.conclude_onlyServes _ _ _)
  · exact hmark.trans (State.acceptDuplicate_onlyServes _ _ e)
  · exact hmark.trans (State.acceptNew_onlyServes _ _ e)

theorem State.lookupAnswered_onlyServes (s : State) (n : Channel) (e : EntryIx) :
    s.OnlyServes (s.lookupAnswered n e) := by
  unfold State.lookupAnswered
  split
  · split
    · exact s.admitRequest_onlyServes _ e
    · exact refl s
  · exact refl s

/-! ### The cache's turn (R96, R124) -/

/-- The cache presents what became due first, once no burst of its own flies. -/
theorem State.presentCache_turn {s u : State} {tag : EntryIx → Channel} (hflies : u.port.flies .cache = false)
    (hport : u.port.cache = s.port.cache) (hbase : u.host.tableBase = s.host.tableBase)
    (htag : ∀ g, (u.cache.entry g).tag = tag g) (hsnapshot : ∀ g, (u.cache.entry g).snapshot = (s.cache.entry g).snapshot) :
    s.CacheTurn u.presentCache u.cache.due tag := by
  have hburst (x : CacheBurst) : u.cacheBurst x = s.burstOf tag x := by
    rw [State.cacheBurst_eq_burstOf]
    cases x with
    | _ => simp only [State.burstOf, State.linefillOf, State.writeOf, hbase, htag, hsnapshot]
  refine ⟨fun hidle => ?_, fun hwaits => ?_⟩
  · rw [State.presentCache_eq hflies (hport.trans hidle), funext hburst]
    exact ⟨rfl, rfl⟩
  · rw [State.presentCache_of_busy (hport ▸ hwaits)]
    exact ⟨hport, rfl⟩

theorem State.CacheTurn.of_eq {s t u : State} {due : List CacheBurst} {tag : EntryIx → Channel} (h : s.CacheTurn t due tag)
    (hport : u.port.cache = t.port.cache) (hdue : u.cache.due = t.cache.due) : s.CacheTurn u due tag := by
  rw [State.CacheTurn, hport, hdue]
  exact h

end Sys2Proof.Machine


/-! PROOFS. The descriptor a linefill reads (R1, Table 1-5), and the end of a linefill (R92). -/

namespace Sys2Proof.Machine

/-! ### The conditions of Table 1-5 on the words -/

/-- A field is 0 exactly when no bit of it is set. -/
theorem and_fieldMask_eq_zero (w : Word) {lo n : Nat} (h : lo + n ≤ 32) :
    w &&& ((BitVec.allOnes n).setWidth 32 <<< lo) = 0 ↔ w.extractLsb' lo n = 0 := by
  refine ⟨fun hzero => BitVec.eq_of_getLsbD_eq fun i hi => ?_, fun hzero => BitVec.eq_of_getLsbD_eq fun i hi => ?_⟩
  · have hbit := congrArg (fun v : Word => v.getLsbD (lo + i)) hzero
    simpa [hi, show lo + i < 32 by omega] using hbit
  · by_cases hin : lo ≤ i ∧ i < lo + n
    · have hbit := congrArg (fun v : BitVec n => v.getLsbD (i - lo)) hzero
      have hlo : lo + (i - lo) = i := by omega
      have hoff : w.getLsbD i = false := by simpa [hlo, show i - lo < n by omega] using hbit
      simp [hoff]
    · simp
      omega

theorem extractLsb_two (w : Word) (lo : Nat) :
    w.extractLsb' lo 2 = BitVec.ofBool (w.getLsbD (lo + 1)) ++ BitVec.ofBool (w.getLsbD lo) := by
  refine BitVec.eq_of_getLsbD_eq fun i hi => ?_
  obtain rfl | rfl : i = 0 ∨ i = 1 := by omega
  · simp only [BitVec.getLsbD_extractLsb', BitVec.getLsbD_append, BitVec.getLsbD_ofBool]
    simp
  · simp only [BitVec.getLsbD_extractLsb', BitVec.getLsbD_append, BitVec.getLsbD_ofBool]
    simp

theorem Descriptor.mode_iff (d : Descriptor) :
    (d.mode = .off ↔ d.w0.extractLsb' 0 2 = 0) ∧ (d.mode = .ring ↔ d.w0.extractLsb' 0 2 = 3) := by
  rw [extractLsb_two]
  unfold Descriptor.mode getBit
  cases d.w0.getLsbD 0 <;> cases d.w0.getLsbD 1 <;> decide

theorem Descriptor.policy_iff (d : Descriptor) : d.policy = .invalid ↔ d.w0.extractLsb' 3 2 = 3 := by
  rw [extractLsb_two]
  unfold Descriptor.policy getBit
  cases d.w0.getLsbD 3 <;> cases d.w0.getLsbD 4 <;> decide

theorem Descriptor.dir_iff (d : Descriptor) : d.dir = .get ↔ d.w0.getLsbD 2 = true := by
  unfold Descriptor.dir getBit
  cases d.w0.getLsbD 2 <;> decide

/-- The reserved bits of a descriptor (Table 11-4). -/
theorem Descriptor.reserved_iff (d : Descriptor) :
    (getField d.w0 6 2 ≠ 0 ∨ getField d.w0 12 4 ≠ 0 ∨ getField d.w0 24 8 ≠ 0 ∨ getField d.w5 24 8 ≠ 0 ∨
      getField d.w6 2 6 ≠ 0) ↔
      d.w0 &&& 0xFF00F0C0#32 ≠ 0 ∨ d.w5 &&& 0xFF000000#32 ≠ 0 ∨ d.w6 &&& 0xFC#32 ≠ 0 := by
  have hmask : 0xFF00F0C0#32 = ((BitVec.allOnes 2).setWidth 32 <<< 6 ||| (BitVec.allOnes 4).setWidth 32 <<< 12) |||
      (BitVec.allOnes 8).setWidth 32 <<< 24 := by decide
  have hmask5 : 0xFF000000#32 = (BitVec.allOnes 8).setWidth 32 <<< 24 := by decide
  have hmask6 : 0xFC#32 = (BitVec.allOnes 6).setWidth 32 <<< 2 := by decide
  have hor (x y : Word) : x ||| y = 0 ↔ x = 0 ∧ y = 0 := BitVec.or_eq_zero_iff
  simp only [getField, ne_eq]
  rw [hmask, hmask5, hmask6, BitVec.and_or_distrib_left, BitVec.and_or_distrib_left, hor, hor]
  rw [and_fieldMask_eq_zero d.w0 (n := 2) (by omega), and_fieldMask_eq_zero d.w0 (n := 4) (by omega),
    and_fieldMask_eq_zero d.w0 (n := 8) (by omega), and_fieldMask_eq_zero d.w5 (by omega),
    and_fieldMask_eq_zero d.w6 (by omega), not_and_or, not_and_or, or_assoc, or_assoc]

theorem alignedTo_iff (a : Addr) (n : Nat) : alignedTo a n = false ↔ a.toNat % n ≠ 0 := by
  simp [alignedTo]

/-- The sub-code of Table 1-5 on the words. -/
theorem Descriptor.subCode_eq (d : Descriptor) : d.subCode =
    let mode := d.w0.extractLsb' 0 2
    let maxLen := (d.w0.extractLsb' 16 8).toNat
    if mode = 0 then 0
    else if d.w0 &&& 0xFF00F0C0#32 ≠ 0 ∨ d.w5 &&& 0xFF000000#32 ≠ 0 ∨ d.w6 &&& 0xFC#32 ≠ 0 then 1
    else if d.w0.extractLsb' 3 2 = 3 then 2
    else if maxLen = 0 ∨ 128 < maxLen then 3
    else if mode = 3 ∧ d.w0.getLsbD 2 = true then 4
    else if d.w1.toNat % 4 ≠ 0 ∨ d.w2.toNat % 4 ≠ 0 ∨ d.w3.toNat % 4 ≠ 0 ∨ mode = 3 ∧ d.w4.toNat % 8 ≠ 0 then 5
    else if mode = 3 ∧ (d.w2.toNat ≤ d.w1.toNat ∨ d.w2.toNat - d.w1.toNat < (maxLen + 3) / 4 * 4) then 6
    else if mode = 3 ∧ (d.w3.toNat < d.w1.toNat ∨ d.w2.toNat ≤ d.w3.toNat) then 7
    else if mode = 3 ∧ (d.w5.extractLsb' 16 8).toNat < (d.w5.extractLsb' 0 8).toNat then 8
    else 0 := by
  obtain ⟨hoff, hring⟩ := d.mode_iff
  have haligned : (alignedTo d.addrA 4 = false ∨ alignedTo d.addrB 4 = false ∨ alignedTo d.cursor 4 = false ∨
      (d.mode = .ring ∧ alignedTo d.recBase 8 = false)) ↔ d.w1.toNat % 4 ≠ 0 ∨ d.w2.toNat % 4 ≠ 0 ∨ d.w3.toNat % 4 ≠ 0 ∨
        d.w0.extractLsb' 0 2 = 3 ∧ d.w4.toNat % 8 ≠ 0 := by
    rw [alignedTo_iff, alignedTo_iff, alignedTo_iff, alignedTo_iff, hring]
    rfl
  exact if_congr hoff rfl <| if_congr d.reserved_iff rfl <| if_congr d.policy_iff rfl <| if_congr Iff.rfl rfl <|
    if_congr (and_congr hring d.dir_iff) rfl <| if_congr haligned rfl <|
    if_congr (and_congr hring Iff.rfl) rfl <| if_congr (and_congr hring Iff.rfl) rfl <|
    if_congr (and_congr hring Iff.rfl) rfl rfl

/-! ### The words a linefill reads (R1, R123) -/

theorem Memory.readWord_byte (m : Memory) (a : Addr) {j : Nat} (hj : j < 4) :
    (Memory.readWord m a).extractLsb' (8 * j) 8 = Memory.readByte m (a + BitVec.ofNat 32 j) := by
  obtain ⟨h0, h1, h2, h3⟩ := extractLsb_wordOfBytes (Memory.readByte m a) (Memory.readByte m (a + 1))
    (Memory.readByte m (a + 2)) (Memory.readByte m (a + 3))
  obtain rfl | rfl | rfl | rfl : j = 0 ∨ j = 1 ∨ j = 2 ∨ j = 3 := by omega
  · rw [BitVec.add_zero]
    exact h0
  · exact h1
  · exact h2
  · exact h3

theorem Descriptor.readFrom_word (m : Memory) (a : Addr) (k : Fin 8) :
    (Descriptor.readFrom m a).toWords[k.val]? = some (Memory.readWord m (a + BitVec.ofNat 32 (4 * k.val))) := by
  match k with
  | 0 => exact congrArg (fun b => some (Memory.readWord m b)) (BitVec.add_zero a).symm
  | 1 | 2 | 3 | 4 | 5 | 6 | 7 => rfl

theorem Descriptor.readFrom_byte (m : Memory) (a : Addr) (k : Fin 8) (j : Fin 4) :
    (Descriptor.readFrom m a).toWords[k.val]?.map (fun w => w.extractLsb' (8 * j.val) 8) =
      some (Memory.readByte m (a + BitVec.ofNat 32 (4 * k.val + j.val))) := by
  rw [Descriptor.readFrom_word, Option.map_some, Memory.readWord_byte m _ j.isLt, BitVec.add_assoc, ← BitVec.ofNat_add]

/-! ### The end of a linefill (R92, R93) -/

section
variable {s : State} {b : Burst} {e : EntryIx} (hreset : s.resetAsserted = false) (hflight : s.port.inFlight = some b)
  (hkind : b.kind = .cache (.linefill e)) (hfilling : (s.cache.entry e).state = .filling)
include hreset hflight hkind hfilling

theorem exec_linefillEnd_eq (end_ : ReadEnd) : exec (.linefillEnd end_) s = .next (s.linefillEnds e b end_) := by
  refine congrArg _ ((State.live_of_not_reset hreset _).trans ?_)
  simp only [State.endLinefill, hflight, hkind, hfilling, if_true]

end

/-- A conclusion that does not count reports nothing (R81, R82). -/
theorem State.conclude_writer {s : State} {r : Request} {v : Verdict} (hv : v ≠ .dropped true) :
    (s.conclude r v).writer = s.writer := by
  unfold State.conclude
  obtain h | ⟨r1, hr1, -, -, -, h⟩ := State.settleBroadcast_cases
    (State.abandonData { s with engine := some { r with verdict := v, phase := .awaitReady } } r)
  · rw [h]
    simp
  · obtain rfl : { r with verdict := v, phase := .awaitReady } = r1 := by simpa using hr1
    rw [h, if_neg hv]
    simp

/-- A lookup answered with a fault makes no event, and changes no entry but for an in-use mark (R79, R92). -/
theorem State.lookupFaults_silent (s : State) (n : Channel) : (s.lookupFaults n).writer = s.writer ∧
    ∀ g, ∃ b, (s.lookupFaults n).cache.entry g = { s.cache.entry g with inUse := b } := by
  obtain h | ⟨r, -, -, -, h⟩ := s.lookupFaults_cases n
  · rw [h]
    exact ⟨rfl, fun g => ⟨_, rfl⟩⟩
  · refine ⟨by rw [h, State.conclude_writer r.faultVerdict_uncounted], fun g => ?_⟩
    obtain h | ⟨e, h⟩ := s.lookupFaults_cache n
    · rw [h]
      exact ⟨_, rfl⟩
    · rw [h, Cache.entry_setInUse]
      split
      next hge => exact ⟨false, by rw [hge]⟩
      next => exact ⟨_, rfl⟩

/-- What a fault report of channel `n` does (R89, R93, R114, R169). -/
theorem State.reportFault_reports (s : State) (n : Channel) (reason : FaultReason) (subCode : BitVec 4) :
    (s.reportFault n reason subCode).writer = s.writer.take ⟨.channelFault, channelByte n, reason.code, s.link.cycle,
        s.link.offset, subCode.setWidth 16, s.host.tableBase + BitVec.ofNat 32 (32 * n.val)⟩ ∧
      (s.reportFault n reason subCode).status = modifyAt s.status n (fun x => x.report reason subCode) ∧
      (s.reportFault n reason subCode).cmd = { s.cmd with work := s.cmd.work.noteReport } ∧
      (s.reportFault n reason subCode).cache.fills = s.cache.fills.filter (fun m => decide (m ≠ n)) ∧
      ∀ g, ∃ b, (s.reportFault n reason subCode).cache.entry g = { s.cache.entry g with inUse := b } := by
  unfold State.reportFault
  dsimp only
  generalize hu : ({ (s.setRecord n fun x => x.report reason subCode).raise .channelFault (channelByte n) reason.code
      (subCode.setWidth 16) (descriptorAddr s.host.tableBase n) with
    cache := ((s.setRecord n fun x => x.report reason subCode).raise .channelFault (channelByte n) reason.code
      (subCode.setWidth 16) (descriptorAddr s.host.tableBase n)).cache.withdrawFill n
    cmd := { ((s.setRecord n fun x => x.report reason subCode).raise .channelFault (channelByte n) reason.code
      (subCode.setWidth 16) (descriptorAddr s.host.tableBase n)).cmd with
        work := ((s.setRecord n fun x => x.report reason subCode).raise .channelFault (channelByte n) reason.code
          (subCode.setWidth 16) (descriptorAddr s.host.tableBase n)).cmd.work.noteReport } } : State) = u
  obtain ⟨hwriter, hentries⟩ := u.lookupFaults_silent n
  obtain ⟨-, -, hcmd, -, hstatus, -⟩ := u.lookupFaults_frame n
  rw [hwriter, hstatus, hcmd, (u.lookupFaults_onlyServes n).fills]
  subst hu
  exact ⟨rfl, rfl, rfl, rfl, hentries⟩

theorem State.record_modifyAt {s t : State} {n : Channel} {f : ChannelRecord → ChannelRecord}
    (h : t.status = modifyAt s.status n f) (k : Channel) : t.record k = if k = n then f (s.record n) else s.record k := by
  rw [State.record, h]
  exact modifyAt_get s.status n k f

/-- The report of a fault leaves the cache's bursts to come (R93). -/
theorem State.reportFault_bursts (s : State) (n : Channel) (reason : FaultReason) (subCode : BitVec 4) :
    (s.reportFault n reason subCode).port.inFlight = s.port.inFlight ∧
      (s.reportFault n reason subCode).port.cache = s.port.cache ∧
      (s.reportFault n reason subCode).cache.due = s.cache.due := by
  have h := State.lookupFaults_onlyServes
  unfold State.reportFault
  dsimp only
  exact ⟨(h _ n).inFlight, (h _ n).cachePort, (h _ n).due⟩

/-- The entry and the request that a linefill ends for leave the cache's bursts to come. -/
theorem State.fillReads_bursts (s : State) (e : EntryIx) (n : Channel) (d : Descriptor) :
    (s.fillReads e n d).port.inFlight = s.port.inFlight ∧ (s.fillReads e n d).port.cache = s.port.cache ∧
      (s.fillReads e n d).cache.due = s.cache.due := by
  unfold State.fillReads
  split
  · have h := State.lookupAnswered_onlyServes { s with cache := s.cache.fillValid e d } n e
    exact ⟨h.inFlight, h.cachePort, h.due⟩
  · exact State.reportFault_bursts _ n _ _

/-- As a linefill ends the port is left, and the cache's next due burst is presented (R96, R126). -/
theorem State.linefillEnds_bursts (s : State) (e : EntryIx) (b : Burst) (end_ : ReadEnd) :
    (s.linefillEnds e b end_).port.inFlight = none ∧
      s.CacheTurn (s.linefillEnds e b end_) s.cache.due fun g => (s.cache.entry g).tag := by
  have hturn : s.CacheTurn s.landed.presentCache s.cache.due fun g => (s.cache.entry g).tag :=
    State.presentCache_turn (u := s.landed) rfl rfl rfl (fun _ => rfl) fun _ => rfl
  obtain ⟨-, -, -, -, hidle⟩ := s.landed.presentCache_port
  cases end_ with
  | busError =>
    obtain ⟨hflight, hport, hdue⟩ := State.reportFault_bursts
      { s.landed.presentCache with cache := s.landed.presentCache.cache.invalidate e } (s.cache.entry e).tag .linefillFault 0
    exact ⟨hflight.trans hidle, hturn.of_eq hport hdue⟩
  | completion ws =>
    obtain ⟨hflight, hport, hdue⟩ := State.fillReads_bursts
      { s.landed.presentCache with mem := Memory.hostWrites s.mem ws } e (s.cache.entry e).tag
      (Descriptor.readFrom (Memory.hostWrites s.mem ws) b.addr)
    exact ⟨hflight.trans hidle, hturn.of_eq hport hdue⟩

theorem Cache.entry_fillValid (c : Cache) (e g : EntryIx) (d : Descriptor) : (c.fillValid e d).entry g =
    if g = e then { c.entry e with context := d, state := .clean, age := 0 }
    else { c.entry g with
      age := if (c.entry g).age < (c.entry e).age then (c.entry g).age + 1 else (c.entry g).age } := by
  rw [Cache.fillValid, Cache.entry_touch]
  by_cases h : g = e
  · subst h
    simp
  · simp [h]

theorem State.lookupAnswered_of_idle {s : State} (h : s.engine = none) (n : Channel) (e : EntryIx) :
    s.lookupAnswered n e = s := by
  rw [State.lookupAnswered, h]

/-- Entry `e` has taken the descriptor `d` that its linefill read from the memory `m` (R92). -/
def State.filled (s : State) (e : EntryIx) (m : Memory) (d : Descriptor) : State :=
  { s.landed.presentCache with mem := m, cache := s.landed.presentCache.cache.fillValid e d }

theorem State.filled_entry (s : State) (e g : EntryIx) (m : Memory) (d : Descriptor) :
    (s.filled e m d).cache.entry g = if g = e then { s.cache.entry e with context := d, state := .clean, age := 0 }
      else { s.cache.entry g with age := if (s.cache.entry g).age < (s.cache.entry e).age then
        (s.cache.entry g).age + 1 else (s.cache.entry g).age } := by
  refine (Cache.entry_fillValid _ e g d).trans ?_
  simp only [State.presentCache_entry]
  rfl

/-- A linefill that reads a valid descriptor (R92). -/
theorem State.linefillEnds_of_valid {s : State} {b : Burst} {ws : List (Addr × Byte)} (e : EntryIx)
    (h : (Descriptor.readFrom (Memory.hostWrites s.mem ws) b.addr).subCode = 0) :
    s.linefillEnds e b (.completion ws) = (s.filled e (Memory.hostWrites s.mem ws)
      (Descriptor.readFrom (Memory.hostWrites s.mem ws) b.addr)).lookupAnswered (s.cache.entry e).tag e := if_pos h

/-- A linefill that ends in a fault (R92, R93). -/
theorem State.linefillEnds_of_fault {s : State} {b : Burst} {end_ : ReadEnd} {reason : FaultReason} {sub : BitVec 4}
    (e : EntryIx) (h : (end_ = .busError ∧ reason = .linefillFault ∧ sub = 0#4) ∨
      (∃ ws, end_ = .completion ws ∧ reason = .badDescriptor ∧ sub ≠ 0 ∧
        sub = (Descriptor.readFrom (Memory.hostWrites s.mem ws) b.addr).subCode)) :
    ∃ m, (end_ = .busError → m = s.mem) ∧ s.linefillEnds e b end_ = State.reportFault { s.landed.presentCache with
      mem := m, cache := s.landed.presentCache.cache.invalidate e } (s.cache.entry e).tag reason sub := by
  obtain ⟨rfl, rfl, rfl⟩ | ⟨ws, rfl, rfl, hsub, rfl⟩ := h
  · refine ⟨s.landed.presentCache.mem, fun _ => by simp, rfl⟩
  · exact ⟨Memory.hostWrites s.mem ws, nofun, if_neg hsub⟩

/-- Settles O37: the sub-codes, the descriptor taken, and the fault reported. -/
theorem linefillEndsOrFaults : Obligations.LinefillEndsOrFaults := by
  unfold Obligations.LinefillEndsOrFaults
  refine ⟨fun d => d.subCode_eq, Descriptor.readFrom_byte, fun s b e end_ hreset hflight hkind hfilling => ?_,
    fun s b e n hreset hflight hkind hfilling htag hengine => ⟨fun ws hvalid => ?_, fun end_ reason sub hfault => ?_⟩⟩
  · exact ⟨_, exec_linefillEnd_eq hreset hflight hkind hfilling end_, (s.linefillEnds_bursts e b end_).2⟩
  · have hexec := exec_linefillEnd_eq hreset hflight hkind hfilling (.completion ws)
    have hidle := (s.linefillEnds_bursts e b (.completion ws)).1
    obtain ⟨-, -, -, -, hengine', hstatus, -, -, hwriter, -⟩ := s.landed.presentCache_frame
    rw [State.linefillEnds_of_valid e hvalid, State.lookupAnswered_of_idle (s := s.filled e _ _) (hengine'.trans hengine)] at hexec hidle
    have hentry := s.filled_entry e e (Memory.hostWrites s.mem ws)
      (Descriptor.readFrom (Memory.hostWrites s.mem ws) b.addr)
    rw [if_pos rfl] at hentry
    refine ⟨_, hexec, rfl, hidle, hstatus, hwriter, ?_, ?_, ?_, ?_, fun f hf => ?_⟩
    · exact congrArg Entry.context hentry
    · exact congrArg Entry.state hentry
    · exact (congrArg Entry.tag hentry).trans htag
    · exact congrArg Entry.age hentry
    · rw [State.context, State.filled_entry, if_neg hf]
      exact ⟨rfl, rfl⟩
  · have hexec := exec_linefillEnd_eq hreset hflight hkind hfilling end_
    have hidle := (s.linefillEnds_bursts e b end_).1
    obtain ⟨-, hhost, -, hlink, -, hstatus, -, -, hwriter, -⟩ := s.landed.presentCache_frame
    obtain ⟨m, -, hends⟩ := State.linefillEnds_of_fault (s := s) (b := b) e hfault
    rw [hends, htag] at hexec hidle
    generalize hu : ({ s.landed.presentCache with
      mem := m, cache := s.landed.presentCache.cache.invalidate e } : State) = u at hexec hidle
    obtain ⟨hreports, hrecords, -, hfills, hentries⟩ := u.reportFault_reports n reason sub
    obtain ⟨mark, hentry⟩ := hentries e
    have hrecord (k : Channel) : u.record k = s.record k := State.record_congr (hu ▸ hstatus) k
    refine ⟨_, hexec, hidle, ?_, ?_, ?_, ?_, fun hfree => ?_, fun hwait hnone => ?_, fun k hk => ?_⟩
    · rw [hentry, ← hu]
      exact congrArg Entry.state ((Cache.entry_invalidate _ e e).trans (if_pos rfl))
    · rw [hentry, ← hu]
      exact congrArg Entry.age ((Cache.entry_invalidate _ e e).trans (if_pos rfl))
    · rw [hfills]
      simp
    · rw [hreports, ← hu]
      simp only [hhost, hlink, hwriter]
      rfl
    · rw [State.record_modifyAt hrecords, if_pos rfl, hrecord]
      simp only [ChannelRecord.report, hfree]
    · rw [State.record_modifyAt hrecords, if_pos rfl, hrecord]
      simp only [ChannelRecord.report, hwait, hnone, if_true]
    · rw [State.record_modifyAt hrecords, if_neg hk, hrecord]

end Sys2Proof.Machine


/-! PROOFS. A lookup that waits for a linefill (R66, R79, R92). -/

namespace Sys2Proof.Machine

/-- Entry `e` holds the descriptor `d` that its linefill read from the memory `m`, before the touch (R92). -/
def State.described (s : State) (e : EntryIx) (m : Memory) (d : Descriptor) : State :=
  { s.landed.presentCache with
    mem := m, cache := s.landed.presentCache.cache.modify e fun x => { x with context := d, state := .clean } }

theorem State.described_context (s : State) (e : EntryIx) (m : Memory) (d : Descriptor) :
    (s.described e m d).context e = d := by
  simp [State.context, State.described]

theorem State.described_frame (s : State) (e : EntryIx) (m : Memory) (d : Descriptor) :
    (s.described e m d).mem = m ∧ (s.described e m d).status = s.status ∧ (s.described e m d).mover = s.mover ∧
      (s.described e m d).writer = s.writer ∧ (s.described e m d).engine = s.engine := by
  obtain ⟨-, -, -, -, hengine, hstatus, hmover, -, hwriter, -⟩ := s.landed.presentCache_frame
  exact ⟨rfl, hstatus, hmover, hwriter, hengine⟩

/-- A linefill that answers a lookup admits the request on the new context (R92). -/
theorem State.linefillEnds_of_lookup {s : State} {b : Burst} {e : EntryIx} {r : Request} {ws : List (Addr × Byte)}
    (hvalid : (Descriptor.readFrom (Memory.hostWrites s.mem ws) b.addr).subCode = 0) (hengine : s.engine = some r)
    (hchannel : r.channel = (s.cache.entry e).tag) (hphase : r.phase = .lookup) {u : State}
    (hu : s.described e (Memory.hostWrites s.mem ws) (Descriptor.readFrom (Memory.hostWrites s.mem ws) b.addr) = u) :
    s.linefillEnds e b (.completion ws) = ({ u with cache := u.cache.touch e } : State).admitRequest r e := by
  subst hu
  obtain ⟨-, -, -, -, hsame⟩ := s.described_frame e (Memory.hostWrites s.mem ws)
    (Descriptor.readFrom (Memory.hostWrites s.mem ws) b.addr)
  rw [State.linefillEnds_of_valid e hvalid, State.lookupAnswered]
  have hserved : (s.filled e (Memory.hostWrites s.mem ws)
      (Descriptor.readFrom (Memory.hostWrites s.mem ws) b.addr)).engine = some r := hsame.trans hengine
  rw [hserved]
  exact if_pos ⟨hchannel, hphase⟩

/-! ### The mark and the context of the entry as the request is decided (R62, R66) -/

theorem MsgKind.eq_put {kind : MsgKind} (h : kind ≠ .get) : kind = .put := by
  cases kind with
  | put => rfl
  | get => exact absurd rfl h

section
variable {s : State} {r : Request} {e : EntryIx}

/-- A concluded request holds its entry's mark for as long as it is in progress (R62, R64). -/
theorem State.conclude_inUse (hentry : r.entry = some e) (hmark : (s.cache.entry e).inUse = true) (v : Verdict) :
    ((s.conclude r v).cache.entry e).inUse = decide ((s.conclude r v).engine ≠ none) := by
  have hwaits : (State.abandonData { s with engine := some { r with verdict := v, phase := .awaitReady } } r).engine =
      some { r with verdict := v, phase := .awaitReady } := State.abandonData_engine _ r
  unfold State.conclude
  obtain h | ⟨r1, hr1, -, -, -, h⟩ := State.settleBroadcast_cases
    (State.abandonData { s with engine := some { r with verdict := v, phase := .awaitReady } } r)
  · obtain ⟨-, -, -, -, -, hcache, -⟩ := State.abandonData_frame
      { s with engine := some { r with verdict := v, phase := .awaitReady } } r
    rw [h, hwaits, hcache]
    exact hmark
  · obtain rfl : { r with verdict := v, phase := .awaitReady } = r1 := Option.some.inj (hwaits.symm.trans hr1)
    rw [h, State.endRequest_engine, State.endRequest_cache]
    simp [hentry, Cache.entry_setInUse]

/-- A conclusion that does not count leaves the contexts. -/
theorem State.conclude_context {v : Verdict} (hv : v ≠ .dropped true) (g : EntryIx) :
    (s.conclude r v).context g = s.context g := by
  obtain h | ⟨f, h⟩ := State.conclude_cache (s := s) (r := r) hv
  · rw [State.context, h, State.context]
  · rw [State.context, h]
    exact (s.cache.setInUse_context f g false).1

/-- The swap of a GET leaves its entry's mark. -/
theorem State.swapForGet_inUse : ((s.swapForGet r e).cache.entry e).inUse = (s.cache.entry e).inUse := by
  by_cases h : (s.context e).mode = .alternate ∧ (s.record r.channel).returned = true
  · rw [State.swapForGet_of_returned h]
    simp [Cache.entry_change]
  · rw [State.swapForGet_of_not h]

/-- A request that is admitted keeps its mark, with the ranges of the context as it then stands (R21, R68). -/
theorem State.acceptNew_admits (hadmits : r.kind = .get ∨ r.overflow = false) (hmark : (s.cache.entry e).inUse = true) :
    (s.acceptNew r e).engine = some { r with
      phase := .admitted
      verdict := .acceptNew
      ranges := some (((s.acceptNew r e).context e).newRanges r.length.toNat) } ∧
      ((s.acceptNew r e).cache.entry e).inUse = true := by
  by_cases hkind : r.kind = .get
  · rw [State.acceptNew_of_get hkind rfl, State.startFetch_eq]
    exact ⟨rfl, State.swapForGet_inUse.trans hmark⟩
  · rw [State.acceptNew_of_put (MsgKind.eq_put hkind) (hadmits.resolve_left hkind), State.presentStore_eq]
    exact ⟨rfl, hmark⟩

/-- An overflow that came before turns a PUT to BUSY, or to a drop (R72, R81). -/
theorem State.acceptNew_of_overflow (hkind : r.kind = .put) (hoverflow : r.overflow = true) :
    s.acceptNew r e = s.conclude r (if r.broadcast then .dropped true else .busyOverflow) := by
  rw [State.acceptNew, hkind]
  exact if_pos hoverflow

theorem State.acceptDuplicate_engine :
    (s.acceptDuplicate r e).engine = some { r with phase := .admitted, verdict := .acceptDuplicate } := by
  by_cases hkind : r.kind = .get
  · rw [State.acceptDuplicate_of_get hkind]
    simp
  · rw [State.acceptDuplicate_of_put (MsgKind.eq_put hkind)]
    simp

/-- A lookup that waits for the channel is answered with its fault (R66, R88, R92). -/
theorem State.reportFault_answers {n : Channel} (hengine : s.engine = some r) (hchannel : r.channel = n)
    (hphase : r.phase = .lookup) (reason : FaultReason) (sub : BitVec 4) :
    (s.reportFault n reason sub).Concluded r r.entry r.faultVerdict := by
  unfold State.reportFault
  dsimp only
  generalize hu : ({ (s.setRecord n fun x => x.report reason sub).raise .channelFault (channelByte n) reason.code
      (sub.setWidth 16) (descriptorAddr s.host.tableBase n) with
    cache := _, cmd := _ } : State) = u
  have hserved : u.engine = some r := hu ▸ hengine
  rw [State.lookupFaults, hserved]
  refine iff_of_eq (congrArg (fun v : State => v.Concluded r r.entry r.faultVerdict) (if_pos ⟨hchannel, hphase⟩)) |>.mpr ?_
  exact State.conclude_concluded _ r _

/-- Any other request goes on. -/
theorem State.reportFault_engine {n : Channel} (hother : ∀ r, s.engine = some r → r.channel ≠ n ∨ r.phase ≠ .lookup)
    (reason : FaultReason) (sub : BitVec 4) : (s.reportFault n reason sub).engine = s.engine := by
  unfold State.reportFault
  dsimp only
  generalize hu : ({ (s.setRecord n fun x => x.report reason sub).raise .channelFault (channelByte n) reason.code
      (sub.setWidth 16) (descriptorAddr s.host.tableBase n) with
    cache := _, cmd := _ } : State) = u
  have hsame : u.engine = s.engine := hu ▸ rfl
  obtain h | ⟨r, hr, hchannel, hphase, -⟩ := u.lookupFaults_cases n
  · rw [h, hsame]
  · obtain h | h := hother r (hsame.symm.trans hr)
    · exact absurd hchannel h
    · exact absurd hphase h

end

/-- Settles O38: the lookup decided on the new context, or refused. -/
theorem linefillAnswersLookup : Obligations.LinefillAnswersLookup := by
  unfold Obligations.LinefillAnswersLookup
  refine fun s b e n r hreset hflight hkind hfilling htag hengine hchannel hphase =>
    ⟨fun ws => ?_, fun end_ hfault => ?_⟩
  · intro d hvalid
    have hexec := exec_linefillEnd_eq hreset hflight hkind hfilling (.completion ws)
    generalize hu : s.described e (Memory.hostWrites s.mem ws) d = u
    rw [State.linefillEnds_of_lookup hvalid hengine (hchannel.trans htag.symm) hphase hu] at hexec
    obtain ⟨hmem, hstatus, hmover, hwriter, -⟩ := s.described_frame e (Memory.hostWrites s.mem ws) d
    have hcontext := s.described_context e (Memory.hostWrites s.mem ws) d
    rw [hu] at hmem hstatus hmover hwriter hcontext
    have hmark : ((u.hit e).cache.entry e).inUse = true := by rw [u.hit_entry]
    have hhit : (u.hit e).context e = d := (u.hit_context e).trans hcontext
    have hmemory := State.admitRequest_frame ({ u with cache := u.cache.touch e } : State) r e
    obtain ⟨-, -, -, -, -, hmemory, -⟩ := hmemory
    generalize hdecision : d.decideRequest r.broadcast r.kind r.seq r.length (s.record n).seqValid s.mover.guards = decision
    obtain ⟨hignore, hrefuse, hduplicate, haccept⟩ := State.admitRequest_of_hit (s := u) (r := r) (e := e)
      (decision := decision) (by rw [hcontext, hmover, State.record_congr hstatus, hchannel, hdecision])
    refine ⟨_, hexec, hmemory.trans hmem, ?_⟩
    cases decision with
    | ignore =>
      rw [hignore rfl]
      have huncounted : Verdict.ignored ≠ .dropped true := nofun
      exact ⟨State.conclude_inUse rfl hmark _, State.conclude_concluded _ { r with entry := some e } _,
        (State.conclude_context huncounted e).trans hhit, (State.conclude_writer (s := u.hit e) huncounted).trans hwriter⟩
    | refuse reason =>
      rw [hrefuse reason rfl]
      exact ⟨State.conclude_inUse rfl hmark _, State.conclude_concluded _ { r with entry := some e } _⟩
    | duplicate =>
      rw [hduplicate rfl]
      obtain ⟨-, -, -, -, hcache, -⟩ := (u.hit e).acceptDuplicate_frame { r with entry := some e } e
      rw [State.context, hcache, State.acceptDuplicate_engine]
      exact ⟨hmark, rfl, hhit⟩
    | accept =>
      rw [haccept rfl]
      by_cases hadmits : r.kind = .get ∨ r.overflow = false
      · obtain ⟨hserves, hmarked⟩ := State.acceptNew_admits (s := u.hit e) (r := { r with entry := some e }) hadmits hmark
        refine ⟨by rw [hmarked, hserves]; rfl, fun hput hoverflow => ?_, fun _ => hserves⟩
        obtain hget | hroom := hadmits
        · exact nomatch hput.symm.trans hget
        · exact nomatch hoverflow.symm.trans hroom
      · obtain ⟨hnot, hoverflow⟩ := not_or.mp hadmits
        have hput := MsgKind.eq_put hnot
        rw [State.acceptNew_of_overflow (r := { r with entry := some e }) hput (Bool.eq_true_of_not_eq_false hoverflow)]
        exact ⟨State.conclude_inUse rfl hmark _, fun _ _ => State.conclude_concluded _ { r with entry := some e } _,
          fun h => absurd h hadmits⟩
  · have hexec := exec_linefillEnd_eq hreset hflight hkind hfilling end_
    obtain ⟨reason, sub, hcause⟩ : ∃ (reason : FaultReason) (sub : BitVec 4), (end_ = .busError ∧ reason = .linefillFault ∧ sub = 0#4) ∨
        (∃ ws, end_ = .completion ws ∧ reason = .badDescriptor ∧ sub ≠ 0 ∧
          sub = (Descriptor.readFrom (Memory.hostWrites s.mem ws) b.addr).subCode) := by
      obtain h | ⟨ws, h, hinvalid⟩ := hfault
      · exact ⟨_, _, .inl ⟨h, rfl, rfl⟩⟩
      · exact ⟨_, _, .inr ⟨ws, h, rfl, hinvalid, rfl⟩⟩
    obtain ⟨m, hmem, hends⟩ := State.linefillEnds_of_fault (s := s) (b := b) e hcause
    rw [hends, htag] at hexec
    generalize hu : ({ s.landed.presentCache with
      mem := m, cache := s.landed.presentCache.cache.invalidate e } : State) = u at hexec
    obtain ⟨-, -, -, -, hentries⟩ := u.reportFault_reports n reason sub
    obtain ⟨mark, hentry⟩ := hentries e
    refine ⟨_, hexec, fun hnone => ?_, ?_, fun herror => ?_⟩
    · have hserved : u.engine = some r := by
        obtain ⟨-, -, -, -, hsame, -⟩ := s.landed.presentCache_frame
        rw [← hu]
        exact hsame.trans hengine
      rw [← hnone]
      exact State.reportFault_answers hserved hchannel hphase reason sub
    · rw [hentry, ← hu]
      exact congrArg Entry.state ((Cache.entry_invalidate _ e e).trans (if_pos rfl))
    · obtain ⟨-, -, -, -, hmemory, -⟩ := u.reportFault_frame n reason sub
      rw [hmemory, ← hu]
      exact hmem herror

end Sys2Proof.Machine


/-! PROOFS. The ends of castouts and writes: what the retire unit finds as it looks again (R97, R144), and the report of a
write that ends in bus error (R83, R91, R98, R104). -/

namespace Sys2Proof.Machine

/-! ### The entry of a channel (R86, R88) -/

/-- The entry that holds channel `k`, with its state. -/
def Cache.found (c : Cache) (k : Channel) : Option (EntryIx × EntryState) :=
  (c.find k).map fun g => (g, (c.entry g).state)

theorem Cache.find_congr {c d : Cache} {k : Channel} (h : ∀ g, ((d.entry g).tag = k ∧ (d.entry g).state ≠ .invalid) ↔
    (c.entry g).tag = k ∧ (c.entry g).state ≠ .invalid) : d.find k = c.find k := by
  unfold Cache.find
  refine congrArg (fun p => entryOrder.find? p) (funext fun g => ?_)
  rw [Bool.eq_iff_iff]
  simpa using h g

/-- The entry that alone holds a channel is found. -/
theorem Cache.find_of_unique {c : Cache} {k : Channel} {e : EntryIx} (htag : (c.entry e).tag = k)
    (hstate : (c.entry e).state ≠ .invalid)
    (hunique : ∀ g, (c.entry g).tag = k → (c.entry g).state ≠ .invalid → g = e) : c.find k = some e := by
  cases hfind : c.find k with
  | none => exact absurd (Cache.find_none.mp hfind e htag) hstate
  | some g =>
    obtain ⟨hg, hg'⟩ := Cache.find_some hfind
    rw [hunique g hg hg']

section
variable {c d : Cache} {e : EntryIx}
  (hunique : ∀ g, (c.entry g).state ≠ .invalid → (c.entry g).tag = (c.entry e).tag → g = e)
  (hothers : ∀ g, g ≠ e → (d.entry g).tag = (c.entry g).tag ∧ (d.entry g).state = (c.entry g).state)
include hothers

/-- A channel that entry `e` neither held nor holds is found as before. -/
theorem Cache.found_of_other {k : Channel} (hbefore : (c.entry e).tag ≠ k)
    (hafter : (d.entry e).tag ≠ k ∨ (d.entry e).state = .invalid) : d.found k = c.found k := by
  have hfind : d.find k = c.find k := by
    refine Cache.find_congr fun g => ?_
    by_cases hg : g = e
    · subst hg
      refine ⟨fun h => ?_, fun h => absurd h.1 hbefore⟩
      obtain hafter | hafter := hafter
      · exact absurd h.1 hafter
      · exact absurd hafter h.2
    · rw [(hothers g hg).1, (hothers g hg).2]
  unfold Cache.found
  rw [hfind]
  cases hg : c.find k with
  | none => rfl
  | some g =>
    have hne : g ≠ e := fun h => hbefore (h ▸ (Cache.find_some hg).1)
    rw [Option.map_some, Option.map_some, (hothers g hne).2]

include hunique

/-- Once entry `e` has left its channel, that channel is not found (R86). -/
theorem Cache.found_of_gone (hafter : (d.entry e).tag ≠ (c.entry e).tag ∨ (d.entry e).state = .invalid) :
    d.found (c.entry e).tag = none := by
  have hnone : d.find (c.entry e).tag = none := by
    refine Cache.find_none.mpr fun g htag => ?_
    by_cases hg : g = e
    · subst hg
      exact hafter.resolve_left fun h => h htag
    · rw [(hothers g hg).1] at htag
      rw [(hothers g hg).2]
      by_contra hstate
      exact hg (hunique g hstate htag)
  rw [Cache.found, hnone]
  rfl

/-- What is found once entry `e` is INVALID. -/
theorem Cache.foundAfter_of_invalid (hafter : (d.entry e).state = .invalid) (k : Channel) :
    c.foundAfter e none k = d.found k := by
  unfold Cache.foundAfter
  split
  next hk =>
    rw [hk, Cache.found_of_gone hunique hothers (.inr hafter)]
    rfl
  next hk => exact (Cache.found_of_other hothers (Ne.symm hk) (.inr hafter)).symm

/-- What is found once entry `e` is in another state under the same tag. -/
theorem Cache.foundAfter_of_stays (htag : (d.entry e).tag = (c.entry e).tag) (hafter : (d.entry e).state ≠ .invalid)
    (k : Channel) : c.foundAfter e (some (d.entry e).state) k = d.found k := by
  unfold Cache.foundAfter
  split
  next hk =>
    have hfind : d.find (c.entry e).tag = some e := by
      refine Cache.find_of_unique htag hafter fun g hg hstate => ?_
      by_contra hne
      rw [(hothers g hne).1] at hg
      rw [(hothers g hne).2] at hstate
      exact hne (hunique g hstate hg)
    rw [hk, Cache.found, hfind]
    rfl
  next hk => exact (Cache.found_of_other hothers (Ne.symm hk) (.inl (htag ▸ Ne.symm hk))).symm

/-- What is found once entry `e` fills for the channel `m`, which had no entry. -/
theorem Cache.foundAfter_of_refilled {m : Channel} (habsent : c.Absent m) (hm : m ≠ (c.entry e).tag)
    (htag : (d.entry e).tag = m) (hafter : (d.entry e).state = .filling) (k : Channel) :
    c.foundAfter e none k = d.found k ∨ (c.foundAfter e none k = none ∧ ∃ g, d.found k = some (g, .filling)) := by
  unfold Cache.foundAfter
  split
  next hk =>
    rw [hk, Cache.found_of_gone hunique hothers (.inl (htag ▸ hm))]
    exact .inl rfl
  next hk =>
    by_cases hkm : k = m
    · subst hkm
      refine .inr ⟨by rw [Cache.find_none.mpr habsent]; rfl, e, ?_⟩
      have hfind : d.find k = some e := by
        refine Cache.find_of_unique htag (by rw [hafter]; exact nofun) fun g hg hstate => ?_
        by_contra hne
        rw [(hothers g hne).1] at hg
        rw [(hothers g hne).2] at hstate
        exact hstate (habsent g hg)
      rw [Cache.found, hfind, ← hafter]
      rfl
    · exact .inl (Cache.found_of_other hothers (Ne.symm hk) (.inl (htag ▸ Ne.symm hkm))).symm

end

/-! ### The head of the completion queue looks again (R97, R144, R145) -/

theorem State.releaseHead_of_cons {s : State} {c : Completion} {rest : List Completion} (h : s.retire.queue = c :: rest) :
    s.releaseHead = { s with
      writer := s.writer.takeAll c.events, retire := { s.retire with queue := rest, step := .stores } } := by
  rw [State.releaseHead, h]

section
variable {s : State} {n : Channel}

/-- With no entry of its channel the head is released. -/
theorem State.askDescriptorWrite_of_none (h : s.cache.found n = none) : s.askDescriptorWrite n = s.releaseHead := by
  rw [State.askDescriptorWrite, Option.map_eq_none_iff.mp h]

/-- A DIRTY entry is written through. -/
theorem State.askDescriptorWrite_of_dirty {e : EntryIx} (h : s.cache.found n = some (e, .dirty)) :
    s.askDescriptorWrite n = { s with
      cache := s.cache.beginWrite e
      retire := { s.retire with step := .descriptorWrite }
      port := { s.port with retire := some (s.writeOf (.writeThrough e) n (s.context e)) } } := by
  obtain ⟨g, hfind, hg⟩ := Option.map_eq_some_iff.mp h
  obtain ⟨rfl, hstate⟩ := Prod.mk.injEq .. ▸ hg
  obtain ⟨htag, -⟩ := Cache.find_some hfind
  have hburst : State.descriptorBurst { s with cache := s.cache.beginWrite g } (.writeThrough g) g =
      s.writeOf (.writeThrough g) n (s.context g) := by
    simp only [State.descriptorBurst, Cache.entry_beginWrite, if_true, htag]
    rfl
  rw [State.askDescriptorWrite, hfind]
  simp only [hstate, hburst]

/-- A write or castout in flight is waited for. -/
theorem State.askDescriptorWrite_of_flight {e : EntryIx} {x : EntryState} (h : s.cache.found n = some (e, x))
    (hx : x = .writing ∨ x = .writingDirty ∨ x = .evicting) :
    s.askDescriptorWrite n = { s with retire := { s.retire with step := .descriptorWait } } := by
  obtain ⟨g, hfind, hg⟩ := Option.map_eq_some_iff.mp h
  cases hg
  rw [State.askDescriptorWrite, hfind]
  obtain hx | hx | hx := hx
  all_goals simp only [hx]

/-- An entry with nothing to write lets the head go. -/
theorem State.askDescriptorWrite_of_settled {e : EntryIx} {x : EntryState} (h : s.cache.found n = some (e, x))
    (hx : x = .clean ∨ x = .filling) : s.askDescriptorWrite n = s.releaseHead := by
  obtain ⟨g, hfind, hg⟩ := Option.map_eq_some_iff.mp h
  cases hg
  rw [State.askDescriptorWrite, hfind]
  obtain hx | hx := hx
  all_goals simp only [hx]

end

theorem State.retryDescriptor_of_other {s : State} (h : s.retire.step ≠ .descriptorWait) : s.retryDescriptor = s :=
  if_neg h

/-- A head that waited finds its channel's entry as `found` says, or, where that is none, filling (log 14). -/
theorem State.retryDescriptor_looksAgain {s u : State} {found : Channel → Option (EntryIx × EntryState)}
    (hretire : u.retire = s.retire) (hhost : u.host = s.host)
    (hfound : ∀ k, found k = u.cache.found k ∨ (found k = none ∧ ∃ g, u.cache.found k = some (g, .filling)))
    (hcontext : ∀ k g, found k = some (g, .dirty) → u.context g = s.context g) :
    s.HeadLooksAgain u.retryDescriptor u.writer found := by
  intro c rest hwaits hwrite
  have hqueue : u.retire = ⟨c :: rest, .descriptorWait⟩ := hretire.trans hwaits
  have hlook : u.retryDescriptor = u.askDescriptorWrite c.channel := by
    rw [State.retryDescriptor, if_pos (by rw [hqueue]), State.descriptorStep, hqueue]
    exact if_pos hwrite
  have hrelease : u.releaseHead.retire = ⟨rest, .stores⟩ ∧ u.releaseHead.writer = u.writer.takeAll c.events := by
    rw [State.releaseHead_of_cons (c := c) (rest := rest) (by rw [hqueue])]
    exact ⟨rfl, rfl⟩
  rw [hlook]
  obtain hsame | ⟨hnone, g, hfilling⟩ := hfound c.channel
  · have hdirty := hcontext c.channel
    generalize found c.channel = x at hsame hdirty
    obtain _ | ⟨g, y⟩ := x
    · rw [State.askDescriptorWrite_of_none hsame.symm]
      exact hrelease
    · cases y with
      | dirty =>
        have hsnapshot := hdirty g rfl
        rw [State.askDescriptorWrite_of_dirty hsame.symm]
        simp only [Cache.entry_beginWrite, if_true, hqueue]
        refine ⟨trivial, trivial, trivial, hsnapshot, ?_⟩
        rw [State.writeOf, hhost, hsnapshot]
        rfl
      | writing =>
        rw [State.askDescriptorWrite_of_flight hsame.symm (.inl rfl)]
        exact ⟨by rw [hqueue, hwaits], rfl⟩
      | writingDirty =>
        rw [State.askDescriptorWrite_of_flight hsame.symm (.inr (.inl rfl))]
        exact ⟨by rw [hqueue, hwaits], rfl⟩
      | evicting =>
        rw [State.askDescriptorWrite_of_flight hsame.symm (.inr (.inr rfl))]
        exact ⟨by rw [hqueue, hwaits], rfl⟩
      | clean =>
        rw [State.askDescriptorWrite_of_settled hsame.symm (.inl rfl)]
        exact hrelease
      | filling =>
        rw [State.askDescriptorWrite_of_settled hsame.symm (.inr rfl)]
        exact hrelease
      | invalid =>
        obtain ⟨g', hfind, hg⟩ := Option.map_eq_some_iff.mp hsame.symm
        obtain ⟨-, hinvalid⟩ := Prod.mk.injEq .. ▸ hg
        exact absurd hinvalid (Cache.find_some hfind).2
  · rw [hnone, State.askDescriptorWrite_of_settled hfilling (.inr rfl)]
    exact hrelease

/-- A look again changes no context, none but a DIRTY entry, no burst of the cache and not the burst in flight (R97). -/
theorem State.retryDescriptor_keeps (s : State) : s.retryDescriptor.port.inFlight = s.port.inFlight ∧
    s.retryDescriptor.port.cache = s.port.cache ∧ s.retryDescriptor.cache.due = s.cache.due ∧
    ∀ g, s.retryDescriptor.context g = s.context g ∧
      ((s.cache.entry g).state ≠ .dirty → s.retryDescriptor.cache.entry g = s.cache.entry g) := by
  have hask (n : Channel) := s.askDescriptorWrite_entry n
  unfold State.retryDescriptor State.descriptorStep
  split
  · split
    next c _ _ =>
      split
      · obtain ⟨-, -, hport, hdue, hflight⟩ := hask c.channel 0
        exact ⟨hflight, hport, hdue, fun g => ⟨(hask c.channel g).1, fun h => (hask c.channel g).2.1 (.inl h)⟩⟩
      · obtain ⟨-, -, -, -, -, hcache, -, -, hport, -⟩ := s.releaseHead_frame
        simp only [State.context, hcache, hport]
        exact ⟨trivial, trivial, trivial, fun g => ⟨trivial, fun _ => trivial⟩⟩
    next => exact ⟨rfl, rfl, rfl, fun g => ⟨rfl, fun _ => rfl⟩⟩
  · exact ⟨rfl, rfl, rfl, fun g => ⟨rfl, fun _ => rfl⟩⟩

/-! ### A write of a descriptor that ends in bus error (R83, R91, R98, R114) -/

/-- A byte outside the words of a burst reads as before (R122). -/
theorem State.burstWrites_misses (s : State) (b : Burst) (r : WriteEnd) {a : Addr} (h : b.Misses a) :
    Memory.readByte (s.burstWrites b r).mem a = Memory.readByte s.mem a := by
  rw [State.burstWrites_mem]
  cases r with
  | completion => exact Memory.readByte_writeWords_miss _ _ h
  | busError => exact Memory.readByte_writeLanded_miss _ _ _ _ h

theorem State.castoutFaultNoted_of_report {s t : State} {n : Channel}
    (h : t.status = modifyAt s.status n fun x => x.report .castoutFault 0) : s.CastoutFaultNoted t n := by
  have hrecord (k : Channel) := State.record_modifyAt h k
  refine ⟨fun hfree => ?_, fun hwait => ?_, fun k hk => (hrecord k).trans (if_neg hk)⟩
  · rw [hrecord n, if_pos rfl]
    simp only [ChannelRecord.report, hfree]
  · rw [hrecord n, if_pos rfl]
    simp only [ChannelRecord.report, hwait]

/-- What the report of a castout's fault does (R91, R93, R114, R169; log 15). -/
theorem State.castoutFaults_reports (s : State) (e : EntryIx) (n : Channel) :
    (s.castoutFaults e n).writer = s.writer.take (s.castoutFaultEvent n) ∧
      (s.castoutFaults e n).status = modifyAt s.status n (fun x => x.report .castoutFault 0) ∧
      (s.castoutFaults e n).cmd = { s.cmd with work := (s.cmd.work.memberFaults e n).noteReport } ∧
      (s.castoutFaults e n).port.inFlight = s.port.inFlight ∧
      (s.castoutFaults e n).port.cache = s.port.cache ∧ (s.castoutFaults e n).cache.due = s.cache.due ∧
      ∀ g, ∃ b, (s.castoutFaults e n).cache.entry g = { s.cache.entry g with inUse := b } := by
  obtain ⟨hwriter, hstatus, hcmd, -, hentries⟩ :=
    (s.setWork (s.cmd.work.memberFaults e n)).reportFault_reports n .castoutFault 0
  obtain ⟨hflight, hport, hdue⟩ := (s.setWork (s.cmd.work.memberFaults e n)).reportFault_bursts n .castoutFault 0
  exact ⟨hwriter, hstatus, hcmd, hflight, hport, hdue, hentries⟩

/-- The loss of a context makes no event, and changes no entry but for an in-use mark (R83). -/
theorem State.contextLost_silent (s : State) (e : EntryIx) : (s.contextLost e).writer = s.writer ∧
    ∀ g, ∃ b, (s.contextLost e).cache.entry g = { s.cache.entry g with inUse := b } := by
  obtain h | ⟨r, -, -, ⟨-, h⟩ | ⟨-, h⟩⟩ := s.contextLost_cases e
  · rw [h]
    exact ⟨rfl, fun g => ⟨_, rfl⟩⟩
  · rw [h]
    exact ⟨rfl, fun g => ⟨_, rfl⟩⟩
  · refine ⟨by rw [h, State.conclude_writer r.faultVerdict_uncounted], fun g => ?_⟩
    obtain hcache | ⟨f, hcache⟩ :=
      State.conclude_cache (s := s) (r := { r with entry := none }) r.faultVerdict_uncounted
    · rw [h, hcache]
      exact ⟨_, rfl⟩
    · rw [h, hcache, Cache.entry_setInUse]
      split
      next hg => exact ⟨false, by rw [hg]⟩
      next => exact ⟨_, rfl⟩

/-- From `s` to `t` entry `e` has become INVALID; the tag and snapshot of every entry, and the context and state of every
other, are as before (R98, R104). -/
structure State.Invalidates (s t : State) (e : EntryIx) : Prop where
  state : (t.cache.entry e).state = .invalid
  age : (t.cache.entry e).age = 15
  tag : ∀ g, (t.cache.entry g).tag = (s.cache.entry g).tag
  snapshot : ∀ g, (t.cache.entry g).snapshot = (s.cache.entry g).snapshot
  others : ∀ g, g ≠ e → t.context g = s.context g ∧ (t.cache.entry g).state = (s.cache.entry g).state

theorem State.Invalidates.of_invalidate {s t : State} {e : EntryIx}
    (h : ∀ g, ∃ b, t.cache.entry g = { (s.cache.invalidate e).entry g with inUse := b }) : s.Invalidates t e := by
  have hentry (g : EntryIx) : ((s.cache.invalidate e).entry g).tag = (s.cache.entry g).tag ∧
      ((s.cache.invalidate e).entry g).snapshot = (s.cache.entry g).snapshot := by
    rw [Cache.entry_invalidate]
    split
    next hg => exact ⟨by rw [hg], by rw [hg]⟩
    next => exact ⟨rfl, rfl⟩
  have hself := (s.cache.entry_invalidate e e).trans (if_pos rfl)
  obtain ⟨b, he⟩ := h e
  refine ⟨by rw [he, hself], by rw [he, hself], fun g => ?_, fun g => ?_, fun g hg => ?_⟩
  · obtain ⟨b, hg⟩ := h g
    rw [hg]
    exact (hentry g).1
  · obtain ⟨b, hg⟩ := h g
    rw [hg]
    exact (hentry g).2
  · obtain ⟨b, hb⟩ := h g
    rw [State.context, hb, Cache.entry_invalidate, if_neg hg]
    exact ⟨rfl, rfl⟩

/-- What a write of entry `e` that ends in bus error does to the rest of the part (R93, R98, R114). -/
theorem State.entryFaults_reports (s : State) (e : EntryIx) :
    (s.entryFaults e).writer = s.writer.take (s.castoutFaultEvent (s.cache.entry e).tag) ∧
      (s.entryFaults e).status = modifyAt s.status (s.cache.entry e).tag (fun x => x.report .castoutFault 0) ∧
      (s.entryFaults e).cmd = { s.cmd with work := (s.cmd.work.memberFaults e (s.cache.entry e).tag).noteReport } ∧
      (s.entryFaults e).port.inFlight = s.port.inFlight ∧ (s.entryFaults e).port.cache = s.port.cache ∧
      (s.entryFaults e).cache.due = s.cache.due ∧ s.Invalidates (s.entryFaults e) e := by
  obtain ⟨hwriter, hstatus, hcmd, hflight, hport, hdue, hentries⟩ :=
    State.castoutFaults_reports { s with cache := s.cache.invalidate e } e (s.cache.entry e).tag
  unfold State.entryFaults
  generalize ({ s with cache := s.cache.invalidate e } : State).castoutFaults e (s.cache.entry e).tag = u at *
  obtain ⟨hsilent, hmarks⟩ := u.contextLost_silent e
  obtain ⟨-, -, hcmd', -, hstatus', -⟩ := u.contextLost_frame e
  have hserves := u.contextLost_onlyServes e
  refine ⟨hsilent.trans hwriter, hstatus'.trans hstatus, hcmd'.trans hcmd, hserves.inFlight.trans hflight,
    hserves.cachePort.trans hport, hserves.due.trans hdue, .of_invalidate fun g => ?_⟩
  obtain ⟨b, hb⟩ := hmarks g
  obtain ⟨b', hb'⟩ := hentries g
  exact ⟨b, by rw [hb, hb']⟩

/-- What it does to the request in progress (R83, R88). -/
theorem State.entryFaults_engine (s : State) (e : EntryIx) :
    (∀ r, s.engine = some r → r.entry = some e → r.phase ≠ .lookup →
      (r.phase ≠ .replying → (s.entryFaults e).Concluded r none r.faultVerdict) ∧
        (r.phase = .replying → (s.entryFaults e).engine = some { r with entry := none, lost := true })) ∧
    (∀ r, s.engine = some r → r.entry = none → r.channel = (s.cache.entry e).tag → r.phase = .lookup →
      (s.entryFaults e).Concluded r none r.faultVerdict) ∧
    ((∀ r, s.engine = some r → r.entry ≠ some e ∧ (r.channel ≠ (s.cache.entry e).tag ∨ r.phase ≠ .lookup)) →
      (s.entryFaults e).engine = s.engine) := by
  have hengine (hother : ∀ r, s.engine = some r → r.channel ≠ (s.cache.entry e).tag ∨ r.phase ≠ .lookup) :
      (({ s with cache := s.cache.invalidate e } : State).castoutFaults e (s.cache.entry e).tag).engine = s.engine :=
    State.reportFault_engine (s := State.setWork { s with cache := s.cache.invalidate e } _) hother .castoutFault 0
  have hanswers (r : Request) (hr : s.engine = some r) (hchannel : r.channel = (s.cache.entry e).tag)
      (hphase : r.phase = .lookup) : (({ s with cache := s.cache.invalidate e } : State).castoutFaults e
        (s.cache.entry e).tag).Concluded r r.entry r.faultVerdict :=
    State.reportFault_answers (s := State.setWork { s with cache := s.cache.invalidate e } _) hr hchannel hphase
      .castoutFault 0
  unfold State.entryFaults
  generalize ({ s with cache := s.cache.invalidate e } : State).castoutFaults e (s.cache.entry e).tag = u at *
  refine ⟨fun r hr hentry hphase => ?_, fun r hr hentry hchannel hphase => ?_, fun hother => ?_⟩
  · have hserved : u.engine = some r :=
      (hengine fun r' hr' => .inr (Option.some.inj (hr.symm.trans hr') ▸ hphase)).trans hr
    refine ⟨fun hreply => ?_, fun hreply => ?_⟩
    · have hlost : u.contextLost e = u.conclude { r with entry := none } r.faultVerdict := by
        simp only [State.contextLost, hserved, hentry, hreply, if_true, if_false]
      rw [hlost]
      exact u.conclude_concluded { r with entry := none } _
    · simp only [State.contextLost, hserved, hentry, hreply, if_true]
  · have hconcluded := hanswers r hr hchannel hphase
    rw [hentry] at hconcluded
    have hkeeps : u.contextLost e = u := by
      obtain h | ⟨r', hr', hentry', -⟩ := u.contextLost_cases e
      · exact h
      · unfold State.Concluded at hconcluded
        split at hconcluded
        · exact nomatch hr'.symm.trans hconcluded
        · cases Option.some.inj (hr'.symm.trans hconcluded)
          exact nomatch hentry'
    rw [hkeeps]
    exact hconcluded
  · have hserved := hengine fun r hr => (hother r hr).2
    obtain h | ⟨r, hr, hentry, -⟩ := u.contextLost_cases e
    · rw [h, hserved]
    · exact absurd hentry (hother r (hserved.symm.trans hr)).1

end Sys2Proof.Machine


/-! PROOFS. EVICTION_CASTOUT_END, INVALIDATION_CASTOUT_END and WRITE_END (R91, R95, R98, R104). -/

namespace Sys2Proof.Machine

/-! ### A write burst that has ended (R122, R126) -/

/-- From `s` to `u` the write burst `b` has landed: the port is left, no byte outside its words has changed, and nothing else
but the cache's next request has (R122, R126). -/
structure State.Landed (s u : State) (b : Burst) : Prop where
  idle : u.port.inFlight = none
  host : u.host = s.host
  link : u.link = s.link
  cmd : u.cmd = s.cmd
  engine : u.engine = s.engine
  status : u.status = s.status
  retire : u.retire = s.retire
  writer : u.writer = s.writer
  entry : ∀ g, u.cache.entry g = s.cache.entry g
  misses : ∀ a : Addr, b.Misses a → Memory.readByte u.mem a = Memory.readByte s.mem a

theorem State.landed_burstWrites (s : State) (b : Burst) (r : WriteEnd) : s.Landed (s.landed.burstWrites b r) b := by
  obtain ⟨-, hhost, hcmd, hlink, hengine, hcache, hstatus, -, hport, hretire, hwriter, -⟩ := s.landed.burstWrites_frame b r
  exact ⟨by rw [hport]; rfl, hhost, hlink, hcmd, hengine, hstatus, hretire, hwriter, fun g => by rw [hcache]; rfl,
    fun a ha => s.landed.burstWrites_misses b r ha⟩

theorem State.Landed.presentCache {s u : State} {b : Burst} (h : s.Landed u b) : s.Landed u.presentCache b := by
  obtain ⟨-, hhost, hcmd, hlink, hengine, hstatus, -, hretire, hwriter, hmem, -⟩ := u.presentCache_frame
  obtain ⟨-, -, -, -, hidle⟩ := u.presentCache_port
  exact ⟨hidle.trans h.idle, hhost.trans h.host, hlink.trans h.link, hcmd.trans h.cmd, hengine.trans h.engine,
    hstatus.trans h.status, hretire.trans h.retire, hwriter.trans h.writer,
    fun g => (u.presentCache_entry g).trans (h.entry g), fun a ha => by rw [hmem]; exact h.misses a ha⟩

theorem State.Landed.castoutFaultEvent {s u : State} {b : Burst} (h : s.Landed u b) (n : Channel) :
    u.castoutFaultEvent n = s.castoutFaultEvent n := by
  rw [State.castoutFaultEvent, h.link, h.host, State.castoutFaultEvent]

theorem State.Landed.context {s u : State} {b : Burst} (h : s.Landed u b) (g : EntryIx) : u.context g = s.context g :=
  congrArg Entry.context (h.entry g)

theorem State.Landed.invalidates {s u v : State} {b : Burst} {e : EntryIx} (h : s.Landed u b) (hv : u.Invalidates v e) :
    s.Invalidates v e := by
  refine ⟨hv.state, hv.age, fun g => (hv.tag g).trans (congrArg Entry.tag (h.entry g)),
    fun g => (hv.snapshot g).trans (congrArg Entry.snapshot (h.entry g)), fun g hg => ?_⟩
  obtain ⟨hcontext, hstate⟩ := hv.others g hg
  exact ⟨hcontext.trans (h.context g), hstate.trans (congrArg Entry.state (h.entry g))⟩

/-! ### A write of entry `e` that ends in bus error (R83, R98, R104) -/

/-- From `s` to `v` the write `b` of entry `e` has ended in bus error, for the channel `n` of the entry. -/
structure State.WriteFaulted (s v : State) (b : Burst) (e : EntryIx) (n : Channel) : Prop where
  idle : v.port.inFlight = none
  host : v.host = s.host
  retire : v.retire = s.retire
  writer : v.writer = s.writer.take (s.castoutFaultEvent n)
  noted : s.CastoutFaultNoted v n
  cmd : v.cmd = { s.cmd with work := s.cmd.work.afterEnd e n true }
  entries : s.Invalidates v e
  misses : ∀ a : Addr, b.Misses a → Memory.readByte v.mem a = Memory.readByte s.mem a
  working : ∀ r, s.engine = some r → r.entry = some e → r.phase ≠ .lookup →
    (r.phase ≠ .replying → v.Concluded r none r.faultVerdict) ∧
      (r.phase = .replying → v.engine = some { r with entry := none, lost := true })
  answered : ∀ r, s.engine = some r → r.entry = none → r.channel = n → r.phase = .lookup → v.Concluded r none r.faultVerdict
  other : (∀ r, s.engine = some r → r.entry ≠ some e ∧ (r.channel ≠ n ∨ r.phase ≠ .lookup)) → v.engine = s.engine

/-- The state after the fault of a write of entry `e`, FLUSH and PURGE told of its end (R98, R102, R103). -/
def State.writeFaults (u : State) (e : EntryIx) : State :=
  (u.entryFaults e).setWork ((u.entryFaults e).cmd.work.castEnds e)

theorem State.Landed.writeFaults {s u : State} {b : Burst} (h : s.Landed u b) (e : EntryIx) :
    s.WriteFaulted (u.writeFaults e) b e (s.cache.entry e).tag := by
  obtain ⟨hwriter, hstatus, hcmd, hidle, -, -, hentries⟩ := u.entryFaults_reports e
  obtain ⟨-, hhost, -, hretire, hmem, -⟩ := u.entryFaults_frame e
  obtain ⟨hworking, hanswered, hother⟩ := u.entryFaults_engine e
  rw [h.entry e, h.engine] at hanswered hother
  rw [h.engine] at hworking
  rw [h.entry e, h.castoutFaultEvent, h.writer] at hwriter
  rw [h.entry e, h.status] at hstatus
  rw [h.entry e, h.cmd] at hcmd
  have hwritten : u.Invalidates (u.writeFaults e) e :=
    ⟨hentries.state, hentries.age, hentries.tag, hentries.snapshot, hentries.others⟩
  refine ⟨hidle.trans h.idle, hhost.trans h.host, hretire.trans h.retire, hwriter,
    State.castoutFaultNoted_of_report (t := u.writeFaults e) hstatus, ?_, h.invalidates hwritten, fun a ha => ?_,
    hworking, hanswered, hother⟩
  · rw [← Work.castEnds_eq_afterEnd, if_pos rfl]
    simp only [State.writeFaults, State.setWork, hcmd]
  · exact (congrArg (fun m => Memory.readByte m a) hmem).trans (h.misses a ha)

/-- The fault leaves the cache's bursts to come. -/
theorem State.writeFaults_bursts (u : State) (e : EntryIx) : (u.writeFaults e).port.inFlight = u.port.inFlight ∧
    (u.writeFaults e).port.cache = u.port.cache ∧ (u.writeFaults e).cache.due = u.cache.due := by
  obtain ⟨-, -, -, hidle, hport, hdue, -⟩ := u.entryFaults_reports e
  exact ⟨hidle, hport, hdue⟩

/-! ### What the ends of castouts share (R91, R104) -/

/-- What both castout ends say of the part (CastoutsEnd), the castout `b` of entry `e` having ended so. -/
def State.CastoutEnded (s t : State) (b : Burst) (e : EntryIx) (result : WriteEnd) : Prop :=
  let n := (s.cache.entry e).tag
  let w := if decide (result = .busError) then s.writer.take (s.castoutFaultEvent n) else s.writer
  t.port.inFlight = none ∧ (∀ a : Addr, b.Misses a → Memory.readByte t.mem a = Memory.readByte s.mem a) ∧
    (∀ f : EntryIx, f ≠ e → t.context f = s.context f) ∧
    (s.retire.step ≠ .descriptorWait → t.retire = s.retire ∧ t.writer = w) ∧
    (s.cache.ResidencyLaw → s.HeadLooksAgain t w (s.cache.foundAfter e none)) ∧
    (result = .completion → t.mem = Memory.writeWords s.mem b.addr b.data ∧ t.status = s.status ∧ t.engine = s.engine) ∧
    (result = .busError → s.CastoutFaultNoted t n ∧
      (∀ r, s.engine = some r → r.entry = none → r.channel = n → r.phase = .lookup →
        t.Concluded r none (if r.broadcast then .dropped false else .refuseFault .none)) ∧
      ((∀ r, s.engine = some r → r.entry ≠ some e ∧ (r.channel ≠ n ∨ r.phase ≠ .lookup)) → t.engine = s.engine))

theorem State.CastoutFaultNoted.of_status {s t u : State} {n : Channel} (h : s.CastoutFaultNoted t n)
    (hstatus : u.status = t.status) : s.CastoutFaultNoted u n := by
  simp only [State.CastoutFaultNoted, State.record_congr hstatus]
  exact h

theorem State.Concluded.of_engine {t u : State} {r : Request} {entry : Option EntryIx} {v : Verdict}
    (h : t.Concluded r entry v) (hengine : u.engine = t.engine) : u.Concluded r entry v := by
  rw [State.Concluded, hengine]
  exact h

/-- An entry found while entry `e` has left its channel is another one. -/
theorem Cache.ne_of_foundAfter {c : Cache} {e g : EntryIx} {k : Channel} {x : EntryState}
    (h : c.foundAfter e none k = some (g, x)) : g ≠ e := by
  unfold Cache.foundAfter at h
  split at h
  · exact nomatch h
  next hk =>
    obtain ⟨g', hfind, hg⟩ := Option.map_eq_some_iff.mp h
    obtain ⟨rfl, -⟩ := Prod.mk.injEq .. ▸ hg
    rintro rfl
    exact hk (Cache.find_some hfind).1.symm

section
variable {s v : State} {b : Burst} {e : EntryIx} {result : WriteEnd}

/-- A castout end, its head's look again apart. -/
theorem State.CastoutEnded.of_retry (hidle : v.port.inFlight = none)
    (hmisses : ∀ a : Addr, b.Misses a → Memory.readByte v.mem a = Memory.readByte s.mem a)
    (hcontext : ∀ f : EntryIx, f ≠ e → v.context f = s.context f) (hhost : v.host = s.host) (hretire : v.retire = s.retire)
    (hwriter : v.writer = if decide (result = .busError) then
      s.writer.take (s.castoutFaultEvent (s.cache.entry e).tag) else s.writer)
    (hfound : s.cache.ResidencyLaw → ∀ k, s.cache.foundAfter e none k = v.cache.found k ∨
      (s.cache.foundAfter e none k = none ∧ ∃ g, v.cache.found k = some (g, .filling)))
    (hdone : result = .completion → v.mem = Memory.writeWords s.mem b.addr b.data ∧ v.status = s.status ∧
      v.engine = s.engine)
    (hfault : result = .busError → s.CastoutFaultNoted v (s.cache.entry e).tag ∧
      (∀ r, s.engine = some r → r.entry = none → r.channel = (s.cache.entry e).tag → r.phase = .lookup →
        v.Concluded r none r.faultVerdict) ∧
      ((∀ r, s.engine = some r → r.entry ≠ some e ∧ (r.channel ≠ (s.cache.entry e).tag ∨ r.phase ≠ .lookup)) →
        v.engine = s.engine)) : s.CastoutEnded v.retryDescriptor b e result := by
  obtain ⟨-, -, -, -, hengine, hstatus, -, hmem, -⟩ := v.retryDescriptor_frame
  obtain ⟨hflight, -, -, hentries⟩ := v.retryDescriptor_keeps
  refine ⟨hflight.trans hidle, fun a ha => ?_, fun f hf => (hentries f).1.trans (hcontext f hf), fun hstep => ?_,
    fun hlaw => ?_, fun hresult => ?_, fun hresult => ?_⟩
  · rw [hmem]
    exact hmisses a ha
  · rw [State.retryDescriptor_of_other (by rw [hretire]; exact hstep)]
    exact ⟨hretire, hwriter⟩
  · rw [← hwriter]
    exact State.retryDescriptor_looksAgain hretire hhost (hfound hlaw) fun k g h =>
      hcontext g (Cache.ne_of_foundAfter h)
  · obtain ⟨hm, hs, he⟩ := hdone hresult
    exact ⟨hmem.trans hm, hstatus.trans hs, hengine.trans he⟩
  · obtain ⟨hnoted, hanswered, hother⟩ := hfault hresult
    exact ⟨hnoted.of_status hstatus, fun r hr hentry hchannel hphase =>
      (hanswered r hr hentry hchannel hphase).of_engine hengine, fun h => hengine.trans (hother h)⟩

end

/-- No other entry holds the channel of an entry that is not INVALID (R86). -/
theorem Cache.ResidencyLaw.unique {c : Cache} (h : c.ResidencyLaw) {e : EntryIx} (he : (c.entry e).state ≠ .invalid) :
    ∀ g, (c.entry g).state ≠ .invalid → (c.entry g).tag = (c.entry e).tag → g = e := by
  obtain ⟨hunique, -⟩ := h
  exact fun g hg htag => hunique g e hg he htag

/-- What is found of the channels once entry `e` has become INVALID. -/
theorem State.Invalidates.foundAfter {s v : State} {e : EntryIx} (h : s.Invalidates v e)
    (he : (s.cache.entry e).state ≠ .invalid) (hlaw : s.cache.ResidencyLaw) (k : Channel) :
    s.cache.foundAfter e none k = v.cache.found k :=
  Cache.foundAfter_of_invalid (hlaw.unique he) (fun g hg => ⟨h.tag g, (h.others g hg).2⟩) h.state k

/-- As a write burst lands the cache's next due burst is presented (R96). -/
theorem State.burstWrites_turn (s : State) (b : Burst) (result : WriteEnd) :
    s.CacheTurn (s.landed.burstWrites b result).presentCache s.cache.due fun g => (s.cache.entry g).tag := by
  obtain ⟨-, hhost, -, -, -, hcache, -, -, hport, -⟩ := s.landed.burstWrites_frame b result
  have hturn : s.CacheTurn (s.landed.burstWrites b result).presentCache (s.landed.burstWrites b result).cache.due
      fun g => (s.cache.entry g).tag :=
    State.presentCache_turn (by rw [hport]; rfl) (by rw [hport]; rfl) (by rw [hhost]; rfl) (fun g => by rw [hcache]; rfl)
      fun g => by rw [hcache]; rfl
  rw [hcache] at hturn
  exact hturn

/-! ### The end of an invalidation castout (R104) -/

/-- The entry of an invalidation castout that has ended so is INVALID, FLUSH and PURGE told (R98, R102 to R104). -/
def State.invalidated (u : State) (e : EntryIx) (result : WriteEnd) : State :=
  match result with
  | .completion => State.setWork { u with cache := u.cache.invalidate e } (u.cmd.work.castEnds e)
  | .busError => u.writeFaults e

theorem State.invalidated_bursts (u : State) (e : EntryIx) (result : WriteEnd) :
    (u.invalidated e result).port.cache = u.port.cache ∧ (u.invalidated e result).cache.due = u.cache.due := by
  cases result with
  | completion => exact ⟨rfl, rfl⟩
  | busError => exact (u.writeFaults_bursts e).2

theorem State.Landed.invalidated {s u : State} {b : Burst} (h : s.Landed u b) (e : EntryIx) (result : WriteEnd) :
    (u.invalidated e result).port.inFlight = none ∧ (u.invalidated e result).host = s.host ∧
      (u.invalidated e result).retire = s.retire ∧
      ((u.invalidated e result).writer = if decide (result = .busError) then
        s.writer.take (s.castoutFaultEvent (s.cache.entry e).tag) else s.writer) ∧
      (u.invalidated e result).cmd = { s.cmd with
        work := s.cmd.work.afterEnd e (s.cache.entry e).tag (decide (result = .busError)) } ∧
      s.Invalidates (u.invalidated e result) e ∧
      ∀ a : Addr, b.Misses a → Memory.readByte (u.invalidated e result).mem a = Memory.readByte s.mem a := by
  cases result with
  | completion =>
    refine ⟨h.idle, h.host, h.retire, h.writer, ?_, h.invalidates (.of_invalidate fun g => ⟨_, rfl⟩), h.misses⟩
    have hwork := Work.castEnds_eq_afterEnd s.cmd.work e (s.cache.entry e).tag false
    rw [if_neg Bool.false_ne_true] at hwork
    simp only [State.invalidated, State.setWork, h.cmd, hwork]
    rfl
  | busError =>
    have hfaulted := h.writeFaults e
    exact ⟨hfaulted.idle, hfaulted.host, hfaulted.retire, hfaulted.writer, hfaulted.cmd, hfaulted.entries,
      hfaulted.misses⟩

section
variable {s : State} {b : Burst} {e : EntryIx} (hevicting : (s.cache.entry e).state = .evicting)
include hevicting

theorem exec_invalidationCastoutEnd_eq (hreset : s.resetAsserted = false) (hflight : s.port.inFlight = some b)
    (hkind : b.kind = .cache (.invalidation e)) (result : WriteEnd) :
    exec (.invalidationCastoutEnd result) s = .next (s.invalidationEnds e b result) := by
  refine congrArg _ ((State.live_of_not_reset hreset _).trans ?_)
  simp only [State.endInvalidation, hflight, hkind, hevicting, if_true]

/-- What an invalidation castout that ends leaves, completed or not. -/
theorem State.invalidationEnds_spec (result : WriteEnd) :
    s.CastoutEnded (s.invalidationEnds e b result) b e result ∧
      ((s.invalidationEnds e b result).cache.entry e).state = .invalid ∧
      ((s.invalidationEnds e b result).cache.entry e).age = 15 ∧
      (s.invalidationEnds e b result).cmd = { s.cmd with
        work := s.cmd.work.afterEnd e (s.cache.entry e).tag (decide (result = .busError)) } ∧
      s.CacheTurn (s.invalidationEnds e b result) s.cache.due fun g => (s.cache.entry g).tag := by
  have hstate : (s.cache.entry e).state ≠ .invalid := by
    rw [hevicting]
    exact nofun
  have hlanded := (s.landed_burstWrites b result).presentCache
  have hturn := s.burstWrites_turn b result
  have hmem : result = .completion → (s.landed.burstWrites b result).presentCache.mem =
      Memory.writeWords s.mem b.addr b.data := by
    rintro rfl
    obtain ⟨-, -, -, -, -, -, -, -, -, hm, -⟩ := (s.landed.burstWrites b .completion).presentCache_frame
    rw [hm]
    rfl
  have hends : s.invalidationEnds e b result =
      ((s.landed.burstWrites b result).presentCache.invalidated e result).retryDescriptor := by
    cases result <;> rfl
  rw [hends]
  generalize (s.landed.burstWrites b result).presentCache = u at *
  obtain ⟨hidle, hhost, hretire, hwriter, hcmd, hentries, hmisses⟩ := hlanded.invalidated e result
  obtain ⟨hport, hdue⟩ := u.invalidated_bursts e result
  obtain ⟨-, hportKept, hdueKept, hkept⟩ := (u.invalidated e result).retryDescriptor_keeps
  obtain ⟨-, -, hcmdKept, -⟩ := (u.invalidated e result).retryDescriptor_frame
  have hentry := (hkept e).2 (by rw [hentries.state]; exact nofun)
  refine ⟨.of_retry hidle hmisses (fun f hf => (hentries.others f hf).1) hhost hretire hwriter
    (fun hlaw k => .inl (hentries.foundAfter hstate hlaw k)) (fun hresult => ?_) (fun hresult => ?_),
    by rw [hentry]; exact hentries.state, by rw [hentry]; exact hentries.age, hcmdKept.trans hcmd,
    hturn.of_eq (hportKept.trans hport) (hdueKept.trans hdue)⟩
  · subst hresult
    exact ⟨hmem rfl, hlanded.status, hlanded.engine⟩
  · subst hresult
    have hfaulted := hlanded.writeFaults e
    exact ⟨hfaulted.noted, hfaulted.answered, hfaulted.other⟩

end

/-! ### The end of an eviction castout (R91) -/

/-- An eviction castout of channel `n` has landed so: a bus error is reported, the entry still to go on (R91). -/
def State.castoutLanded (u : State) (e : EntryIx) (n : Channel) (result : WriteEnd) : State :=
  match result with
  | .completion => u
  | .busError => u.castoutFaults e n

theorem State.castoutLanded_bursts (u : State) (e : EntryIx) (n : Channel) (result : WriteEnd) :
    (u.castoutLanded e n result).port.cache = u.port.cache ∧ (u.castoutLanded e n result).cache.due = u.cache.due := by
  cases result with
  | completion => exact ⟨rfl, rfl⟩
  | busError =>
    obtain ⟨-, -, -, -, hport, hdue, -⟩ := u.castoutFaults_reports e n
    exact ⟨hport, hdue⟩

theorem State.Landed.castoutLanded {s u : State} {b : Burst} (h : s.Landed u b) (e : EntryIx) (n : Channel)
    (result : WriteEnd) :
    (u.castoutLanded e n result).port.inFlight = none ∧ (u.castoutLanded e n result).host = s.host ∧
      (u.castoutLanded e n result).retire = s.retire ∧
      ((u.castoutLanded e n result).writer = if decide (result = .busError) then
        s.writer.take (s.castoutFaultEvent n) else s.writer) ∧
      (u.castoutLanded e n result).cmd = { s.cmd with
        work := if decide (result = .busError) then (s.cmd.work.memberFaults e n).noteReport else s.cmd.work } ∧
      (∀ g, ∃ mark, (u.castoutLanded e n result).cache.entry g = { s.cache.entry g with inUse := mark }) ∧
      ∀ a : Addr, b.Misses a → Memory.readByte (u.castoutLanded e n result).mem a = Memory.readByte s.mem a := by
  cases result with
  | completion => exact ⟨h.idle, h.host, h.retire, h.writer, h.cmd, fun g => ⟨_, h.entry g⟩, h.misses⟩
  | busError =>
    obtain ⟨hwriter, -, hcmd, hidle, -, -, hentries⟩ := u.castoutFaults_reports e n
    obtain ⟨-, hhost, -, hretire, hmem, -⟩ := u.castoutFaults_frame e n
    rw [h.writer, h.castoutFaultEvent] at hwriter
    rw [h.cmd] at hcmd
    refine ⟨hidle.trans h.idle, hhost.trans h.host, hretire.trans h.retire, hwriter, hcmd, fun g => ?_, fun a ha => ?_⟩
    · obtain ⟨mark, hg⟩ := hentries g
      exact ⟨mark, by rw [← h.entry g]; exact hg⟩
    · exact (congrArg (fun m => Memory.readByte m a) hmem).trans (h.misses a ha)

/-- What the report does to the channel table and to the request in progress (R88, R114). -/
theorem State.Landed.castoutFaults {s u : State} {b : Burst} (h : s.Landed u b) (e : EntryIx) (n : Channel) :
    s.CastoutFaultNoted (u.castoutFaults e n) n ∧
      (∀ r, s.engine = some r → r.channel = n → r.phase = .lookup →
        (u.castoutFaults e n).Concluded r r.entry r.faultVerdict) ∧
      ((∀ r, s.engine = some r → r.channel ≠ n ∨ r.phase ≠ .lookup) → (u.castoutFaults e n).engine = s.engine) := by
  obtain ⟨-, hstatus, -⟩ := u.castoutFaults_reports e n
  rw [h.status] at hstatus
  refine ⟨State.castoutFaultNoted_of_report hstatus, fun r hr hchannel hphase => ?_, fun hother => ?_⟩
  · exact State.reportFault_answers (s := u.setWork (u.cmd.work.memberFaults e n)) (h.engine.trans hr) hchannel hphase .castoutFault 0
  · refine (State.reportFault_engine (s := u.setWork (u.cmd.work.memberFaults e n)) (fun r hr => ?_) .castoutFault 0).trans h.engine
    exact hother r (h.engine.symm.trans hr)

/-- The entry's new fill is due, and the cache's first due burst presented (R91, R96). -/
theorem State.evictionGoesOn_turn {s w : State} {e : EntryIx} {m : Channel} (hidle : w.port.inFlight = none)
    (hport : w.port.cache = s.port.cache) (hhost : w.host = s.host)
    (hentries : ∀ g, ∃ mark, w.cache.entry g = { s.cache.entry g with inUse := mark }) :
    s.CacheTurn (w.evictionGoesOn e m) (w.cache.due ++ [.linefill e])
      fun g => if g = e then m else (s.cache.entry g).tag := by
  refine State.presentCache_turn (s := s) ?_ hport (congrArg HostIf.tableBase hhost) (fun g => ?_) fun g => ?_
  · exact Port.flies_eq_false.mpr (by simp [hidle])
  · obtain ⟨mark, hg⟩ := hentries g
    refine (congrArg Entry.tag (Cache.entry_modify w.cache e g _)).trans ?_
    by_cases hge : g = e
    · rw [if_pos hge, if_pos hge]
    · rw [if_neg hge, if_neg hge, hg]
  · obtain ⟨mark, hg⟩ := hentries g
    refine (congrArg Entry.snapshot (Cache.entry_modify w.cache e g _)).trans ?_
    split
    next hge => rw [← hge, hg]
    next => rw [hg]

theorem State.evictionGoesOn_idle (w : State) (e : EntryIx) (m : Channel) :
    (w.evictionGoesOn e m).port.inFlight = w.port.inFlight ∧
      (w.evictionGoesOn e m).cmd = { w.cmd with work := w.cmd.work.entryTaken e } := by
  unfold State.evictionGoesOn
  obtain ⟨-, -, hcmd, -⟩ := State.cacheDue_frame (State.setWork { w with
    cache := w.cache.modify e fun x => { x with tag := m, state := .filling, next := none } } (w.cmd.work.entryTaken e))
    (.linefill e)
  obtain ⟨-, -, -, -, hidle⟩ := State.cacheDue_port (State.setWork { w with
    cache := w.cache.modify e fun x => { x with tag := m, state := .filling, next := none } } (w.cmd.work.entryTaken e))
    (.linefill e)
  exact ⟨hidle, hcmd⟩

/-- The work of the command unit after an eviction castout of entry `e` under tag `n` (R102, R103; log 15). -/
theorem Work.entryTaken_faulted (w : Work) (e : EntryIx) (n : Channel) (faulted : Bool) :
    (if faulted then (w.memberFaults e n).noteReport else w).entryTaken e = match w with
      | .flush j f => .flush j (f || faulted && decide ((e, n) ∈ j.members))
      | .purge j k f => .purge j { k with members := k.members.filter fun x => decide (x.1 ≠ e) }
          (f || faulted && decide ((e, n) ∈ j.members) || faulted && decide ((e, n) ∈ k.members))
      | .stop step f => .stop step (f || faulted)
      | work => work := by
  cases w <;> cases faulted <;> simp [Work.entryTaken, Work.memberFaults, Work.noteReport, CastJob.entryTaken]

section
variable {s : State} {b : Burst} {e : EntryIx} {m : Channel} (hevicting : (s.cache.entry e).state = .evicting)
  (hnext : (s.cache.entry e).next = some m)
include hevicting hnext

theorem exec_evictionCastoutEnd_eq (hreset : s.resetAsserted = false) (hflight : s.port.inFlight = some b)
    (hkind : b.kind = .cache (.eviction e)) (result : WriteEnd) :
    exec (.evictionCastoutEnd result) s = .next (s.evictionEnds e m b result) := by
  refine congrArg _ ((State.live_of_not_reset hreset _).trans ?_)
  simp only [State.endEviction, hflight, hkind, hevicting, hnext]

/-- What an eviction castout that ends leaves, completed or not. -/
theorem State.evictionEnds_spec (result : WriteEnd) :
    s.CastoutEnded (s.evictionEnds e m b result) b e result ∧
      ((s.evictionEnds e m b result).cache.entry e).tag = m ∧
      ((s.evictionEnds e m b result).cache.entry e).state = .filling ∧
      ((s.evictionEnds e m b result).cache.entry e).next = none ∧
      (s.CacheTurn (s.evictionEnds e m b result) (s.cache.due ++ [.linefill e])
        fun g => if g = e then m else (s.cache.entry g).tag) ∧
      (s.evictionEnds e m b result).cmd = { s.cmd with
        work := (if decide (result = .busError) then (s.cmd.work.memberFaults e (s.cache.entry e).tag).noteReport
          else s.cmd.work).entryTaken e } := by
  have hends : s.evictionEnds e m b result = (((s.landed.burstWrites b result).castoutLanded e (s.cache.entry e).tag
      result).evictionGoesOn e m).retryDescriptor := by
    cases result <;> rfl
  have hlanded := s.landed_burstWrites b result
  obtain ⟨hport, hdue⟩ := (s.landed.burstWrites b result).castoutLanded_bursts e (s.cache.entry e).tag result
  obtain ⟨-, -, -, -, -, hsame, -, -, hsamePort, -⟩ := s.landed.burstWrites_frame b result
  rw [hsame] at hdue
  rw [hsamePort] at hport
  obtain ⟨hidle, hhost, hretire, hwriter, hcmd, hentries, hmisses⟩ := hlanded.castoutLanded e (s.cache.entry e).tag result
  have hturn := State.evictionGoesOn_turn (e := e) (m := m) hidle hport hhost hentries
  rw [hdue] at hturn
  obtain ⟨mark, hself⟩ := hentries e
  rw [hends]
  have hnoted := hlanded.castoutFaults e (s.cache.entry e).tag
  have hdone : result = .completion → ((s.landed.burstWrites b result).castoutLanded e (s.cache.entry e).tag result).mem =
      Memory.writeWords s.mem b.addr b.data ∧
      ((s.landed.burstWrites b result).castoutLanded e (s.cache.entry e).tag result).status = s.status ∧
      ((s.landed.burstWrites b result).castoutLanded e (s.cache.entry e).tag result).engine = s.engine := by
    rintro rfl
    exact ⟨rfl, hlanded.status, hlanded.engine⟩
  have hfault : result = .busError → ((s.landed.burstWrites b result).castoutLanded e (s.cache.entry e).tag result) =
      (s.landed.burstWrites b result).castoutFaults e (s.cache.entry e).tag := by
    rintro rfl
    rfl
  generalize (s.landed.burstWrites b result).castoutLanded e (s.cache.entry e).tag result = w at *
  obtain ⟨-, hhost', -, hengine, hstatus, -, hretire', hwriter', hmem, -⟩ := w.evictionGoesOn_frame e m
  obtain ⟨hidle', hcmd'⟩ := w.evictionGoesOn_idle e m
  have hentry (g : EntryIx) := w.evictionGoesOn_entry e g m
  generalize w.evictionGoesOn e m = v at *
  have hothers (g : EntryIx) (hg : g ≠ e) : (v.cache.entry g).tag = (s.cache.entry g).tag ∧
      (v.cache.entry g).state = (s.cache.entry g).state ∧ v.context g = s.context g := by
    obtain ⟨mark', hmark⟩ := hentries g
    rw [State.context, hentry g, if_neg hg, hmark]
    exact ⟨rfl, rfl, rfl⟩
  have hfills : v.cache.entry e = { s.cache.entry e with tag := m, state := .filling, inUse := mark, next := none } := by
    rw [hentry e, if_pos rfl, hself]
  obtain ⟨-, hportKept, hdueKept, hkept⟩ := v.retryDescriptor_keeps
  obtain ⟨-, -, hcmdKept, -⟩ := v.retryDescriptor_frame
  have hlast := (hkept e).2 (by rw [hfills]; exact nofun)
  refine ⟨.of_retry (hidle'.trans hidle) (fun a ha => by rw [hmem]; exact hmisses a ha) (fun f hf => (hothers f hf).2.2)
    (hhost'.trans hhost) (hretire'.trans hretire) (hwriter'.trans hwriter) (fun hlaw k => ?_) (fun hresult => ?_)
    (fun hresult => ?_), by rw [hlast, hfills], by rw [hlast, hfills], by rw [hlast, hfills],
    hturn.of_eq hportKept hdueKept, ?_⟩
  · have hstate : (s.cache.entry e).state ≠ .invalid := by rw [hevicting]; exact nofun
    have hunique := hlaw.unique hstate
    obtain ⟨-, -, -, hnexts⟩ := hlaw
    obtain ⟨habsent, -⟩ := hnexts e hevicting m hnext
    exact Cache.foundAfter_of_refilled hunique (fun g hg => ⟨(hothers g hg).1, (hothers g hg).2.1⟩) habsent
      (fun hm => hstate (habsent e hm.symm)) (by rw [hfills]) (by rw [hfills]) k
  · obtain ⟨hm, hs, he⟩ := hdone hresult
    exact ⟨hmem.trans hm, hstatus.trans hs, hengine.trans he⟩
  · obtain ⟨hfaulted, hanswered, hother⟩ := hnoted
    rw [← hfault hresult] at hfaulted hanswered hother
    exact ⟨hfaulted.of_status hstatus, fun r hr hnone hchannel hphase =>
      hnone ▸ (hanswered r hr hchannel hphase).of_engine hengine,
      fun h => hengine.trans (hother fun r hr => (h r hr).2)⟩
  · rw [hcmdKept, hcmd', hcmd]

end

/-- Settles O39: both castout ends, completed and not. -/
theorem castoutsEnd : Obligations.CastoutsEnd := by
  unfold Obligations.CastoutsEnd
  intro s b e result hreset hflight hevicting n faulted hits w ends
  refine ⟨fun m hkind hnext => ?_, fun hkind => ?_⟩
  · obtain ⟨hends, htag, hstate, hnone, hturn, hcmd⟩ := State.evictionEnds_spec (b := b) hevicting hnext result
    refine ⟨_, exec_evictionCastoutEnd_eq hevicting hnext hreset hflight hkind result, hends, htag, hstate, hnone, hturn,
      hcmd.trans (congrArg (fun work => ({ s.cmd with work := work } : CommandUnit)) ?_)⟩
    exact Work.entryTaken_faulted s.cmd.work e n faulted
  · exact ⟨_, exec_invalidationCastoutEnd_eq hevicting hreset hflight hkind result, State.invalidationEnds_spec hevicting result⟩

end Sys2Proof.Machine


/-! PROOFS. WRITE_END (R83, R95, R97, R98, R145). -/

namespace Sys2Proof.Machine

/-- The entry of a write that has ended so, FLUSH and PURGE told (R95, R98, R102, R103). -/
def State.written (u : State) (e : EntryIx) (result : WriteEnd) : State :=
  match result with
  | .completion => State.setWork { u with cache := u.cache.writeCompletes e } (u.cmd.work.castEnds e)
  | .busError => u.writeFaults e

theorem State.writeEnds_eq (s : State) (e : EntryIx) (b : Burst) (result : WriteEnd) :
    s.writeEnds e b result = (s.landed.burstWrites b result).written e result := by
  cases result <;> rfl

theorem State.written_bursts (u : State) (e : EntryIx) (result : WriteEnd) :
    (u.written e result).port.inFlight = u.port.inFlight ∧ (u.written e result).port.cache = u.port.cache ∧
      (u.written e result).cache.due = u.cache.due := by
  cases result with
  | completion => exact ⟨rfl, rfl, rfl⟩
  | busError => exact u.writeFaults_bursts e

/-- From `s` to `t` the write of entry `e` that began in WRITING has completed (R95). -/
structure State.WriteCompleted (s t : State) (b : Burst) (e : EntryIx) : Prop where
  idle : t.port.inFlight = none
  host : t.host = s.host
  retire : t.retire = s.retire
  writer : t.writer = s.writer
  status : t.status = s.status
  engine : t.engine = s.engine
  mem : t.mem = Memory.writeWords s.mem b.addr b.data
  cmd : t.cmd = { s.cmd with work := s.cmd.work.afterEnd e (s.cache.entry e).tag false }
  self : t.cache.entry e = { s.cache.entry e with state := (s.cache.entry e).state.written }
  others : ∀ g, g ≠ e → t.cache.entry g = s.cache.entry g

theorem State.writeCompleted (s : State) (b : Burst) (e : EntryIx) :
    s.WriteCompleted (s.writeEnds e b .completion) b e := by
  have hwork := Work.castEnds_eq_afterEnd s.cmd.work e (s.cache.entry e).tag false
  rw [if_neg Bool.false_ne_true] at hwork
  refine ⟨rfl, rfl, rfl, rfl, rfl, rfl, rfl, ?_, ?_, fun g hg => ?_⟩
  · rw [← hwork]
    rfl
  · exact (Cache.entry_writeCompletes s.cache e e).trans (if_pos rfl)
  · exact (Cache.entry_writeCompletes s.cache e g).trans (if_neg hg)

theorem State.WriteCompleted.kept {s t : State} {b : Burst} {e : EntryIx} (h : s.WriteCompleted t b e) (g : EntryIx) :
    (t.cache.entry g).tag = (s.cache.entry g).tag ∧ (t.cache.entry g).snapshot = (s.cache.entry g).snapshot ∧
      t.context g = s.context g := by
  by_cases hg : g = e
  · rw [hg, State.context, h.self]
    exact ⟨rfl, rfl, rfl⟩
  · rw [State.context, h.others g hg]
    exact ⟨rfl, rfl, rfl⟩

theorem State.writeFaulted (s : State) (b : Burst) (e : EntryIx) :
    s.WriteFaulted (s.writeEnds e b .busError) b e (s.cache.entry e).tag :=
  (s.landed_burstWrites b .busError).writeFaults e

section
variable {s : State} {b : Burst} {e : EntryIx} (hreset : s.resetAsserted = false) (hflight : s.port.inFlight = some b)
  (hwriting : (s.cache.entry e).state.isWriting = true) (result : WriteEnd)
include hreset hflight hwriting

theorem exec_writeEnd_of_flush (hkind : b.kind = .cache (.flushCastout e)) :
    exec (.writeEnd result) s = .next (s.writeEnds e b result).presentCache.retryDescriptor := by
  refine congrArg _ ((State.live_of_not_reset hreset _).trans ?_)
  simp only [State.endWrite, hflight, hkind, hwriting, if_true]

theorem exec_writeEnd_of_through (hkind : b.kind = .writeThrough e) :
    exec (.writeEnd result) s = .next (s.writeEnds e b result).releaseHead := by
  refine congrArg _ ((State.live_of_not_reset hreset _).trans ?_)
  simp only [State.endWrite, hflight, hkind, hwriting, if_true]

end

/-! ### What follows the write (R96, R97, R145) -/

/-- The head, if any, has left the completion queue, its events taken (R145). -/
def State.HeadGoes (s t : State) (w : Writer) : Prop :=
  t.retire = { s.retire with
    queue := s.retire.queue.tail, step := if s.retire.queue = [] then s.retire.step else .stores } ∧
  (s.retire.queue = [] → t.writer = w) ∧ ∀ c, s.retire.queue.head? = some c → t.writer = w.takeAll c.events

theorem State.releaseHead_headGoes {s v : State} (hretire : v.retire = s.retire) :
    s.HeadGoes v.releaseHead v.writer := by
  unfold State.HeadGoes
  rw [← hretire]
  obtain ⟨hqueue, h⟩ | ⟨c, rest, hqueue, h⟩ := v.releaseHead_cases
  · rw [h, hqueue]
    refine ⟨?_, fun _ => rfl, fun c hc => nomatch hc⟩
    generalize v.retire = q at hqueue
    obtain ⟨queue, step⟩ := q
    cases hqueue
    rfl
  · rw [h, hqueue]
    exact ⟨rfl, nofun, fun c' hc => Option.some.inj hc ▸ rfl⟩

/-- After a FLUSH castout the cache presents its next due burst, whatever the write left (R96). -/
theorem State.writeEnds_turn {s : State} {b : Burst} {e : EntryIx} {result : WriteEnd}
    (hhost : (s.writeEnds e b result).host = s.host)
    (htag : ∀ g, ((s.writeEnds e b result).cache.entry g).tag = (s.cache.entry g).tag)
    (hsnapshot : ∀ g, ((s.writeEnds e b result).cache.entry g).snapshot = (s.cache.entry g).snapshot) :
    s.CacheTurn (s.writeEnds e b result).presentCache s.cache.due fun g => (s.cache.entry g).tag := by
  obtain ⟨hidle, hport, hdue⟩ := (s.landed.burstWrites b result).written_bursts e result
  obtain ⟨-, -, -, -, -, hcache, -, -, hsame, -⟩ := s.landed.burstWrites_frame b result
  rw [← State.writeEnds_eq, hsame] at hidle hport
  rw [← State.writeEnds_eq, hcache] at hdue
  have hturn := State.presentCache_turn (s := s) (Port.flies_eq_false.mpr (by simp [hidle, State.landed]))
    hport (congrArg HostIf.tableBase hhost) htag hsnapshot
  rw [hdue] at hturn
  exact hturn

/-- A head of another channel leaves entry `e` as it is when it looks again. -/
theorem State.retryDescriptor_entry_of_other {s : State} {e : EntryIx}
    (h : ∀ c, s.retire.queue.head? = some c → c.channel ≠ (s.cache.entry e).tag) :
    s.retryDescriptor.cache.entry e = s.cache.entry e := by
  unfold State.retryDescriptor State.descriptorStep
  split
  · split
    next c rest hqueue =>
      split
      · refine (s.askDescriptorWrite_entry c.channel e).2.1 (.inr fun hfind => ?_)
        exact h c (by rw [hqueue]; rfl) (Cache.find_some hfind).1.symm
      · obtain ⟨-, -, -, -, -, hcache, -⟩ := s.releaseHead_frame
        rw [hcache]
    next => rfl
  · rfl

/-- The states that a write which began in WRITING leaves (R95). -/
theorem EntryState.written_of_isWriting {x : EntryState} (h : x = .writing ∨ x = .writingDirty) :
    x.isWriting = true ∧ x.written = if x = .writing then .clean else .dirty := by
  obtain rfl | rfl := h
  · exact ⟨rfl, rfl⟩
  · exact ⟨rfl, rfl⟩

/-- Settles O40: a write's entry, its channel and its request, and the head of the completion queue. -/
theorem writeEndSettlesEntry : Obligations.WriteEndSettlesEntry := by
  unfold Obligations.WriteEndSettlesEntry
  intro s b e hreset hflight hstate hkind n after fault headGoes
  obtain ⟨hwriting, hwritten⟩ := EntryState.written_of_isWriting hstate
  have hvalid : (s.cache.entry e).state ≠ .invalid := by
    rintro h
    rw [h] at hwriting
    exact nomatch hwriting
  have hafter : after ≠ .invalid := by
    simp only [after]
    split
    · exact nofun
    · exact nofun
  refine ⟨?_, ?_⟩
  · have hends := s.writeCompleted b e
    have hself : ((s.writeEnds e b .completion).cache.entry e).state = after := by
      rw [hends.self]
      exact hwritten
    obtain hkind | hkind := hkind
    · have hthrough : b.kind ≠ .writeThrough e := by rw [hkind]; exact nofun
      have hexec := exec_writeEnd_of_flush hreset hflight hwriting .completion hkind
      have hturn := State.writeEnds_turn hends.host (fun g => (hends.kept g).1) fun g => (hends.kept g).2.1
      generalize s.writeEnds e b .completion = v at *
      obtain ⟨-, hhost, hcmd, -, hengine, hstatus, -, hretire, hwriter, hmem, -⟩ := v.presentCache_frame
      obtain ⟨-, -, -, -, hidle⟩ := v.presentCache_port
      have hentry := v.presentCache_entry
      generalize v.presentCache = p at *
      obtain ⟨-, -, hcmd', -, hengine', hstatus', -, hmem', -⟩ := p.retryDescriptor_frame
      obtain ⟨hidle', hport', hdue', hkeeps⟩ := p.retryDescriptor_keeps
      have hpself : (p.cache.entry e).state = after := by rw [hentry, hself]
      have hcontext (g : EntryIx) : p.context g = s.context g := by
        rw [State.context, hentry]
        exact (hends.kept g).2.2
      refine ⟨_, hexec, hmem'.trans (hmem.trans hends.mem), hidle'.trans (hidle.trans hends.idle),
        (hkeeps e).1.trans (hcontext e), hstatus'.trans (hstatus.trans hends.status),
        hengine'.trans (hengine.trans hends.engine), hcmd'.trans (hcmd.trans hends.cmd), fun h => absurd h hthrough,
        fun _ => ⟨hturn.of_eq hport' hdue', fun hstep => ?_, fun hlaw => ⟨?_, fun hother => ?_⟩⟩⟩
      · have hnot : p.retire.step ≠ .descriptorWait := by
          rw [hretire, hends.retire]
          exact hstep
        rw [State.retryDescriptor_of_other hnot]
        exact ⟨hpself, hwriter.trans hends.writer, hretire.trans hends.retire⟩
      · rw [← hwriter.trans hends.writer]
        refine State.retryDescriptor_looksAgain (hretire.trans hends.retire) (hhost.trans hends.host)
          (fun k => .inl ?_) fun k g _ => hcontext g
        have hfound := Cache.foundAfter_of_stays (d := p.cache) (hlaw.unique hvalid)
          (fun g hg => by rw [hentry, hends.others g hg]; exact ⟨rfl, rfl⟩)
          (by rw [hentry]; exact (hends.kept e).1) (by rw [hpself]; exact hafter) k
        rw [hpself] at hfound
        exact hfound
      · refine (congrArg Entry.state ?_).trans hpself
        obtain hclean | hhead := hother
        · exact (hkeeps e).2 (by rw [hpself, hclean]; exact nofun)
        · refine State.retryDescriptor_entry_of_other fun c hc => ?_
          rw [hentry, (hends.kept e).1]
          exact hhead c (by rw [← hends.retire, ← hretire]; exact hc)
    · have hexec := exec_writeEnd_of_through hreset hflight hwriting .completion hkind
      obtain ⟨-, -, hcmd, -, hengine, hcache, hstatus, -, hport, hmem, -⟩ := (s.writeEnds e b .completion).releaseHead_frame
      have hgoes := State.releaseHead_headGoes (s := s) hends.retire
      rw [hends.writer] at hgoes
      refine ⟨_, hexec, hmem.trans hends.mem, by rw [hport]; exact hends.idle, ?_, hstatus.trans hends.status,
        hengine.trans hends.engine, hcmd.trans hends.cmd, fun _ => ⟨by rw [hcache]; exact hself, hgoes, by rw [hport]; rfl,
          by rw [hcache]; rfl⟩, fun h => nomatch hkind.symm.trans h⟩
      rw [State.context, hcache]
      exact (hends.kept e).2.2
  · have hends := s.writeFaulted b e
    have hother (g : EntryIx) (hg : g ≠ e) := hends.entries.others g hg
    obtain hkind | hkind := hkind
    · have hthrough : b.kind ≠ .writeThrough e := by rw [hkind]; exact nofun
      have hexec := exec_writeEnd_of_flush hreset hflight hwriting .busError hkind
      have hturn := State.writeEnds_turn hends.host hends.entries.tag hends.entries.snapshot
      generalize s.writeEnds e b .busError = v at *
      obtain ⟨-, hhost, hcmd, -, hengine, hstatus, -, hretire, hwriter, hmem, -⟩ := v.presentCache_frame
      obtain ⟨-, -, -, -, hidle⟩ := v.presentCache_port
      have hentry := v.presentCache_entry
      generalize v.presentCache = p at *
      obtain ⟨-, -, hcmd', -, hengine', hstatus', -, hmem', -⟩ := p.retryDescriptor_frame
      obtain ⟨hidle', hport', hdue', hkeeps⟩ := p.retryDescriptor_keeps
      have hpself : (p.cache.entry e).state = .invalid := by rw [hentry, hends.entries.state]
      have hpv : p.retryDescriptor.engine = v.engine := hengine'.trans hengine
      have hinvalid : s.Invalidates p e := ⟨hpself, by rw [hentry]; exact hends.entries.age,
        fun g => by rw [hentry]; exact hends.entries.tag g, fun g => by rw [hentry]; exact hends.entries.snapshot g,
        fun g hg => by rw [State.context, hentry]; exact hends.entries.others g hg⟩
      refine ⟨_, hexec, by rw [(hkeeps e).2 (by rw [hpself]; exact nofun), hpself], hidle'.trans (hidle.trans hends.idle),
        hends.noted.of_status (hstatus'.trans hstatus), hcmd'.trans (hcmd.trans hends.cmd),
        fun h => absurd h hthrough, fun _ => ⟨hturn.of_eq hport' hdue', fun hstep => ?_, fun hlaw => ?_⟩,
        fun r hr hre hphase => ?_, fun r hr hnone hchannel hphase => ?_, fun h => hpv.trans (hends.other h), fun a ha => ?_⟩
      · have hnot : p.retire.step ≠ .descriptorWait := by
          rw [hretire, hends.retire]
          exact hstep
        rw [State.retryDescriptor_of_other hnot]
        exact ⟨hretire.trans hends.retire, hwriter.trans hends.writer⟩
      · have hlook := State.retryDescriptor_looksAgain (found := s.cache.foundAfter e none) (hretire.trans hends.retire)
          (hhost.trans hends.host) (fun k => .inl (hinvalid.foundAfter hvalid hlaw k))
          fun k g h => (hinvalid.others g (Cache.ne_of_foundAfter h)).1
        rw [hwriter.trans hends.writer] at hlook
        exact hlook
      · obtain ⟨hwaits, hreplies⟩ := hends.working r hr hre hphase
        exact ⟨fun h => (hwaits h).of_engine hpv, fun h => hpv.trans (hreplies h)⟩
      · exact (hends.answered r hr hnone hchannel hphase).of_engine hpv
      · rw [hmem', hmem]
        exact hends.misses a ha
    · have hflush : b.kind ≠ .cache (.flushCastout e) := by rw [hkind]; exact nofun
      have hexec := exec_writeEnd_of_through hreset hflight hwriting .busError hkind
      obtain ⟨-, -, hcmd, -, hengine, hcache, hstatus, -, hport, hmem, -⟩ := (s.writeEnds e b .busError).releaseHead_frame
      have hgoes := State.releaseHead_headGoes (s := s) hends.retire
      rw [hends.writer] at hgoes
      obtain ⟨-, hportKept, hdueKept⟩ := (s.landed.burstWrites b .busError).written_bursts e .busError
      obtain ⟨-, -, -, -, -, hcacheKept, -, -, hportLanded, -⟩ := s.landed.burstWrites_frame b .busError
      rw [hportLanded] at hportKept
      rw [hcacheKept] at hdueKept
      refine ⟨_, hexec, by rw [hcache]; exact hends.entries.state, by rw [hport]; exact hends.idle,
        hends.noted.of_status hstatus, hcmd.trans hends.cmd, fun _ => ⟨hgoes, by rw [hport]; exact hportKept,
          by rw [hcache]; exact hdueKept⟩, fun h => absurd h hflush, fun r hr hre hphase => ?_,
        fun r hr hnone hchannel hphase => ?_, fun h => hengine.trans (hends.other h), fun a ha => ?_⟩
      · obtain ⟨hwaits, hreplies⟩ := hends.working r hr hre hphase
        exact ⟨fun h => (hwaits h).of_engine hengine, fun h => hengine.trans (hreplies h)⟩
      · exact (hends.answered r hr hnone hchannel hphase).of_engine hengine
      · rw [hmem]
        exact hends.misses a ha

end Sys2Proof.Machine


/-! PROOFS. The end of a store burst in bus error (R73, R81, R130, R133, R142), and the end of a fetch burst (R74, R134 to
R136). -/

namespace Sys2Proof.Machine

/-! ### The segments as a request is concluded (R129) -/

/-- The discarding of a segment looks at the data mover and the port alone. -/
theorem State.discardSegment_congr {s u : State} (hmover : u.mover = s.mover) (hport : u.port = s.port) (msg : Nat) :
    (u.discardSegment msg).mover = (s.discardSegment msg).mover ∧
      (u.discardSegment msg).port = (s.discardSegment msg).port := by
  rw [State.discardSegment_eq, State.discardSegment_eq, State.segmentsWithout, State.segmentsWithout, hmover, hport]
  exact ⟨rfl, rfl⟩

theorem State.abandonFetch_withEngine (s : State) (engine : Option Request) (msg : Nat) :
    ({ s with engine := engine } : State).abandonFetch msg = { s.abandonFetch msg with engine := engine } := by
  cases hstaging : s.mover.staging with
  | none => simp only [State.abandonFetch, hstaging]
  | some t =>
    by_cases hmsg : t.msg = msg
    · simp only [State.abandonFetch, hstaging, hmsg, if_true]
    · simp only [State.abandonFetch, hstaging, hmsg, if_false]

/-- Giving up a request's data a second time changes no segment and no request of the store client. -/
theorem State.abandonData_stores_again {s u : State} {r r1 : Request} (hkind : r1.kind = r.kind) (hmsg : r1.msg = r.msg)
    (hmover : u.mover = (s.abandonData r).mover) (hport : u.port = (s.abandonData r).port) :
    (u.abandonData r1).mover.segments = (s.abandonData r).mover.segments ∧
      (u.abandonData r1).port.store = (s.abandonData r).port.store := by
  by_cases hget : r.kind = .get
  · rw [State.abandonData_of_get hget] at hmover hport ⊢
    rw [State.abandonData_of_get (hkind.trans hget), ← hmover, ← hport]
    obtain ⟨h, -⟩ | ⟨t, -, -, h⟩ := u.abandonFetch_cases r1.msg
    · rw [h]
      exact ⟨rfl, rfl⟩
    · rw [h]
      exact ⟨rfl, rfl⟩
  · have hput := MsgKind.eq_put hget
    rw [State.abandonData_of_put hput] at hmover hport ⊢
    obtain ⟨hmover', hport'⟩ := State.discardSegment_congr hmover hport r.msg
    rw [State.abandonData_of_put (hkind.trans hput), hmsg, hmover', hport', State.discardSegment_discardSegment]
    exact ⟨rfl, rfl⟩

/-- A conclusion gives up the request's data and does nothing else to the segments. -/
theorem State.conclude_stores (s : State) (r : Request) (v : Verdict) :
    (s.conclude r v).mover.segments = (s.abandonData r).mover.segments ∧
      (s.conclude r v).port.store = (s.abandonData r).port.store := by
  have hwaits : (State.abandonData { s with engine := some { r with verdict := v, phase := .awaitReady } } r) =
      { s.abandonData r with engine := some { r with verdict := v, phase := .awaitReady } } := by
    by_cases hget : r.kind = .get
    · rw [State.abandonData_of_get hget, State.abandonData_of_get hget, State.abandonFetch_withEngine]
    · rw [State.abandonData_of_put (MsgKind.eq_put hget), State.abandonData_of_put (MsgKind.eq_put hget),
        State.discardSegment_withEngine]
  rw [State.conclude, hwaits]
  generalize hu : ({ s.abandonData r with engine := some { r with verdict := v, phase := .awaitReady } } : State) = u
  have hmover : u.mover = (s.abandonData r).mover := hu ▸ rfl
  have hport : u.port = (s.abandonData r).port := hu ▸ rfl
  obtain h | ⟨r1, hr1, -, -, -, h⟩ := u.settleBroadcast_cases
  · rw [h, hmover, hport]
    exact ⟨rfl, rfl⟩
  · obtain rfl : { r with verdict := v, phase := .awaitReady } = r1 := by
      rw [← hu] at hr1
      exact Option.some.inj hr1
    rw [h]
    refine State.abandonData_stores_again (s := s) (r := r) rfl rfl ?_ ?_
    · rw [← hmover]
      split
      · simp
      · rfl
    · rw [← hport]
      split
      · simp
      · rfl

/-! ### A store fault (R73, R81, R133) -/

section
variable {s : State} {r : Request} {msg : Nat} (hengine : s.engine = some r) (hmsg : r.msg = msg)
include hengine hmsg

/-- A store fault turns an ACCEPT that has not been declared ready (R73, R81). -/
theorem State.storeFaultMarks_of_accepted (hverdict : r.verdict = .acceptNew) (hready : r.ready = false) :
    s.storeFaultMarks msg = s.conclude { r with fault := .storeFault }
      (if r.broadcast then .dropped true else .refuseFault .storeFault) := by
  simp only [State.storeFaultMarks, hengine]
  exact (if_pos hmsg).trans (if_pos ⟨hverdict, hready⟩)

/-- It only marks another request. -/
theorem State.storeFaultMarks_of_other (hother : r.verdict ≠ .acceptNew ∨ r.ready = true) :
    s.storeFaultMarks msg = { s with engine := some { r with fault := .storeFault } } := by
  simp only [State.storeFaultMarks, hengine]
  refine (if_pos hmsg).trans (if_neg fun h => ?_)
  obtain hverdict | hready := hother
  · exact hverdict h.1
  · exact Bool.false_ne_true (h.2.symm.trans hready)

end

/-- A store fault discards the message's segment, or leaves the segments as they are. -/
theorem State.storeFaultMarks_stores (s : State) (msg : Nat) :
    ((s.storeFaultMarks msg).mover.segments = s.mover.segments ∧ (s.storeFaultMarks msg).port.store = s.port.store) ∨
      ((s.storeFaultMarks msg).mover.segments = (s.discardSegment msg).mover.segments ∧
        (s.storeFaultMarks msg).port.store = (s.discardSegment msg).port.store) := by
  cases hengine : s.engine with
  | none =>
    rw [State.storeFaultMarks, hengine]
    exact .inl ⟨rfl, rfl⟩
  | some r =>
    by_cases hmsg : r.msg = msg
    · by_cases h : r.verdict = .acceptNew ∧ r.ready = false
      · rw [State.storeFaultMarks_of_accepted hengine hmsg h.1 h.2]
        obtain ⟨hsegments, hstore⟩ := s.conclude_stores { r with fault := .storeFault }
          (if r.broadcast then .dropped true else .refuseFault .storeFault)
        rw [hsegments, hstore]
        by_cases hget : r.kind = .get
        · rw [State.abandonData_of_get (by exact hget)]
          obtain ⟨h, -⟩ | ⟨t, -, -, h⟩ := s.abandonFetch_cases r.msg
          · rw [h]
            exact .inl ⟨rfl, rfl⟩
          · rw [h]
            exact .inl ⟨rfl, rfl⟩
        · rw [State.abandonData_of_put (by exact MsgKind.eq_put hget), hmsg]
          exact .inr ⟨rfl, rfl⟩
      · rw [State.storeFaultMarks_of_other hengine hmsg ((not_and_or.mp h).imp_right Bool.eq_true_of_not_eq_false)]
        exact .inl ⟨rfl, rfl⟩
    · simp only [State.storeFaultMarks, hengine, hmsg, if_false]
      exact .inl ⟨trivial, trivial⟩

theorem State.storeFaultMarks_onlyServes (s : State) (msg : Nat) : s.OnlyServes (s.storeFaultMarks msg) := by
  unfold State.storeFaultMarks
  split
  · split
    · dsimp only
      split
      · exact s.conclude_onlyServes _ _
      · exact .of_port rfl rfl
    · exact .refl s
  · exact .refl s

/-! ### The store client after a store fault (R130, R133) -/

theorem Port.storeLook_congr {p q : Port} (hstore : p.store = q.store) (hflight : p.inFlight = q.inFlight)
    (segments : List Segment) : p.storeLook segments = q.storeLook segments := by
  rw [Port.storeLook, Port.storeLook, hstore, hflight]

/-- The sweep after a discarding changes nothing more, and the look is the one that the discarding made. -/
theorem State.storeLook_of_discarded {s v : State} {msg : Nat} (hidle : s.port.store = none)
    (hflight : v.port.inFlight = s.port.inFlight)
    (hsegments : v.mover.segments = (s.discardSegment msg).mover.segments)
    (hstore : v.port.store = (s.discardSegment msg).port.store) :
    v.sweepSegments.mover.segments = v.mover.segments ∧
      v.port.storeLook v.mover.segments = s.port.storeLook v.mover.segments := by
  have hcarried (m : Nat) : v.port.carried m = s.port.carried m := by rw [Port.carried, hflight, Port.carried]
  have hlist : v.mover.segments = s.segmentsWithout msg := by rw [hsegments, State.discardSegment_eq]
  have hwithdrawn : s.port.withdrawStore msg = s.port := by
    rw [Port.withdrawStore, hidle, if_neg (by simp), ← hidle]
  refine ⟨?_, ?_⟩
  · simp only [State.sweepSegments_mover, hcarried]
    rw [hlist]
    exact List.filter_eq_self.mpr fun x hx => (List.mem_filter.mp hx).2
  · rw [State.discardSegment_eq] at hstore
    rw [hlist, Port.storeLook_congr (q := { s.port with store := s.port.storeLook (s.segmentsWithout msg) }) ?_ hflight,
      Port.storeLook_storeLook]
    rw [hstore, hwithdrawn]

/-- After a store fault the store client looks at the segments that stay (R130). -/
theorem State.storeFault_look {s : State} (msg : Nat) (hidle : s.port.store = none) :
    (s.storeFaultMarks msg).sweepSegments.presentStore.port.store =
      s.port.storeLook (s.storeFaultMarks msg).sweepSegments.presentStore.mover.segments := by
  have hflight := (s.storeFaultMarks_onlyServes msg).inFlight
  rw [State.presentStore_eq]
  change (s.storeFaultMarks msg).port.storeLook (s.storeFaultMarks msg).sweepSegments.mover.segments =
    s.port.storeLook (s.storeFaultMarks msg).sweepSegments.mover.segments
  obtain ⟨-, hstore⟩ | ⟨hsegments, hstore⟩ := s.storeFaultMarks_stores msg
  · exact Port.storeLook_congr hstore hflight _
  · obtain ⟨hswept, hlook⟩ := State.storeLook_of_discarded hidle hflight hsegments hstore
    rw [hswept, hlook]

/-- The segment of a message whose stores have faulted holds nothing (R133). -/
def Segment.Emptied (x : Segment) : Prop := x.state = .discarding ∧ x.held = [] ∧ x.fault = true

theorem State.storeFault_emptied {s : State} {msg : Nat} (h : ∀ x ∈ s.mover.segments, x.msg = msg → x.Emptied) :
    ∀ x ∈ (s.storeFaultMarks msg).sweepSegments.presentStore.mover.segments, x.msg = msg → x.Emptied := by
  have hmarked : ∀ x ∈ (s.storeFaultMarks msg).mover.segments, x.msg = msg → x.Emptied := by
    obtain ⟨hsegments, -⟩ | ⟨hsegments, -⟩ := s.storeFaultMarks_stores msg
    · rw [hsegments]
      exact h
    · rw [hsegments, State.discardSegment_eq]
      intro x hx hmsg
      obtain ⟨y, hy, rfl⟩ := List.mem_map.mp (List.mem_filter.mp hx).1
      by_cases hym : y.msg = msg
      · obtain ⟨-, hheld, hfault⟩ := h y hy hym
        rw [if_pos hym]
        exact ⟨rfl, by simp [Segment.discard, hheld], hfault⟩
      · rw [if_neg hym] at hmsg
        exact absurd hmsg hym
  intro x hx
  rw [(State.presentStore_frame _).2.2.2.2.2.2.2.1] at hx
  exact hmarked x (List.mem_filter.mp hx).1

/-- The state of a store fault before the request in progress is told: the bytes that landed, the segment emptied, and the
completion entry told (R122, R133, R142). -/
def State.storeFaulted (s : State) (msg : Nat) (b : Burst) : State :=
  State.reportStoresEnd { s.landed.burstWrites b .busError with
    mover := (s.landed.burstWrites b .busError).mover.modify msg Segment.faults } msg true

theorem State.storeFaulted_emptied (s : State) (msg : Nat) (b : Burst) :
    ∀ x ∈ (s.storeFaulted msg b).mover.segments, x.msg = msg → x.Emptied := by
  intro x hx hmsg
  obtain ⟨y, -, rfl⟩ := List.mem_map.mp hx
  by_cases hy : y.msg = msg
  · rw [if_pos hy]
    exact ⟨rfl, rfl, rfl⟩
  · rw [if_neg hy] at hmsg
    exact absurd hmsg hy

/-- A broadcast that a store fault drops counts and is reported as it ends (R81). -/
theorem State.conclude_reports {s : State} {r : Request} {e : EntryIx} (hbroadcast : r.broadcast = true)
    (hclosed : r.closed = true) (hkind : r.kind = .put) (hentry : r.entry = some e) :
    (s.conclude r (.dropped true)).engine = none ∧ ((s.conclude r (.dropped true)).cache.entry e).inUse = false ∧
      (s.conclude r (.dropped true)).context e = (s.context e).setErrCount ((s.context e).errCount + 1) ∧
      (s.conclude r (.dropped true)).writer = if (s.context e).evError then s.writer.take ⟨.messageError,
        channelByte r.channel, 8, s.link.cycle, s.link.offset, r.length.setWidth 16, 0⟩ else s.writer := by
  have hengine := s.conclude_engine r (.dropped true)
  rw [if_pos ⟨hbroadcast, hclosed⟩] at hengine
  refine ⟨hengine, ?_⟩
  unfold State.conclude
  rw [State.abandonData_of_put hkind]
  obtain ⟨-, -, -, hlink, hserved, hcache, -, -, hwriter, -⟩ := State.discardSegment_frame
    { s with engine := some { r with verdict := .dropped true, phase := .awaitReady } } r.msg
  obtain ⟨hcontext, hreport, hmark⟩ := State.settleBroadcast_reports hserved hbroadcast hclosed rfl rfl hentry
  rw [hcontext, hreport, State.context, hcache, hwriter, hlink]
  exact ⟨hmark, rfl, rfl⟩

/-- Settles O42: the segment, memory, the request, and the completion entry after a store fault. -/
theorem storeFaultReported : Obligations.StoreFaultReported := by
  unfold Obligations.StoreFaultReported
  intro s b msg bytes hreset hflight hkind
  have hexec := exec_storeBurstEnd_eq hreset hflight hkind .busError
  have hends : s.storeEnds msg bytes b .busError =
      ((s.storeFaulted msg b).storeFaultMarks msg).sweepSegments.presentStore := rfl
  have hemptied := State.storeFault_emptied (s.storeFaulted_emptied msg b)
  have hlook := fun h => State.storeFault_look (s := s.storeFaulted msg b) msg h
  rw [hends] at hexec
  obtain ⟨-, -, -, -, hengine, hcache, -, -, hretire, hwriter, hmem, -⟩ :=
    ((s.storeFaulted msg b).storeFaultMarks msg).sweepSegments.presentStore_frame
  obtain ⟨-, -, -, -, -, hretire', hmem', -⟩ := (s.storeFaulted msg b).storeFaultMarks_frame msg
  have hmisses (a : Addr) (ha : b.Misses a) : Memory.readByte (s.storeFaulted msg b).mem a = Memory.readByte s.mem a :=
    s.landed.burstWrites_misses b .busError ha
  refine ⟨_, hexec, hemptied, fun a ha => ?_, fun r hr hmsg hbroadcast => ?_, fun r hr hmsg hbroadcast hput => ⟨?_, ?_⟩,
    fun hidle => hlook hidle, hretire.trans hretire'⟩
  · rw [hmem, State.sweepSegments_mem, hmem']
    exact hmisses a ha
  · by_cases haccepted : r.verdict = .acceptNew ∧ r.ready = false
    · have hmarks := State.storeFaultMarks_of_accepted (s := s.storeFaulted msg b) hr hmsg haccepted.1 haccepted.2
      rw [if_neg (Bool.eq_false_iff.mp hbroadcast)] at hmarks
      refine ⟨{ r with fault := .storeFault, verdict := .refuseFault .storeFault, phase := .awaitReady }, ?_, rfl,
        fun _ _ => ⟨rfl, rfl⟩, fun h => ?_⟩
      · rw [hengine, State.sweepSegments_engine, hmarks, State.conclude_engine]
        exact if_neg fun h => Bool.false_ne_true (hbroadcast.symm.trans h.1)
      · obtain hverdict | hready := h
        · exact absurd haccepted.1 hverdict
        · exact absurd (haccepted.2.symm.trans hready) Bool.false_ne_true
    · have hother : r.verdict ≠ .acceptNew ∨ r.ready = true :=
        (not_and_or.mp haccepted).imp_right Bool.eq_true_of_not_eq_false
      refine ⟨{ r with fault := .storeFault }, ?_, rfl, fun hverdict hready => absurd ⟨hverdict, hready⟩ haccepted,
        fun _ => rfl⟩
      rw [hengine, State.sweepSegments_engine, State.storeFaultMarks_of_other (s := s.storeFaulted msg b) hr hmsg hother]
  · intro e hverdict hready hentry
    have hmarks := State.storeFaultMarks_of_accepted (s := s.storeFaulted msg b) hr hmsg hverdict hready
    rw [if_pos hbroadcast] at hmarks
    rw [State.context, hengine, hcache, hwriter, State.sweepSegments_engine, State.sweepSegments_cache,
      State.sweepSegments_writer, hmarks]
    refine ⟨fun hopen => ?_, fun hclosed => ?_⟩
    · obtain ⟨hwaits, hkept, hsilent⟩ := State.conclude_of_open_frame (s := s.storeFaulted msg b)
        (r := { r with fault := .storeFault }) (.dropped true) (.inr hopen)
      exact ⟨hkept, hsilent, hwaits⟩
    · exact State.conclude_reports (s := s.storeFaulted msg b) (r := { r with fault := .storeFault }) hbroadcast hclosed
        hput hentry
  · intro hother
    rw [hengine, hcache, hwriter, State.sweepSegments_engine, State.sweepSegments_cache, State.sweepSegments_writer,
      State.storeFaultMarks_of_other (s := s.storeFaulted msg b) hr hmsg hother]
    exact ⟨rfl, rfl, rfl⟩

end Sys2Proof.Machine


/-! PROOFS. The end of a fetch burst (R74, R134 to R136). -/

namespace Sys2Proof.Machine

/-- The bytes of a read, in address order (R123). -/
theorem Memory.getElem?_readBytes (m : Memory) : ∀ (n : Nat) (a : Addr) {k : Nat}, k < n →
    (Memory.readBytes m a n)[k]? = some (Memory.readByte m (a + BitVec.ofNat 32 k))
  | 0, _, _, hk => absurd hk (Nat.not_lt_zero _)
  | n + 1, a, 0, _ => congrArg (fun b => some (Memory.readByte m b)) (BitVec.add_zero a).symm
  | n + 1, a, k + 1, hk => by
    refine (Memory.getElem?_readBytes m n (a + 1) (Nat.lt_of_succ_lt_succ hk)).trans ?_
    rw [BitVec.add_assoc, BitVec.add_comm 1, Nat.add_comm, BitVec.ofNat_add, BitVec.add_comm (BitVec.ofNat 32 1)]
    rfl

/-! ### The buffer and the fetch client (R134 to R136) -/

theorem exec_fetchBurstEnd_eq {s : State} (hreset : s.resetAsserted = false) {b : Burst} {msg bytes : Nat}
    (hflight : s.port.inFlight = some b) (hkind : b.kind = .fetch msg bytes) (end_ : ReadEnd) :
    exec (.fetchBurstEnd end_) s = .next (s.fetchEnds msg bytes b end_) := by
  refine congrArg _ ((State.live_of_not_reset hreset _).trans ?_)
  simp only [State.endFetch, hflight, hkind]

/-- A burst of a message that the buffer serves no more changes no buffer (R135). -/
theorem State.modifyStaging_of_other {s : State} {msg : Nat} (h : ∀ t, s.mover.staging = some t → t.msg ≠ msg)
    (f : Staging → Staging) : s.modifyStaging msg f = s := by
  unfold State.modifyStaging
  split
  next t ht => exact if_neg (h t ht)
  next => rfl

theorem State.modifyStaging_of_served {s : State} {t : Staging} (h : s.mover.staging = some t) (f : Staging → Staging) :
    s.modifyStaging t.msg f = { s with mover := { s.mover with staging := some (f t) } } := by
  simp only [State.modifyStaging, h, if_true]

theorem Mover.serves_of_other {m : Mover} {msg : Nat} (h : ∀ t, m.staging = some t → t.msg ≠ msg) : m.serves msg = false := by
  unfold Mover.serves
  split
  next t ht => exact decide_eq_false (h t ht)
  next => rfl

/-- A buffer with nothing left to fetch asks for no burst (R134). -/
theorem Port.fetchLook_of_done {p : Port} {t : Staging} (h : t.left = 0) : p.fetchLook (some t) = p.fetch := by
  simp [Port.fetchLook, h]

section
variable {s : State} {r : Request} {msg : Nat} (hengine : s.engine = some r) (hmsg : r.msg = msg)
include hengine hmsg

/-- A fetch fault turns an ACCEPT that has not been declared ready (R74). -/
theorem State.fetchFaultMarks_of_accepted (hverdict : r.verdict = .acceptNew ∨ r.verdict = .acceptDuplicate)
    (hready : r.ready = false) :
    s.fetchFaultMarks msg = s.conclude { r with fault := .fetchFault } (.refuseFault .fetchFault) := by
  simp only [State.fetchFaultMarks, hengine]
  exact (if_pos hmsg).trans (if_pos ⟨hverdict, hready⟩)

theorem State.fetchFaultMarks_of_other (hother : ¬ ((r.verdict = .acceptNew ∨ r.verdict = .acceptDuplicate) ∧
    r.ready = false)) : s.fetchFaultMarks msg = { s with engine := some { r with fault := .fetchFault } } := by
  simp only [State.fetchFaultMarks, hengine]
  exact (if_pos hmsg).trans (if_neg hother)

end

/-- The buffer of a GET whose fetch has faulted (R136). -/
def State.fetchFaulted (s : State) (t : Staging) : State :=
  { s.landed with mover := { s.mover with staging := some t.faults } }

/-- A fetch fault of the message served: the buffer is emptied and the request told (R136). -/
theorem State.fetchEnds_of_fault {s : State} {t : Staging} (hstaging : s.mover.staging = some t) (bytes : Nat) (b : Burst) :
    s.fetchEnds t.msg bytes b .busError = ((s.fetchFaulted t).fetchFaultMarks t.msg).presentFetch := by
  have hserves : s.mover.serves t.msg = true := by simp [Mover.serves, hstaging]
  unfold State.fetchEnds
  simp only [hserves, if_true]
  rw [State.modifyStaging_of_served (s := s.landed) hstaging]
  rfl

theorem State.abandonFetch_of_served {s : State} {t : Staging} (h : s.mover.staging = some t) :
    s.abandonFetch t.msg =
      { s with mover := { s.mover with staging := none }, port := { s.port with fetch := none } } := by
  simp only [State.abandonFetch, h, if_true]

/-- The buffer after a burst, its next burst presented (R134). -/
def State.fetchGoesOn (s : State) (m : Memory) (v : Staging) : State :=
  { s with
    mem := m
    mover := { s.mover with staging := some v }
    port := { s.port with inFlight := none, fetch := ({ s.port with inFlight := none } : Port).fetchLook (some v) } }

theorem State.fetchEnds_of_completion {s : State} {t : Staging} (hstaging : s.mover.staging = some t) (bytes : Nat)
    (b : Burst) (ws : List (Addr × Byte)) :
    s.fetchEnds t.msg bytes b (.completion ws) = s.fetchGoesOn (Memory.hostWrites s.mem ws)
      (t.fetched b (Memory.readBytes (Memory.hostWrites s.mem ws) b.addr bytes)) := by
  unfold State.fetchEnds
  dsimp only
  rw [State.modifyStaging_of_served (s := { s.landed with mem := Memory.hostWrites s.mem ws }) hstaging,
    State.presentFetch_eq]
  rfl

/-- A fetch fault that turns an ACCEPT abandons the message's fetch (R74, R136). -/
theorem State.fetchEnds_of_turned {s : State} {t : Staging} {r : Request} (hstaging : s.mover.staging = some t)
    (hengine : s.engine = some r) (hmsg : r.msg = t.msg) (hbroadcast : r.broadcast = false) (hget : r.kind = .get)
    (hverdict : r.verdict = .acceptNew ∨ r.verdict = .acceptDuplicate) (hready : r.ready = false) (bytes : Nat) (b : Burst) :
    s.fetchEnds t.msg bytes b .busError = { s with
      engine := some { r with fault := .fetchFault, verdict := .refuseFault .fetchFault, phase := .awaitReady }
      mover := { s.mover with staging := none }
      port := { s.port with inFlight := none, fetch := none } } := by
  rw [State.fetchEnds_of_fault hstaging,
    State.fetchFaultMarks_of_accepted (s := s.fetchFaulted t) hengine hmsg hverdict hready,
    State.conclude_of_open (r := { r with fault := .fetchFault }) _ (.inl hbroadcast),
    State.abandonData_of_get (r := { r with fault := .fetchFault }) hget]
  refine (congrArg (fun m => (State.abandonFetch _ m).presentFetch) hmsg).trans ?_
  refine (congrArg State.presentFetch (State.abandonFetch_of_served (t := t.faults) rfl)).trans ?_
  rfl

/-- A fetch fault of a request that it does not turn only marks it (R74). -/
theorem State.fetchEnds_of_marked {s : State} {t : Staging} {r : Request} (hstaging : s.mover.staging = some t)
    (hengine : s.engine = some r) (hmsg : r.msg = t.msg)
    (hother : ¬ ((r.verdict = .acceptNew ∨ r.verdict = .acceptDuplicate) ∧ r.ready = false)) (bytes : Nat) (b : Burst) :
    s.fetchEnds t.msg bytes b .busError = { s with
      engine := some { r with fault := .fetchFault }
      mover := { s.mover with staging := some t.faults }
      port := { s.port with inFlight := none } } := by
  rw [State.fetchEnds_of_fault hstaging, State.fetchFaultMarks_of_other (s := s.fetchFaulted t) hengine hmsg hother,
    State.presentFetch_eq]
  exact congrArg (fun f => ({ s with
      engine := some { r with fault := .fetchFault }
      mover := { s.mover with staging := some t.faults }
      port := { s.port with inFlight := none, fetch := f } } : State))
    (Port.fetchLook_of_done (p := s.landed.port) (t := t.faults) rfl)

/-- Settles O43: the bytes join the buffer, or the fault empties it. -/
theorem fetchedBytesJoinBuffer : Obligations.FetchedBytesJoinBuffer := by
  unfold Obligations.FetchedBytesJoinBuffer
  refine ⟨fun s b msg bytes hreset hflight hkind hother end_ => ?_, fun s b t bytes hreset hflight hkind hstaging => ?_⟩
  · refine ⟨_, exec_fetchBurstEnd_eq hreset hflight hkind end_, ?_⟩
    cases end_ with
    | completion ws =>
      unfold State.fetchEnds
      dsimp only
      rw [State.modifyStaging_of_other (by exact hother), State.presentFetch_eq]
      rfl
    | busError =>
      unfold State.fetchEnds
      dsimp only
      rw [Mover.serves_of_other hother, if_neg Bool.false_ne_true, State.presentFetch_eq]
      rfl
  · intro ended
    refine ⟨fun ws => ?_, fun r hr hmsg hbroadcast hget => ?_⟩
    · have hexec := exec_fetchBurstEnd_eq hreset hflight hkind (.completion ws)
      rw [State.fetchEnds_of_completion hstaging] at hexec
      have hlength := Memory.readBytes_length (Memory.hostWrites s.mem ws) b.addr bytes
      refine ⟨_, _, hexec, rfl, rfl, rfl, rfl, congrArg (t.left - ·) hlength, rfl, ?_, List.take_left, fun k hk => ?_,
        rfl, rfl, rfl, rfl, rfl⟩
      · exact List.length_append.trans (congrArg (t.held.length + ·) hlength)
      · refine (List.getElem?_append_right (Nat.le_add_right _ _)).trans ?_
        rw [Nat.add_sub_cancel_left]
        exact Memory.getElem?_readBytes _ bytes b.addr hk
    · have hexec := exec_fetchBurstEnd_eq hreset hflight hkind .busError
      by_cases haccepted : (r.verdict = .acceptNew ∨ r.verdict = .acceptDuplicate) ∧ r.ready = false
      · rw [State.fetchEnds_of_turned hstaging hr hmsg hbroadcast hget haccepted.1 haccepted.2] at hexec
        exact ⟨_, _, hexec, rfl, rfl, rfl, rfl, nofun, fun _ _ => ⟨rfl, rfl, rfl, rfl⟩,
          fun hready => absurd (hready.symm.trans haccepted.2) Bool.noConfusion⟩
      · rw [State.fetchEnds_of_marked hstaging hr hmsg haccepted] at hexec
        refine ⟨_, _, hexec, rfl, rfl, rfl, rfl, fun v hv => ?_, fun hverdict hready => absurd ⟨hverdict, hready⟩ haccepted,
          fun _ => ⟨rfl, rfl⟩⟩
        obtain rfl : t.faults = v := Option.some.inj hv
        exact ⟨rfl, rfl⟩

end Sys2Proof.Machine


/-! PROOFS. RETIRE_RECORD_STEP and RECORD_WORD_END: the words of the head's record and its descriptor step (R143, R144,
R145, R97). -/

namespace Sys2Proof.Machine

/-! ### The record step (R143) -/

section
variable {s : State} {c : Completion} {rest : List Completion} (hqueue : s.retire.queue = c :: rest)
include hqueue

theorem State.beginRecord_of_ready (hstep : s.retire.step = .stores) (hfilled : c.filled = true)
    (hstores : c.storesPending = false) : s.beginRecord = s.presentRecord .word1 (c.record + 4) c.fields.word1 := by
  simp only [State.beginRecord, hqueue]
  exact if_pos ⟨hstep, hfilled, hstores⟩

theorem State.beginRecord_of_waits (hwaits : s.retire.step ≠ .stores ∨ c.filled = false ∨ c.storesPending = true) :
    s.beginRecord = s := by
  simp only [State.beginRecord, hqueue]
  refine if_neg fun ⟨hstep, hfilled, hstores⟩ => ?_
  obtain h | h | h := hwaits
  · exact h hstep
  · exact Bool.false_ne_true (h.symm.trans hfilled)
  · exact Bool.false_ne_true (hstores.symm.trans h)

end

/-! ### The end of a record word (R143) -/

/-- What the end of a record word may add to a completion entry (R143). -/
theorem Completion.recordWordEnds_adds (c : Completion) (result : WriteEnd) :
    (c.recordWordEnds result).events = c.events ++
        (if result = .busError ∧ c.errorEnable = true ∧ c.recordFault = false then [c.errorEvent .recordFault] else []) ∧
      c.recordWordEnds result = { c with
        events := (c.recordWordEnds result).events, recordFault := (c.recordWordEnds result).recordFault } ∧
      ((c.recordWordEnds result).recordFault = true ↔ c.recordFault = true ∨ (result = .busError ∧ c.errorEnable = true)) := by
  unfold Completion.recordWordEnds
  split
  next h => exact ⟨rfl, rfl, fun _ => .inr ⟨h.1, h.2.1⟩, fun _ => rfl⟩
  next h =>
    refine ⟨(List.append_nil _).symm, rfl, .inl, fun hfault => hfault.elim id fun ⟨hresult, henable⟩ => ?_⟩
    by_contra hrecord
    exact h ⟨hresult, henable, Bool.not_eq_true _ ▸ hrecord⟩

theorem Completion.recordWordEnds_of_completion (c : Completion) : c.recordWordEnds .completion = c := if_neg nofun

theorem Completion.recordWordEnds_keeps (c : Completion) (result : WriteEnd) :
    (c.recordWordEnds result).record = c.record ∧ (c.recordWordEnds result).fields = c.fields ∧
      (c.recordWordEnds result).storeFault = c.storeFault ∧ (c.recordWordEnds result).channel = c.channel ∧
      (c.recordWordEnds result).descriptorWrite = c.descriptorWrite := by
  rw [(c.recordWordEnds_adds result).2.1]
  exact ⟨rfl, rfl, rfl, rfl, rfl⟩

/-- The state a record word's burst leaves, before the retire unit goes on. -/
def State.recordLanded (s : State) (b : Burst) (result : WriteEnd) (queue : List Completion) : State :=
  { s.landed.burstWrites b result with retire := { s.retire with queue := queue } }

theorem State.recordLanded_frame (s : State) (b : Burst) (result : WriteEnd) (queue : List Completion) :
    (s.recordLanded b result queue).host = s.host ∧ (s.recordLanded b result queue).engine = s.engine ∧
      (s.recordLanded b result queue).cache = s.cache ∧ (s.recordLanded b result queue).status = s.status ∧
      (s.recordLanded b result queue).writer = s.writer ∧
      (s.recordLanded b result queue).port = { s.port with inFlight := none } := by
  obtain ⟨-, hhost, -, -, hengine, hcache, hstatus, -, hport, -, hwriter, -⟩ := s.landed.burstWrites_frame b result
  exact ⟨hhost, hengine, hcache, hstatus, hwriter, hport⟩

theorem State.exec_recordWordEnd_eq {s : State} {b : Burst} (hreset : s.resetAsserted = false)
    (hflight : s.port.inFlight = some b) (hkind : b.kind = .recordWord) (result : WriteEnd) :
    exec (.recordWordEnd result) s = .next (s.recordWordEnds b result) := by
  refine (exec_of_live (f := fun t => t.endRecordWord result) hreset rfl).trans (congrArg _ ?_)
  simp only [State.endRecordWord, hflight, hkind, if_true]

section
variable {s : State} {c : Completion} {rest : List Completion} (hqueue : s.retire.queue = c :: rest)
include hqueue

/-- After word 1 of the record its word 0 is presented (R143). -/
theorem State.recordWordEnds_of_word1 (hstep : s.retire.step = .word1) (b : Burst) (result : WriteEnd) :
    s.recordWordEnds b result = (s.recordLanded b result (c.recordWordEnds result :: rest)).presentRecord .word0 c.record
      (c.fields.word0 c.storeFault) := by
  obtain ⟨-, -, -, -, -, -, -, -, -, hretire, -⟩ := s.landed.burstWrites_frame b result
  obtain ⟨hrecord, hfields, hfault, -⟩ := c.recordWordEnds_keeps result
  simp only [State.recordWordEnds, hqueue, hstep, if_true, hretire, hrecord, hfields, hfault]
  rfl

/-- After another word of it the head takes its descriptor step (R144). -/
theorem State.recordWordEnds_of_other (hstep : s.retire.step ≠ .word1) (b : Burst) (result : WriteEnd) :
    s.recordWordEnds b result = (s.recordLanded b result (c.recordWordEnds result :: rest)).descriptorStep := by
  obtain ⟨-, -, -, -, -, -, -, -, -, hretire, -⟩ := s.landed.burstWrites_frame b result
  simp only [State.recordWordEnds, hqueue, hretire]
  exact if_neg hstep

end

/-! ### The descriptor step (R144, R145) -/

section
variable {s : State} {c : Completion} {rest : List Completion} (hqueue : s.retire.queue = c :: rest)
include hqueue

theorem State.descriptorStep_of_write (hwrite : c.descriptorWrite = true) :
    s.descriptorStep = s.askDescriptorWrite c.channel := by
  simp only [State.descriptorStep, hqueue]
  exact if_pos hwrite

/-- A head that has nothing to write in the channel table is released. -/
theorem State.descriptorStep_of_done (hdone : c.descriptorWrite = false ∨ s.cache.Absent c.channel) :
    s.descriptorStep = s.releaseHead := by
  cases hwrite : c.descriptorWrite with
  | false =>
    simp only [State.descriptorStep, hqueue]
    exact if_neg (by rw [hwrite]; exact Bool.false_ne_true)
  | true =>
    have habsent := hdone.resolve_left (by rw [hwrite]; exact Bool.noConfusion)
    rw [State.descriptorStep_of_write hqueue hwrite]
    exact State.askDescriptorWrite_of_none (by rw [Cache.found, Cache.find_none.mpr habsent]; rfl)

end

/-- The descriptor step leaves the burst in flight (R144). -/
theorem State.descriptorStep_inFlight (s : State) : s.descriptorStep.port.inFlight = s.port.inFlight := by
  unfold State.descriptorStep
  split
  next c _ _ =>
    split
    · exact (s.askDescriptorWrite_entry c.channel 0).2.2.2.2
    · obtain ⟨-, -, -, -, -, -, -, -, hport, -⟩ := s.releaseHead_frame
      rw [hport]
  next => rfl

/-- A change of an entry is what it makes of that entry. -/
theorem Cache.modify_eq_modify {c : Cache} {e : EntryIx} {f g : Entry → Entry} (h : f (c.entry e) = g (c.entry e)) :
    c.modify e f = c.modify e g :=
  congrArg (fun x => ({ c with entries := c.entries.set e.val x e.isLt } : Cache)) h

/-- Settles O44: the two words of the record, and the release of a head that needs no descriptor write. -/
theorem recordWordsWritten : Obligations.RecordWordsWritten := by
  unfold Obligations.RecordWordsWritten
  intro s c rest hreset hqueue
  have hbegin : exec .retireRecordStep s = .next s.beginRecord := exec_of_live hreset rfl
  refine ⟨fun hstep hfilled hstores => ?_, fun hwaits => ?_, fun b hflight hkind result => ?_⟩
  · rw [State.beginRecord_of_ready hqueue hstep hfilled hstores] at hbegin
    exact hbegin
  · rw [State.beginRecord_of_waits hqueue hwaits] at hbegin
    exact hbegin
  have hexec := State.exec_recordWordEnd_eq hreset hflight hkind result
  obtain ⟨hevents, hrest, hfault⟩ := c.recordWordEnds_adds result
  obtain ⟨-, -, -, hchannel, hwrite⟩ := c.recordWordEnds_keeps result
  obtain ⟨-, hengine, hcache, hstatus, hwriter, hport⟩ := s.recordLanded_frame b result (c.recordWordEnds result :: rest)
  have hmem (hresult : result = .completion) : (s.recordLanded b result (c.recordWordEnds result :: rest)).mem =
      Memory.writeWords s.mem b.addr b.data := by
    subst hresult
    exact s.landed.burstWrites_mem b .completion
  have hmisses (a : Addr) (ha : b.Misses a) : Memory.readByte (s.recordLanded b result
      (c.recordWordEnds result :: rest)).mem a = Memory.readByte s.mem a := s.landed.burstWrites_misses b result ha
  have hretire : (s.recordLanded b result (c.recordWordEnds result :: rest)).retire =
      ⟨c.recordWordEnds result :: rest, s.retire.step⟩ := rfl
  have hword1 := State.recordWordEnds_of_word1 hqueue (b := b) (result := result)
  have hother := State.recordWordEnds_of_other hqueue (b := b) (result := result)
  generalize c.recordWordEnds result = c1 at *
  generalize s.recordLanded b result (c1 :: rest) = w at *
  by_cases hstep : s.retire.step = .word1
  · rw [hword1 hstep] at hexec
    refine ⟨_, c1, hexec, congrArg Port.inFlight hport, hstatus, hengine, hmem, hmisses, hevents, hrest, hfault,
      fun _ => ⟨by rw [State.presentRecord, hretire], hcache, hwriter, rfl⟩, fun h => ?_⟩
    rw [hstep] at h
    exact nomatch h
  · rw [hother hstep] at hexec
    obtain ⟨-, -, -, -, hengine', hstatus', -, hmem', -⟩ := w.descriptorStep_frame
    refine ⟨_, c1, hexec, w.descriptorStep_inFlight.trans (congrArg Port.inFlight hport), hstatus'.trans hstatus,
      hengine'.trans hengine, fun h => hmem'.trans (hmem h), fun a ha => by rw [hmem']; exact hmisses a ha, hevents, hrest,
      hfault, fun h => absurd h hstep, fun _ hdone => ?_⟩
    rw [State.descriptorStep_of_done (c := c1) (rest := rest) (by rw [hretire]) (by rwa [hwrite, hchannel, hcache]),
      State.releaseHead_of_cons (c := c1) (rest := rest) (by rw [hretire])]
    exact ⟨rfl, congrArg (·.takeAll c1.events) hwriter, hcache⟩

/-- Settles O45: the descriptor step by the state of the channel's entry. -/
theorem descriptorWriteAnswered : Obligations.DescriptorWriteAnswered := by
  unfold Obligations.DescriptorWriteAnswered
  intro s b c rest e hreset hflight hkind hhead hwrite hfind
  have hqueue : s.retire.queue = c :: rest := congrArg Retire.queue hhead
  have hstep : s.retire.step = .word0 := congrArg Retire.step hhead
  have hexec := State.exec_recordWordEnd_eq hreset hflight hkind .completion
  rw [State.recordWordEnds_of_other hqueue (by rw [hstep]; exact nofun), c.recordWordEnds_of_completion,
    State.descriptorStep_of_write (c := c) (rest := rest) rfl hwrite] at hexec
  obtain ⟨hhost, -, hcache, -, hwriter, -⟩ := s.recordLanded_frame b .completion (c :: rest)
  have hmem : (s.recordLanded b .completion (c :: rest)).mem = Memory.writeWords s.mem b.addr b.data :=
    s.landed.burstWrites_mem b .completion
  have hretire : (s.recordLanded b .completion (c :: rest)).retire = ⟨c :: rest, .word0⟩ := congrArg (Retire.mk _) hstep
  generalize s.recordLanded b .completion (c :: rest) = w at *
  have hfound : w.cache.found c.channel = some (e, (s.cache.entry e).state) := by rw [hcache, Cache.found, hfind]; rfl
  have hcontext : w.context e = s.context e := by rw [State.context, hcache]; rfl
  obtain ⟨-, -, -, -, -, -, -, hmem', -⟩ := w.askDescriptorWrite_frame c.channel
  refine ⟨_, hexec, hmem'.trans hmem, fun hdirty => ?_, fun hbusy => ?_, fun hclean => ?_⟩
  · rw [hdirty] at hfound
    rw [State.askDescriptorWrite_of_dirty hfound, (Cache.find_some hfind).1]
    refine ⟨?_, congrArg (Retire.mk · .descriptorWrite) (congrArg Retire.queue hretire), hwriter, ?_⟩
    · refine Cache.modify_eq_modify (g := fun x => { x with state := .writing, snapshot := s.context e }) ?_ |>.trans ?_
      · rw [← hcontext]
        rfl
      · exact congrArg (fun d : Cache => d.modify e _) hcache
    · simp only [State.writeOf, hhost, hcontext]
      rfl
  · rw [State.askDescriptorWrite_of_flight hfound hbusy]
    exact ⟨congrArg (Retire.mk · .descriptorWait) (congrArg Retire.queue hretire), hcache, hwriter⟩
  · rw [State.askDescriptorWrite_of_settled hfound (.inl hclean),
      State.releaseHead_of_cons (c := c) (rest := rest) (by rw [hretire])]
    exact ⟨rfl, hcache, congrArg (·.takeAll c.events) hwriter⟩

end Sys2Proof.Machine


/-! PROOFS. The event writer: an event taken, the look at the head of the queue, and the end of an entry write (R147 to
R153, R156). -/

namespace Sys2Proof.Machine

/-! ### The look at the head of the queue (R149, R151, R156) -/

theorem saturate_toNat (x : Half) (n : Nat) : (saturate x n).toNat = min 65535 (x.toNat + n) := by
  simp only [saturate, BitVec.toNat_ofNat]
  omega

/-- The full ring of R148. -/
theorem Writer.full_iff (w : Writer) : w.full = true ↔ (w.producer.toNat % 2 ^ w.eqSize.toNat + 2 ^ w.eqSize.toNat -
    w.consumer.toNat % 2 ^ w.eqSize.toNat) % 2 ^ w.eqSize.toNat = 2 ^ w.eqSize.toNat - 1 :=
  decide_eq_true_iff

theorem State.beginFullPeriod_eq (s : State) : s.beginFullPeriod = { s with
    writer := { s.writer with fullPeriod := true }
    host := { s.host with
      intPending := if s.writer.fullPeriod then s.host.intPending else s.host.intPending ||| 0x2#4 } } := by
  unfold State.beginFullPeriod
  split
  next h => rw [← h]
  next => rfl

/-- What STOP's step drops at a full ring is counted (R156). -/
theorem State.dropPending_eq (s : State) : s.dropPending = { s with
    writer := { s.writer with
      queue := [], dropped := saturate s.writer.dropped s.writer.queue.length, fullPeriod := false }
    host := { s.host with
      intPending := if s.writer.fullPeriod then s.host.intPending else s.host.intPending ||| 0x2#4 } } := by
  rw [State.dropPending, State.beginFullPeriod_eq]

theorem State.writerLook_of_quiet {s : State}
    (h : s.writer.queue = [] ∨ s.writer.active = false ∨ s.writer.writing ≠ none) : s.writerLook = s := by
  unfold State.writerLook
  split
  next => rfl
  next hqueue => exact if_pos (h.resolve_left (by rw [hqueue]; exact nofun))

section
variable {s : State} {ev : Event} {rest : List Event} (hqueue : s.writer.queue = ev :: rest)
  (hactive : s.writer.active = true) (hwriting : s.writer.writing = none)
include hqueue hactive hwriting

theorem State.writerLook_of_pending : s.writerLook =
    if s.writer.full = false then s.presentEntry ev else if s.cmd.work.stopsEvents then s.dropPending
      else s.beginFullPeriod := by
  simp only [State.writerLook, hqueue]
  exact if_neg (by rw [hactive, hwriting]; exact nofun)

theorem State.writerLook_of_room (hfull : s.writer.full = false) : s.writerLook = s.presentEntry ev :=
  (State.writerLook_of_pending hqueue hactive hwriting).trans (if_pos hfull)

theorem State.writerLook_of_full (hfull : s.writer.full = true) :
    s.writerLook = if s.cmd.work.stopsEvents then s.dropPending else s.beginFullPeriod :=
  (State.writerLook_of_pending hqueue hactive hwriting).trans (if_neg (by rw [hfull]; exact nofun))

end

/-- What the look leaves of the writer, and the interrupt bits it may set (R149, R151). -/
theorem State.writerLook_keeps (s : State) : s.writerLook.writer.active = s.writer.active ∧
    s.writerLook.writer.producer = s.writer.producer ∧ s.writerLook.writer.consumer = s.writer.consumer ∧
    s.writerLook.writer.serial = s.writer.serial ∧
    (s.host.intPending.getLsbD 0 = true → s.writerLook.host.intPending.getLsbD 0 = true) := by
  have hbits (c : Bool) (h : s.host.intPending.getLsbD 0 = true) :
      (if c then s.host.intPending else s.host.intPending ||| 0x2#4).getLsbD 0 = true := by
    split
    · exact h
    · rw [BitVec.getLsbD_or, h, Bool.true_or]
  obtain h | ⟨-, -, -, ⟨ev, rest, -, -, h⟩ | ⟨-, -, h⟩ | ⟨-, -, h⟩⟩ := s.writerLook_cases
  · rw [h]
    exact ⟨rfl, rfl, rfl, rfl, id⟩
  · rw [h]
    exact ⟨rfl, rfl, rfl, rfl, id⟩
  · rw [h, State.dropPending_eq]
    exact ⟨rfl, rfl, rfl, rfl, hbits s.writer.fullPeriod⟩
  · rw [h, State.beginFullPeriod_eq]
    exact ⟨rfl, rfl, rfl, rfl, hbits s.writer.fullPeriod⟩

/-- Only STOP's step drops what is pending (R156). -/
theorem State.writerLook_drops_not {s : State} (h : s.cmd.work.stopsEvents = false ∨ s.writer.active = false ∨
    s.writer.queue = [] ∨ s.writer.full = false) : s.writerLook.writer.queue = s.writer.queue ∧
    s.writerLook.writer.dropped = s.writer.dropped := by
  obtain hlook | ⟨hqueue, hactive, -, ⟨ev, rest, -, -, hlook⟩ | ⟨hfull, hstops, -⟩ | ⟨-, -, hlook⟩⟩ := s.writerLook_cases
  · rw [hlook]
    exact ⟨rfl, rfl⟩
  · rw [hlook]
    exact ⟨rfl, rfl⟩
  · rw [hactive, hfull, hstops] at h
    exact absurd h (by simp [hqueue])
  · rw [hlook, State.beginFullPeriod_eq]
    exact ⟨rfl, rfl⟩

/-- Settles O46: taking an event, and the writer's look. -/
theorem eventTakenAndPresented : Obligations.EventTakenAndPresented := by
  unfold Obligations.EventTakenAndPresented
  refine ⟨fun w ev => ⟨fun hactive hroom => ?_, fun hfull => ?_⟩, fun s hqueue => ?_, fun s ev rest hreset hqueue => ?_⟩
  · exact if_pos ⟨hactive, hroom⟩
  · refine ⟨saturate w.dropped 1, saturate_toNat _ 1, if_neg fun ⟨hactive, hroom⟩ => ?_⟩
    obtain h | h := hfull
    · exact Bool.false_ne_true (h.symm.trans hactive)
    · exact absurd hroom (Nat.not_lt.mpr h)
  · cases hreset : s.resetAsserted with
    | false =>
      exact (exec_of_live (f := State.writerLook) hreset rfl).trans
        (congrArg _ (State.writerLook_of_quiet (.inl hqueue)))
    | true =>
      exact congrArg Host.Outcome.next (if_pos hreset)
  intro P C full entry
  have hexec : exec .eventEntryWrite s = .next s.writerLook := exec_of_live hreset rfl
  refine ⟨fun hquiet => hexec.trans (congrArg _ (State.writerLook_of_quiet (.inr hquiet))), fun hactive hwriting =>
    ⟨fun hroom => ?_, fun hfull hstops => ?_, fun hfull hstops => ?_⟩⟩
  · have hroom' : s.writer.full = false := Bool.not_eq_true _ ▸ fun h => hroom (s.writer.full_iff.mp h)
    rw [State.writerLook_of_room hqueue hactive hwriting hroom'] at hexec
    refine hexec.trans (congrArg _ ?_)
    unfold State.presentEntry Writer.forms
    by_cases hdropped : s.writer.dropped = 0
    · simp only [hdropped, entry, if_true, ne_eq, not_true_eq_false, if_false]
      rfl
    · simp only [hdropped, entry, if_false, ne_eq, not_false_eq_true, if_true]
      rfl
  · rw [State.writerLook_of_full hqueue hactive hwriting (s.writer.full_iff.mpr hfull), hstops,
      if_neg Bool.false_ne_true, State.beginFullPeriod_eq] at hexec
    exact hexec
  · rw [State.writerLook_of_full hqueue hactive hwriting (s.writer.full_iff.mpr hfull), hstops, if_pos rfl,
      State.dropPending_eq] at hexec
    exact ⟨_, hexec, rfl, saturate_toNat _ _⟩

/-! ### The end of an entry write (R150, R152, R153) -/

/-- The state an entry write that completed leaves, before the writer looks again (R150, R152). -/
def State.entryLanded (s : State) (b : Burst) : State :=
  { s with
    mem := Memory.writeWords s.mem b.addr b.data
    port := { s.port with inFlight := none }
    host := { s.host with intPending := s.host.intPending ||| 0x1#4 }
    writer := s.writer.entryWritten }

theorem State.exec_eventEntryWriteEnd_eq {s : State} {b : Burst} (hreset : s.resetAsserted = false)
    (hflight : s.port.inFlight = some b) (hkind : b.kind = .event) (result : WriteEnd) :
    exec (.eventEntryWriteEnd result) s = .next (s.entryEnds b result) := by
  refine (exec_of_live (f := fun t => t.endEntry result) hreset rfl).trans (congrArg _ ?_)
  simp only [State.endEntry, hflight, hkind, if_true]

theorem State.entryEnds_completion (s : State) (b : Burst) :
    s.entryEnds b .completion = (s.entryLanded b).writerLook := rfl

/-- Settles O47: an entry write that completes, and one that halts the writer. -/
theorem eventEntryEnds : Obligations.EventEntryEnds := by
  unfold Obligations.EventEntryEnds
  intro s b x hreset hflight hkind hwriting
  have hexec := State.exec_eventEntryWriteEnd_eq hreset hflight hkind
  refine ⟨?_, ?_⟩
  · have hlook : exec .eventEntryWrite (s.entryLanded b) = .next (s.entryLanded b).writerLook := exec_of_live hreset rfl
    obtain ⟨hactive, hproducer, hconsumer, hserial, hbit⟩ := (s.entryLanded b).writerLook_keeps
    obtain ⟨-, -, -, -, hcache, hstatus, -, hretire, hmem, -⟩ := (s.entryLanded b).writerLook_frame
    refine ⟨_, s.entryLanded b, hexec .completion, hlook, rfl, fun hx => ?_, fun n hx => ?_, ?_, hmem, hproducer, hserial,
      hbit ?_, ⟨fun hkeeps => ?_, fun hstops hactive' hqueue hfull => ?_⟩, hactive, hconsumer, hcache, hstatus, hretire⟩
    · rw [hx] at hwriting
      simp only [State.entryLanded, Writer.entryWritten, hwriting]
      exact ⟨trivial, trivial⟩
    · rw [hx] at hwriting
      simp only [State.entryLanded, Writer.entryWritten, hwriting]
      exact ⟨trivial, trivial⟩
    · exact BitVec.toNat_ofNat _ _
    · exact (BitVec.getLsbD_or ..).trans (Bool.or_true _)
    · refine State.writerLook_drops_not (hkeeps.imp_right (Or.imp_right (Or.imp_right fun hroom => ?_)))
      exact Bool.not_eq_true _ ▸ fun h => hroom ((s.entryLanded b).writer.full_iff.mp h)
    · have hdrop : (s.entryLanded b).writerLook = (s.entryLanded b).dropPending := by
        obtain ⟨ev, rest, hcons⟩ := List.exists_cons_of_ne_nil hqueue
        rw [State.writerLook_of_full hcons hactive' rfl ((s.entryLanded b).writer.full_iff.mpr hfull)]
        exact if_pos hstops
      rw [State.entryEnds_completion, hdrop, State.dropPending_eq]
      exact ⟨rfl, saturate_toNat _ _⟩
  · obtain ⟨-, hhost, -, -, -, hcache, hstatus, -, -, hretire, hwriter, -⟩ := s.landed.burstWrites_frame b .busError
    refine ⟨_, hexec .busError, ?_, ?_, ?_, fun a ha => s.landed.burstWrites_misses b .busError ha, hcache, hstatus, hretire⟩
    · exact congrArg Writer.halt hwriter
    · exact (congrArg (fun w : Writer => w.halt.dropped.toNat) hwriter).trans (saturate_toNat _ _)
    · exact congrArg (fun h : HostIf => ({ h with intPending := h.intPending ||| 0x8#4 } : HostIf)) hhost

end Sys2Proof.Machine


/-! PROOFS. HOLD_END: what HOLD waits for, the castout it asks for and its end (R111, R112, R113). -/

namespace Sys2Proof.Machine

/-! ### A castout begins (R102, R103, R104) -/

/-- An invalidation castout begins with a snapshot of the context, at the descriptor of the entry's channel (R104). -/
theorem State.beginInvalidation_begins {s : State} {e : EntryIx} {n : Channel} (htag : (s.cache.entry e).tag = n) :
    (s.beginInvalidation e).cache.entry e =
        { s.cache.entry e with state := .evicting, snapshot := s.context e, next := none } ∧
      (∀ g, g ≠ e → (s.beginInvalidation e).cache.entry g = s.cache.entry g) ∧
      (s.CachePortFree → (s.beginInvalidation e).port =
        { s.port with cache := some (s.writeOf (.cache (.invalidation e)) n (s.context e)) }) := by
  have hentry (g : EntryIx) : (s.beginInvalidation e).cache.entry g = (s.cache.beginEvict e none).entry g :=
    State.cacheDue_entry ..
  refine ⟨?_, fun g hg => ?_, fun hfree => ?_⟩
  · rw [hentry, Cache.entry_beginEvict, if_pos rfl]
    rfl
  · rw [hentry, Cache.entry_beginEvict, if_neg hg]
  · have hpresents := State.cacheDue_presents { s with cache := s.cache.beginEvict e none } (.invalidation e)
    refine (hpresents.1 hfree).2.trans ?_
    simp only [State.cacheBurst, State.descriptorBurst, CacheBurst.entry, Cache.entry_beginEvict, if_pos, htag]
    rfl

/-- A FLUSH castout begins with a snapshot of the context, at the descriptor of the entry's channel (R102). -/
theorem State.beginFlushCastout_begins {s : State} {e : EntryIx} {n : Channel} (htag : (s.cache.entry e).tag = n) :
    (s.beginFlushCastout e).cache.entry e = { s.cache.entry e with state := .writing, snapshot := s.context e } ∧
      (s.CachePortFree → (s.beginFlushCastout e).port =
        { s.port with cache := some (s.writeOf (.cache (.flushCastout e)) n (s.context e)) }) := by
  have hentry (g : EntryIx) : (s.beginFlushCastout e).cache.entry g = (s.cache.beginWrite e).entry g :=
    State.cacheDue_entry ..
  refine ⟨?_, fun hfree => ?_⟩
  · rw [hentry, Cache.entry_beginWrite, if_pos rfl]
    rfl
  · have hpresents := State.cacheDue_presents { s with cache := s.cache.beginWrite e } (.flushCastout e)
    refine (hpresents.1 hfree).2.trans ?_
    simp only [State.cacheBurst, State.descriptorBurst, CacheBurst.entry, Cache.entry_beginWrite, if_pos, htag]
    rfl

/-! ### HOLD's step (R111, R112) -/

theorem State.channelIdle_iff (s : State) (n : Channel) : s.channelIdle n = true ↔
    (∀ r, s.engine = some r → r.channel ≠ n ∨ r.byHold = true) ∧ (∀ c ∈ s.retire.queue, c.channel ≠ n) ∧
      s.cache.fillPending n = false := by
  have hserves : s.holdWaitsFor n = false ↔ ∀ r, s.engine = some r → r.channel ≠ n ∨ r.byHold = true := by
    rw [← Bool.not_eq_true, State.holdWaitsFor_iff]
    push Not
    simp only [imp_iff_not_or, Bool.not_eq_false, ne_eq]
  have hnames : s.retire.names n = false ↔ ∀ c ∈ s.retire.queue, c.channel ≠ n := by
    rw [← Bool.not_eq_true, Retire.names_iff]
    push Not
    rfl
  simp only [State.channelIdle, Bool.and_eq_true, Bool.not_eq_true', hserves, hnames, and_assoc]

/-- The record of a channel whose HOLD ends (R112). -/
def ChannelRecord.holdEnds (x : ChannelRecord) : ChannelRecord :=
  if x.reason = .none then { x with hold := .held, subCode := 0, returned := false, seqValid := false }
  else { x with hold := .faulted, returned := false, seqValid := false }

/-- A change of a channel's record is what it makes of that record. -/
theorem State.setRecord_eq_setRecord {s : State} {n : Channel} {f g : ChannelRecord → ChannelRecord}
    (h : f (s.record n) = g (s.record n)) : s.setRecord n f = s.setRecord n g :=
  congrArg (fun x => ({ s with status := s.status.set n.val x n.isLt } : State)) h

theorem State.finishHold_eq (s : State) (n : Channel) : s.finishHold n =
    (s.setRecord n ChannelRecord.holdEnds).endCommand (if (s.record n).reason = .none then .done else .fault) := by
  unfold State.finishHold
  split
  next hnone =>
    refine congrArg (State.endCommand · .done) (State.setRecord_eq_setRecord ?_)
    rw [ChannelRecord.holdEnds, if_pos hnone, ChannelRecord.becomeHeld]
    exact congrArg (fun reason => ({ s.record n with
      hold := .held, reason := reason, subCode := 0, returned := false, seqValid := false } : ChannelRecord)) hnone.symm
  next hsome =>
    refine congrArg (State.endCommand · .fault) (State.setRecord_eq_setRecord ?_)
    rw [ChannelRecord.holdEnds, if_neg hsome]

section
variable {s : State} {n : Channel}

theorem State.actHold_of_busy (h : s.channelIdle n = false) : s.actHold n = s := if_pos h

theorem State.actHold_of_absent (hidle : s.channelIdle n = true) (h : s.cache.Absent n) : s.actHold n = s.finishHold n := by
  unfold State.actHold
  rw [if_neg (by rw [hidle]; exact Bool.noConfusion), Cache.find_none.mpr h]

section
variable {e : EntryIx} (h : s.cache.find n = some e)
include h

/-- A DIRTY entry leaves by an invalidation castout (R112). -/
theorem State.actHold_of_dirty (hidle : s.channelIdle n = true) (hdirty : (s.cache.entry e).state = .dirty) :
    s.actHold n = s.beginInvalidation e := by
  unfold State.actHold
  rw [if_neg (by rw [hidle]; exact Bool.noConfusion), h]
  simp only [hdirty]

/-- A CLEAN entry becomes INVALID as the HOLD ends (R112). -/
theorem State.actHold_of_clean (hidle : s.channelIdle n = true) (hclean : (s.cache.entry e).state = .clean) :
    s.actHold n = State.finishHold { s with cache := s.cache.invalidate e } n := by
  unfold State.actHold
  rw [if_neg (by rw [hidle]; exact Bool.noConfusion), h]
  simp only [hclean]

/-- A burst of the channel's entry is waited for (R111). -/
theorem State.actHold_of_flight (hstate : (s.cache.entry e).state = .filling ∨ (s.cache.entry e).state = .writing ∨
    (s.cache.entry e).state = .writingDirty ∨ (s.cache.entry e).state = .evicting) : s.actHold n = s := by
  unfold State.actHold
  split
  · rfl
  · rw [h]
    obtain hx | hx | hx | hx := hstate
    all_goals simp only [hx]

end

end

/-- Settles O48: HOLD waits until its channel is idle, casts its entry out and ends. -/
theorem holdEndsOnceIdle : Obligations.HoldEndsOnceIdle := by
  unfold Obligations.HoldEndsOnceIdle
  intro s n hreset hwork ended finished
  have hexec : exec .holdEnd s = .next (s.actHold n) :=
    (exec_of_live (f := State.holdStep) hreset rfl).trans (congrArg _ (by simp only [State.holdStep, hwork]))
  have hfinished (cache : Cache) : State.finishHold { s with cache := cache } n = finished cache :=
    State.finishHold_eq { s with cache := cache } n
  refine ⟨fun hwaits => hexec.trans (congrArg _ ?_), fun hengine hqueue hfills => ?_⟩
  · have hbusy (h : ¬ s.channelIdle n = true) : s.actHold n = s := State.actHold_of_busy (Bool.not_eq_true _ ▸ h)
    rw [State.channelIdle_iff] at hbusy
    obtain ⟨r, hr, hchannel, hbefore⟩ | ⟨c, hc, hchannel⟩ | hpending | ⟨e, hfind, hstate⟩ := hwaits
    · refine hbusy fun ⟨hidle, _, _⟩ => (hidle r hr).elim (absurd hchannel) fun h => ?_
      exact Bool.false_ne_true (hbefore.symm.trans h)
    · exact hbusy fun ⟨_, hidle, _⟩ => hidle c hc hchannel
    · exact hbusy fun ⟨_, _, hidle⟩ => Bool.false_ne_true (hidle.symm.trans hpending)
    · exact State.actHold_of_flight hfind hstate
  · have hidle : s.channelIdle n = true := (s.channelIdle_iff n).mpr ⟨hengine, hqueue, hfills⟩
    refine ⟨fun habsent => ?_, fun e hfind => ⟨fun hclean => ?_, fun hdirty => ?_⟩⟩
    · rw [State.actHold_of_absent hidle habsent] at hexec
      exact hexec.trans (congrArg _ (hfinished s.cache))
    · rw [State.actHold_of_clean hfind hidle hclean] at hexec
      exact hexec.trans (congrArg _ (hfinished _))
    · rw [State.actHold_of_dirty hfind hidle hdirty] at hexec
      obtain ⟨hentry, -, hport⟩ := State.beginInvalidation_begins (Cache.find_some hfind).1
      obtain ⟨-, -, hcmd, -, -, hstatus, -, -, -, hmem, -⟩ := s.beginInvalidation_frame e
      exact ⟨_, hexec, hentry, hport, hcmd, hstatus, hmem⟩

end Sys2Proof.Machine


/-! PROOFS. FLUSH_MEMBER and PURGE_MEMBER on the member at the head (R102, R103). -/

namespace Sys2Proof.Machine

/-- The command ends after its last member, and goes on with its work otherwise (R102, R103). -/
def State.leaves (s : State) (f : Bool) (last : Prop) [Decidable last] (w : Work) : State :=
  if last then s.endCommand (resultOf f) else s.setWork w

/-! ### FLUSH's member, and that of PURGE's first set (R102) -/

/-- How the command that carries out `work` stores what is left of a job: it ends with `last`. -/
structure State.Carries (s : State) (work : CastJob → Work) (f : Bool) (last : Prop) [Decidable last]
    (rest : List (EntryIx × Channel)) (put : State → CastJob → State) : Prop where
  step : ∀ j, s.cmd.work = work j → s.flushStep = s.flushJob j put
  goesOn : ∀ t j, j.todo ≠ [] → put t j = t.setWork (work j)
  leaves : ∀ j, j.todo = rest → put s j = s.leaves f last (work j)

theorem State.carries_flush (s : State) {f : Bool} {rest : List (EntryIx × Channel)} {last : Prop} [Decidable last]
    (hlast : last ↔ rest = []) : s.Carries (fun j => .flush j f) f last rest fun t j => t.flushWith j f where
  step j h := by simp only [State.flushStep, h]
  goesOn t j h := if_neg h
  leaves j h := by
    subst h
    exact if_congr hlast.symm rfl rfl

theorem State.carries_purge (s : State) {f : Bool} {rest : List (EntryIx × Channel)} {second : CastJob} {last : Prop}
    [Decidable last] (hlast : last ↔ rest = [] ∧ second.todo = []) :
    s.Carries (fun j => .purge j second f) f last rest fun t j => t.purgeWith j second f where
  step j h := by simp only [State.flushStep, h]
  goesOn t j h := if_neg fun h' => h h'.1
  leaves j h := by
    subst h
    exact if_congr hlast.symm rfl rfl

section
variable {s : State} {work : CastJob → Work} {f : Bool} {last : Prop} [Decidable last]
  {rest all_ : List (EntryIx × Channel)} {put : State → CastJob → State} {e : EntryIx} {n : Channel} {phase : CastPhase}
  (hcarries : s.Carries work f last rest put) (hwork : s.cmd.work = work ⟨all_, (e, n) :: rest, phase⟩)
include hcarries hwork

/-- A member that waits changes nothing (R102). -/
theorem State.flushStep_of_wait (hstep : s.flushStepOf e n phase = .wait) : s.flushStep = s := by
  rw [hcarries.step _ hwork, State.flushJob]
  simp only [hstep]

/-- A member dealt with gives way to the next, or the command ends (R102). -/
theorem State.flushStep_of_done (hstep : s.flushStepOf e n phase = .done) :
    s.flushStep = s.leaves f last (work ⟨all_, rest, .waiting⟩) := by
  rw [hcarries.step _ hwork, State.flushJob]
  simp only [hstep]
  exact hcarries.leaves ⟨all_, rest, .waiting⟩ rfl

/-- A DIRTY member is cast out, and its castout waited for (R102). -/
theorem State.flushStep_of_cast (hstep : s.flushStepOf e n phase = .cast e) :
    s.flushStep = (s.beginFlushCastout e).setWork (work ⟨all_, (e, n) :: rest, .casting⟩) := by
  rw [hcarries.step _ hwork, State.flushJob]
  simp only [hstep]
  exact hcarries.goesOn _ ⟨all_, (e, n) :: rest, .casting⟩ (List.cons_ne_nil _ _)

end

/-! ### The member of PURGE's second set (R103) -/

section
variable {s : State} {f : Bool} {first : CastJob} {rest all_ : List (EntryIx × Channel)} {e : EntryIx} {n : Channel}
  {phase : CastPhase} (hfirst : first.todo = [])
include hfirst

theorem State.purgeWith_leaves (t : State) : t.purgeWith first ⟨all_, rest, .waiting⟩ f =
    t.leaves f (rest = []) (.purge first ⟨all_, rest, .waiting⟩ f) :=
  if_congr (and_iff_right hfirst) rfl rfl

variable (hwork : s.cmd.work = .purge first ⟨all_, (e, n) :: rest, phase⟩ f)
include hwork

theorem State.purgeStep_eq : s.purgeStep = s.purgeJob first ⟨all_, (e, n) :: rest, phase⟩ f := by
  simp only [State.purgeStep, hwork]
  exact if_pos hfirst

theorem State.purgeStep_of_wait (hstep : s.purgeStepOf ⟨all_, (e, n) :: rest, phase⟩ e n = .wait) : s.purgeStep = s := by
  rw [State.purgeStep_eq hfirst hwork, State.purgeJob]
  simp only [hstep]

theorem State.purgeStep_of_done (hstep : s.purgeStepOf ⟨all_, (e, n) :: rest, phase⟩ e n = .done) :
    s.purgeStep = s.leaves f (rest = []) (.purge first ⟨all_, rest, .waiting⟩ f) := by
  rw [State.purgeStep_eq hfirst hwork, State.purgeJob]
  simp only [hstep]
  exact State.purgeWith_leaves hfirst s

theorem State.purgeStep_of_invalidate (hstep : s.purgeStepOf ⟨all_, (e, n) :: rest, phase⟩ e n = .invalidate e) :
    s.purgeStep = State.leaves { s with cache := s.cache.invalidate e } f (rest = [])
      (.purge first ⟨all_, rest, .waiting⟩ f) := by
  rw [State.purgeStep_eq hfirst hwork, State.purgeJob]
  simp only [hstep]
  exact State.purgeWith_leaves hfirst _

theorem State.purgeStep_of_cast (hstep : s.purgeStepOf ⟨all_, (e, n) :: rest, phase⟩ e n = .cast e) :
    s.purgeStep = (s.beginInvalidation e).setWork (.purge first ⟨all_, (e, n) :: rest, .casting⟩ f) := by
  rw [State.purgeStep_eq hfirst hwork, State.purgeJob]
  simp only [hstep]
  exact if_neg fun h => List.cons_ne_nil _ _ h.2

end

theorem State.unserved_of_idle {s : State} {n : Channel} (hserves : ∀ r, s.engine = some r → r.channel ≠ n)
    (hnames : ∀ c ∈ s.retire.queue, c.channel ≠ n) : ¬ (s.serves n = true ∨ s.retire.names n = true) := by
  rw [State.serves_iff, Retire.names_iff]
  rintro (⟨r, hr, hchannel⟩ | ⟨c, hc, hchannel⟩)
  · exact hserves r hr hchannel
  · exact hnames c hc hchannel

section
variable {s : State} {k : CastJob} {e : EntryIx} {n : Channel} (hphase : k.phase = .waiting)
include hphase

/-- PURGE waits while its member's channel is served (R103). -/
theorem State.purgeStepOf_of_served (h : (∃ r, s.engine = some r ∧ r.channel = n) ∨ ∃ c ∈ s.retire.queue, c.channel = n) :
    s.purgeStepOf k e n = .wait := by
  rw [← State.serves_iff, ← Retire.names_iff] at h
  simp only [State.purgeStepOf, hphase]
  exact if_pos h

variable (hserves : ∀ r, s.engine = some r → r.channel ≠ n) (hnames : ∀ c ∈ s.retire.queue, c.channel ≠ n)
include hserves hnames

/-- A pair whose entry has left its tag is passed over (R103; log 15). -/
theorem State.purgeStepOf_of_gone (h : (s.cache.entry e).tag ≠ n ∨ (e, n) ∉ k.members ∨ (s.cache.entry e).state = .invalid) :
    s.purgeStepOf k e n = .done := by
  simp only [State.purgeStepOf, hphase]
  rw [if_neg (State.unserved_of_idle hserves hnames)]
  split
  next => rfl
  next hmember =>
    push Not at hmember
    obtain h | h | h := h
    · exact absurd hmember.1 h
    · exact absurd hmember.2 h
    · simp only [h]

variable (htag : (s.cache.entry e).tag = n) (hmember : (e, n) ∈ k.members)
include htag hmember

theorem State.purgeStepOf_of_clean (h : (s.cache.entry e).state = .clean) : s.purgeStepOf k e n = .invalidate e := by
  simp only [State.purgeStepOf, hphase]
  rw [if_neg (State.unserved_of_idle hserves hnames), if_neg (by simp [htag, hmember])]
  simp only [h]

theorem State.purgeStepOf_of_dirty (h : (s.cache.entry e).state = .dirty) : s.purgeStepOf k e n = .cast e := by
  simp only [State.purgeStepOf, hphase]
  rw [if_neg (State.unserved_of_idle hserves hnames), if_neg (by simp [htag, hmember])]
  simp only [h]

theorem State.purgeStepOf_of_flight (h : (s.cache.entry e).state = .filling ∨ (s.cache.entry e).state = .writing ∨
    (s.cache.entry e).state = .writingDirty ∨ (s.cache.entry e).state = .evicting) : s.purgeStepOf k e n = .wait := by
  simp only [State.purgeStepOf, hphase]
  rw [if_neg (State.unserved_of_idle hserves hnames), if_neg (by simp [htag, hmember])]
  obtain h | h | h | h := h
  all_goals simp only [h]

end

/-! ### The members at the head (R102, R103) -/

section
variable {s : State} {e : EntryIx} {n : Channel}

/-- A write or castout of a member in flight is waited for (R102). -/
theorem State.flushStepOf_of_flight (h : (s.cache.entry e).state = .writing ∨ (s.cache.entry e).state = .writingDirty ∨
    (s.cache.entry e).state = .evicting) : s.flushStepOf e n .waiting = .wait := by
  unfold State.flushStepOf
  obtain h | h | h := h
  all_goals simp only [h]

theorem State.flushStepOf_of_dirty (h : (s.cache.entry e).state = .dirty) (htag : (s.cache.entry e).tag = n) :
    s.flushStepOf e n .waiting = .cast e := by
  simp only [State.flushStepOf, h]
  exact if_pos htag

/-- A member that has nothing to write under its tag is passed over (R102). -/
theorem State.flushStepOf_of_settled (h : (s.cache.entry e).state = .invalid ∨ (s.cache.entry e).state = .clean ∨
    (s.cache.entry e).state = .filling ∨ ((s.cache.entry e).state = .dirty ∧ (s.cache.entry e).tag ≠ n)) :
    s.flushStepOf e n .waiting = .done := by
  unfold State.flushStepOf
  obtain h | h | h | ⟨h, htag⟩ := h
  case inr.inr.inr =>
    simp only [h]
    exact if_neg htag
  all_goals simp only [h]

end

/-- Settles O49: each member waits, is cast out, made INVALID or passed over, and the command ends after the last. -/
theorem membersDealtWith : Obligations.MembersDealtWith := by
  unfold Obligations.MembersDealtWith
  intro s e n rest all_ f hreset x doneWith leave
  have hflush : exec .flushMember s = .next s.flushStep := exec_of_live hreset rfl
  have hpurge : exec .purgeMember s = .next s.purgeStep := exec_of_live hreset rfl
  refine ⟨fun work last _ hcommand => ?_, fun first second hwork htodo => ?_, fun first hfirst => ?_⟩
  · obtain ⟨put, hcarries⟩ : ∃ put, s.Carries work f last rest put := by
      obtain ⟨rfl, hlast⟩ | ⟨second, rfl, hlast⟩ := hcommand
      · exact ⟨_, s.carries_flush hlast⟩
      · exact ⟨_, s.carries_purge hlast⟩
    refine ⟨fun hwork => ⟨fun hstate => ?_, fun hdirty htag => ?_, fun hstate => ?_⟩, fun hwork => ?_, fun hwork => ?_⟩
    · exact hflush.trans (congrArg _ (State.flushStep_of_wait hcarries hwork (State.flushStepOf_of_flight hstate)))
    · rw [State.flushStep_of_cast hcarries hwork (State.flushStepOf_of_dirty hdirty htag)] at hflush
      obtain ⟨hentry, hport⟩ := State.beginFlushCastout_begins htag
      obtain ⟨-, -, hcmd, -, -, hstatus, -, -, -, hmem, -⟩ := s.beginFlushCastout_frame e
      exact ⟨_, hflush, congrArg (fun c : CommandUnit => { c with work := work ⟨all_, (e, n) :: rest, .casting⟩ }) hcmd,
        hentry, hport, hmem, hstatus⟩
    · exact hflush.trans (congrArg _ (State.flushStep_of_done hcarries hwork (State.flushStepOf_of_settled hstate)))
    · exact hflush.trans (congrArg _ (State.flushStep_of_wait hcarries hwork rfl))
    · exact hflush.trans (congrArg _ (State.flushStep_of_done hcarries hwork rfl))
  · refine hpurge.trans (congrArg _ ?_)
    simp only [State.purgeStep, hwork]
    exact if_neg htodo
  · refine ⟨fun hwork => ⟨fun hstate => ?_, fun hserves hnames => ⟨fun hgone => ?_, fun htag hmember hclean => ?_,
      fun htag hmember hdirty => ?_⟩⟩, fun hwork => ?_, fun hwork => ?_⟩
    · refine hpurge.trans (congrArg _ (State.purgeStep_of_wait hfirst hwork ?_))
      by_cases hserved : (∃ r, s.engine = some r ∧ r.channel = n) ∨ ∃ c ∈ s.retire.queue, c.channel = n
      · exact State.purgeStepOf_of_served rfl hserved
      · obtain h | h | ⟨htag, hmember, hflight⟩ := hstate
        · exact absurd (.inl h) hserved
        · exact absurd (.inr h) hserved
        · push Not at hserved
          exact State.purgeStepOf_of_flight rfl hserved.1 hserved.2 htag hmember hflight
    · exact hpurge.trans (congrArg _ (State.purgeStep_of_done hfirst hwork
        (State.purgeStepOf_of_gone rfl hserves hnames hgone)))
    · exact hpurge.trans (congrArg _ (State.purgeStep_of_invalidate hfirst hwork
        (State.purgeStepOf_of_clean rfl hserves hnames htag hmember hclean)))
    · rw [State.purgeStep_of_cast hfirst hwork (State.purgeStepOf_of_dirty rfl hserves hnames htag hmember hdirty)] at hpurge
      obtain ⟨hentry, -, hport⟩ := State.beginInvalidation_begins htag
      obtain ⟨-, -, hcmd, -, -, hstatus, -, -, -, hmem, -⟩ := s.beginInvalidation_frame e
      exact ⟨_, hpurge, congrArg (fun c : CommandUnit => { c with
        work := .purge first ⟨all_, (e, n) :: rest, .casting⟩ f }) hcmd, hentry, hport, hmem, hstatus⟩
    · exact hpurge.trans (congrArg _ (State.purgeStep_of_wait hfirst hwork rfl))
    · exact hpurge.trans (congrArg _ (State.purgeStep_of_done hfirst hwork rfl))

end Sys2Proof.Machine


/-! PROOFS. The steps of STOP (R105, R156, R168, R169) and the laws right after reset. -/

namespace Sys2Proof.Machine

/-! ### STOP's cache step (R105) -/

theorem entryOrder_sorted : entryOrder.Pairwise (· < ·) := by decide

/-- The first DIRTY entry is the DIRTY one below which there is none. -/
theorem Cache.firstDirty_eq {c : Cache} {e : EntryIx} (hdirty : (c.entry e).state = .dirty)
    (hfirst : ∀ g, g < e → (c.entry g).state ≠ .dirty) : c.firstDirty = some e := by
  cases hfound : c.firstDirty with
  | none => exact absurd hdirty (Cache.firstDirty_none hfound e)
  | some g =>
    obtain ⟨-, before, after, horder, hbefore⟩ := List.find?_eq_some_iff_append.mp hfound
    have hsorted := entryOrder_sorted
    have hmem := mem_entryOrder e
    rw [horder] at hsorted hmem
    have hafter := (List.pairwise_cons.mp (List.pairwise_append.mp hsorted).2.1).1
    obtain he | he := List.mem_append.mp hmem
    · exact absurd hdirty (by simpa using hbefore e he)
    · obtain rfl | he := List.mem_cons.mp he
      · rfl
      · exact absurd (Cache.firstDirty_some hfound) (hfirst g (hafter e he))

/-- STOP's sweep changes no context. -/
theorem Cache.foldl_invalidate_context (limit : Nat) (l : List EntryIx) (c : Cache) (g : EntryIx) :
    ((l.foldl (Cache.invalidateIfClean limit) c).entry g).context = (c.entry g).context := by
  induction l generalizing c with
  | nil => rfl
  | cons e l ih =>
    rw [List.foldl_cons, ih]
    unfold Cache.invalidateIfClean
    split
    · rw [Cache.entry_invalidate]
      split
      next hg => rw [hg]
      next => rfl
    · rfl

/-- In a quiet cache an entry that is not DIRTY is CLEAN or INVALID (R105). -/
theorem EntryState.clean_or_invalid {x : EntryState} (hquiet : x.inFlight = false) (hdirty : x ≠ .dirty) :
    x = .clean ∨ x = .invalid := by
  cases x with
  | clean => exact .inl rfl
  | invalid => exact .inr rfl
  | dirty => exact absurd rfl hdirty
  | _ => exact absurd hquiet Bool.noConfusion

section
variable {s : State} {f : Bool} (hwork : s.cmd.work = .stop .cache f)
include hwork

theorem State.stopCache_of_busy (hbusy : s.cacheQuiet = false) : s.stopCache = s := by
  simp only [State.stopCache, hwork]
  exact if_pos hbusy

variable (hquiet : s.cacheQuiet = true)
include hquiet

/-- With no DIRTY entry left the cache step ends (R105). -/
theorem State.stopCache_of_settled (hclean : ∀ e : EntryIx, (s.cache.entry e).state ≠ .dirty) :
    s.stopCache = State.stopAt { s with cache := s.cache.invalidateClean 16 } .events f := by
  have hnone : s.cache.firstDirty = none := by
    cases hfound : s.cache.firstDirty with
    | none => rfl
    | some e => exact absurd (Cache.firstDirty_some hfound) (hclean e)
  simp only [State.stopCache, hwork, hnone]
  exact if_neg (by rw [hquiet]; exact Bool.noConfusion)

/-- The first DIRTY entry is cast out, the CLEAN ones before it INVALID (R105). -/
theorem State.stopCache_of_dirty {e : EntryIx} (hdirty : (s.cache.entry e).state = .dirty)
    (hfirst : ∀ g, g < e → (s.cache.entry g).state ≠ .dirty) :
    s.stopCache = State.beginInvalidation { s with cache := s.cache.invalidateClean e.val } e := by
  simp only [State.stopCache, hwork, Cache.firstDirty_eq hdirty hfirst]
  exact if_neg (by rw [hquiet]; exact Bool.noConfusion)

end

/-- What the cache step leaves of the entries as it casts out the first DIRTY one (R105). -/
theorem State.stopCache_sweeps {s : State} {e : EntryIx} (hquiet : s.cacheQuiet = true)
    (hfirst : ∀ g, g < e → (s.cache.entry g).state ≠ .dirty) :
    let t := State.beginInvalidation { s with cache := s.cache.invalidateClean e.val } e
    (t.cache.entry e).state = .evicting ∧ (t.cache.entry e).snapshot = s.context e ∧
      (∀ g : EntryIx, g < e → (t.cache.entry g).state = .invalid) ∧
      (∀ g : EntryIx, e < g → (t.cache.entry g).state = (s.cache.entry g).state) := by
  intro t
  obtain ⟨hentry, hothers, -⟩ :=
    State.beginInvalidation_begins (s := { s with cache := s.cache.invalidateClean e.val }) (e := e) rfl
  obtain ⟨-, -, -, -, hstates⟩ := (State.cacheQuiet_iff s).mp hquiet
  have hothers' (g : EntryIx) (hg : g ≠ e) : (t.cache.entry g).state = ((s.cache.invalidateClean e.val).entry g).state :=
    congrArg Entry.state (hothers g hg)
  refine ⟨congrArg Entry.state hentry, ?_, fun g hg => ?_, fun g hg => ?_⟩
  · exact (congrArg Entry.snapshot hentry).trans (Cache.foldl_invalidate_context e.val entryOrder s.cache e)
  · exact (hothers' g (ne_of_lt hg)).trans (Cache.foldl_invalidate_clean hg entryOrder _ (.inl (mem_entryOrder g))
      (EntryState.clean_or_invalid (hstates g) (hfirst g hg)))
  · exact (hothers' g (ne_of_gt hg)).trans (Cache.foldl_invalidate_above (le_of_lt hg) entryOrder s.cache)

/-! ### The other steps of STOP (R156, R168, R169) -/

theorem Writer.quiet_iff (w : Writer) : w.quiet = true ↔ w.queue = [] ∧ w.writing = none := by
  simp [Writer.quiet]

theorem Port.quiet_iff (p : Port) : p.quiet = true ↔ p = .reset := by
  obtain ⟨fetch, cache, store, retire, writer, inFlight⟩ := p
  simp [Port.quiet, Port.reset, and_assoc]

theorem State.stopFinish_of_quiet {s : State} {f : Bool} (hwork : s.cmd.work = .stop .halting f)
    (hqueue : s.writer.queue = []) (hwriting : s.writer.writing = none) (hport : s.port = .reset)
    (hrx : s.link.rx.mayHalt = true) :
    s.stopFinish = State.endCommand
      { s with cmd := { s.cmd with node := .halted }, link := { s.link with rx := .idle } } (resultOf f) := by
  simp only [State.stopFinish, hwork]
  exact if_pos (by rw [s.writer.quiet_iff.mpr ⟨hqueue, hwriting⟩, s.port.quiet_iff.mpr hport, hrx]; rfl)

/-- STOP_END waits for the writer, the master port and the reply (R169). -/
theorem State.stopFinish_of_busy {s : State} {f : Bool} (hwork : s.cmd.work = .stop .halting f)
    (hbusy : s.writer.queue ≠ [] ∨ s.writer.writing ≠ none ∨ s.port ≠ .reset ∨ s.link.rx.mayHalt = false) :
    s.stopFinish = s := by
  simp only [State.stopFinish, hwork]
  refine if_neg fun h => ?_
  rw [Bool.and_eq_true, Bool.and_eq_true, Writer.quiet_iff, Port.quiet_iff] at h
  obtain ⟨⟨⟨hqueue, hwriting⟩, hport⟩, hrx⟩ := h
  obtain h | h | h | h := hbusy
  · exact h hqueue
  · exact h hwriting
  · exact h hport
  · exact Bool.false_ne_true (h.symm.trans hrx)

/-- The events step is the writer's look, and ends with nothing pending (R156, R168). -/
theorem State.stopEvents_of_events {s : State} {f : Bool} (hwork : s.cmd.work = .stop .events f) :
    s.stopEvents = if s.writerLook.writer.queue = [] ∧ s.writerLook.writer.writing = none then
      s.writerLook.stopAt .halting f else s.writerLook := by
  simp only [State.stopEvents, hwork, Writer.quiet_iff]

/-- Settles O50: each step of STOP waits for its condition and then goes on. -/
theorem stopStepsReachHalted : Obligations.StopStepsReachHalted := by
  unfold Obligations.StopStepsReachHalted
  intro s f hreset
  have hdrain : exec .stopDrainCompletions s = .next s.stopDrain := exec_of_live hreset rfl
  have hcache : exec .stopCacheStep s = .next s.stopCache := exec_of_live hreset rfl
  have hevents : exec .stopEventStep s = .next s.stopEvents := exec_of_live hreset rfl
  have hlook : exec .eventEntryWrite s = .next s.writerLook := exec_of_live hreset rfl
  have hend : exec .stopEnd s = .next s.stopFinish := exec_of_live hreset rfl
  refine ⟨fun hwork => ⟨fun hengine => ?_, fun hengine => ?_⟩, fun hwork => ⟨fun hqueue => ?_, fun hqueue => ?_⟩,
    fun hwork => ⟨fun hbusy => ?_, fun hquiet hclean => ?_, fun e hquiet hdirty hfirst => ?_⟩,
    fun hwork => ⟨fun hqueue hwriting => ?_, ?_⟩, fun hwork => ⟨?_, fun hqueue hwriting hport hrx => ?_, fun hbusy => ?_⟩⟩
  · refine hdrain.trans (congrArg _ ?_)
    simp only [State.stopDrain, hwork]
    exact if_neg hengine
  · refine hdrain.trans (congrArg _ ?_)
    simp only [State.stopDrain, hwork]
    exact if_pos hengine
  · refine hdrain.trans (congrArg _ ?_)
    simp only [State.stopDrain, hwork]
    exact if_neg hqueue
  · refine hdrain.trans (congrArg _ ?_)
    simp only [State.stopDrain, hwork]
    exact if_pos hqueue
  · exact hcache.trans (congrArg _ (State.stopCache_of_busy hwork hbusy))
  · rw [State.stopCache_of_settled hwork hquiet hclean] at hcache
    have hempty := State.invalidateClean_empty hquiet hclean
    generalize s.cache.invalidateClean 16 = swept at hcache hempty
    exact ⟨_, hcache, rfl, hempty, rfl, rfl⟩
  · rw [State.stopCache_of_dirty hwork hquiet hdirty hfirst] at hcache
    obtain ⟨hstate, hsnapshot, hbelow, habove⟩ := State.stopCache_sweeps hquiet hfirst
    obtain ⟨-, -, hcmd, -, -, hstatus, -, -, -, hmem, -⟩ :=
      State.beginInvalidation_frame { s with cache := s.cache.invalidateClean e.val } e
    exact ⟨_, hcache, hcmd, hstate, hsnapshot, hbelow, habove, hstatus, hmem⟩
  · rw [State.stopEvents_of_events hwork, State.writerLook_of_quiet (.inl hqueue), if_pos ⟨hqueue, hwriting⟩] at hevents
    exact hevents
  · obtain ⟨-, hcmd, -⟩ := s.writerLook_frame
    rw [State.stopEvents_of_events hwork, State.stopAt, State.setWork, hcmd] at hevents
    exact ⟨_, hlook, hevents⟩
  · refine (hevents.trans (congrArg _ ?_)).trans hlook.symm
    simp only [State.stopEvents, hwork]
  · refine hend.trans (congrArg _ (State.stopFinish_of_quiet hwork hqueue hwriting hport ?_))
    obtain h | h | ⟨g, h⟩ := hrx
    all_goals rw [h, Receiver.mayHalt]
  · refine hend.trans (congrArg _ (State.stopFinish_of_busy hwork ?_))
    refine hbusy.imp_right (Or.imp_right (Or.imp_right fun hrx => ?_))
    obtain ⟨o, p, h⟩ | ⟨tx, h⟩ := hrx
    all_goals rw [h, Receiver.mayHalt] <;> nofun

/-! ### The laws after reset -/

/-- A reset of the part as it comes out of reset changes nothing. -/
theorem State.reset_afterReset : State.reset.afterReset false = State.reset := rfl

/-- Settles O51: the laws hold after any reset, and so in the reset state. -/
theorem lawsHoldAtReset : Obligations.LawsHoldAtReset := by
  unfold Obligations.LawsHoldAtReset State.ChannelLaw
  rw [State.resident_iff, ← State.reset_afterReset]
  exact ⟨Memory.wf_reset, Cache.AgeLaw.reset _, State.PinLaw.afterReset _ _, Writer.Law.reset,
    State.CompletionLaw.afterReset _ _, State.StagingLaw.afterReset _ _, State.HoldLaw.afterReset _ _,
    State.QuietLaw.afterReset _ _, State.Resident.afterReset _ _⟩

end Sys2Proof.Machine
